-- ==== Sys2Proof/Word.lean ====
section
/-! DEFINITION. The one word type of the part: the byte of the management links, of the flash, of the capability page, of the
GNSS time message and of a packet (R217 to R219, R65). Everything else the manual names is a number, a name or a list. -/

namespace Sys2Proof

/-- A byte as a bus partner sees it. -/
abbrev Byte := BitVec 8

/-- A run of printable characters, one byte each (R217: the characters of a text). -/
abbrev Text := List Byte

/-- The bytes of a text written out in this model. -/
def txt (s : String) : Text := s.toList.map (fun c => BitVec.ofNat 8 c.toNat)

end Sys2Proof
end

