-- ==== Sys2Proof/Syntax.lean ====
section
/-! DEFINITION. The commands the part takes from outside: one constructor of `Instr` for every row of spec/opcode_table.json.
A management request carries the slot whose link brought it, its tag and its parameter bytes as the frame held them (R188, R219);
an arrival carries what arrived; the end of a time limit carries nothing but, where the rule names one, the second it enters. A reply of
discovery also carries the number, in the order of sending from 0, of the command it answers: what tells a late reply from the answer
awaited (R22) is not in the manual (assumption 28). -/

namespace Sys2Proof

/-- A tenant slot, 0..3: slot 0 is the site slot (spec/00_scope.md). -/
abbrev Slot := Fin 4

/-- One value for each of the four slots. -/
structure PerSlot (α : Type) where
  s0 : α
  s1 : α
  s2 : α
  s3 : α
deriving DecidableEq, Repr

/-- A site time: seconds 0..2^48−1 and nanoseconds 0..999,999,999 (R120). -/
structure SiteTime where
  sec : Nat
  ns : Nat
deriving DecidableEq, Repr

/-- The identity of an ODU: maker and model codes (R20); the key of a profile entry (R30). -/
structure OduId where
  maker : Nat
  model : Nat
deriving DecidableEq, Repr

/-- The ODU's reply to READ_PAGE: the number of the command it answers (assumption 28) and the page's bytes (R22). -/
structure PageReply where
  number : Nat
  page : List Byte
deriving DecidableEq, Repr

/-- One egress segment of a far frame, in the form of R70: its descriptor, and the bytes of its payload blocks. -/
structure EgressSegment where
  slot : Slot
  seq : Nat
  offset : Nat
  length : Nat
  last : Bool
  pad : Nat
  data : List Byte
deriving DecidableEq, Repr

/-- The far terminal's reply to a time-exchange message (R141): the echo of t1, its receipt time t2, its reply time t3 and its
time-valid flag. -/
structure TimeReply where
  echo : SiteTime
  t2 : SiteTime
  t3 : SiteTime
  valid : Bool
deriving DecidableEq, Repr

/-- The far terminal's pattern-check report (R171): the frame it judges, the pattern PB received of it and those errored. -/
structure PatternReport where
  frame : Nat
  received : Nat
  errored : Nat
deriving DecidableEq, Repr

/-- What LKC's own check of the far terminal's pattern in one frame counted (R35, R171). -/
structure PatternCheck where
  received : Nat
  errored : Nat
deriving DecidableEq, Repr

/-- A frame from the far terminal (R35, R36): its sync flag, its echo of the far margin, its egress segments in directory order, its
time-exchange reply, its pattern-check report, and the count of the far terminal's own pattern PB in it. -/
structure FarFrame where
  sync : Bool
  margin : Int
  segments : List EgressSegment
  reply : Option TimeReply
  report : Option PatternReport
  pattern : Option PatternCheck
deriving DecidableEq, Repr

/-- A PORT_LOOP test packet (R168): the order id, its index from 0, its length in bytes, and whether its fill is the fixed fill
pattern throughout. Two packets are equal byte for byte exactly when these are equal; the manual does not give the fill's bytes. -/
structure TestPacket where
  order : Nat
  index : Nat
  length : Nat
  fillIntact : Bool
deriving DecidableEq, Repr

/-- The commands, one constructor for each row of spec/opcode_table.json, in the table's order. -/
inductive Instr where
  /-- POWER_ON_RESET (R2). The reset pin or a rise of the supply resets every block, samples the service strap and starts the descriptor load. -/
  | powerOnReset (strap : Bool)
  /-- DESCRIPTOR_LOAD (R211). The descriptor load completes: the read header and body are judged, VALID tables or defaults are installed, and SCU moves the site to BRINGUP or UNCONFIGURED. -/
  | descriptorLoad (flash : List Byte)
  /-- REQUEST_WRITE_BEGIN (R188). The first byte of a request write moves the link to RECEIVING, discards any waiting response and deasserts the ready line. -/
  | requestWriteBegin (k : Slot)
  /-- CORRUPT_FRAME (R189). A request frame that fails its form checks is answered CORRUPT and has no effect. -/
  | corruptFrame (k : Slot) (frame : List Byte)
  /-- UNKNOWN_NAME (R192). A well-formed frame whose name is not that of a request is answered UNKNOWN. -/
  | unknownName (k : Slot) (name : List Byte) (tag : Byte) (params : List Byte)
  /-- RESPONSE_READ (R190). A response read returns the waiting response; a read that runs through the check value removes the response and deasserts the ready line. -/
  | responseRead (k : Slot) (n : Nat)
  /-- IDENTIFY (R201). Returns the part name, design revision, slot, site and slot states, strap latch, lock and classes in force. -/
  | identify (k : Slot) (tag : Byte) (params : List Byte)
  /-- READ_ACCESS (R197). Returns the access matrix, the strap latch, the lock and the requester's classes in force. -/
  | readAccess (k : Slot) (tag : Byte) (params : List Byte)
  /-- WRITE_ACCESS (R196). Replaces one slot's row of permission classes. -/
  | writeAccess (k : Slot) (tag : Byte) (params : List Byte)
  /-- SET_LOCK (R200). Sets the configuration lock until the next power-on reset. -/
  | setLock (k : Slot) (tag : Byte) (params : List Byte)
  /-- READ_EVENTS (R206). Returns the requesting slot's pending set, enable set and attention line level. -/
  | readEvents (k : Slot) (tag : Byte) (params : List Byte)
  /-- ACK_EVENTS (R207). Removes the named kinds from the requesting slot's pending set and returns the pending set as it stood before. -/
  | ackEvents (k : Slot) (tag : Byte) (params : List Byte)
  /-- SET_EVENT_ENABLES (R208). Replaces the requesting slot's enable set whole. -/
  | setEventEnables (k : Slot) (tag : Byte) (params : List Byte)
  /-- SITE_STATUS (R15). Returns the site record and the levels of the inhibit lines. -/
  | siteStatus (k : Slot) (tag : Byte) (params : List Byte)
  /-- BEGIN_BRINGUP (R11). Checks the tables in force against each other and takes an UNCONFIGURED site to BRINGUP, starting discovery. -/
  | beginBringup (k : Slot) (tag : Byte) (params : List Byte)
  /-- RETRY_ACCEPTANCE (R12). In ACCEPT_FAILED, queues the acceptance set again, or takes the site to IN_SERVICE when the set is empty. -/
  | retryAcceptance (k : Slot) (tag : Byte) (params : List Byte)
  /-- FORCE_SERVICE (R13). Takes the site from ACCEPTANCE or ACCEPT_FAILED to IN_SERVICE with service entry FORCED. -/
  | forceService (k : Slot) (tag : Byte) (params : List Byte)
  /-- SITE_RESET (R14). Restarts the site across the blocks: the site returns to BRINGUP or stays UNCONFIGURED, queues are flushed, grant state is cleared and test orders end. -/
  | siteReset (k : Slot) (tag : Byte) (params : List Byte)
  /-- SET_ACCEPTANCE_SET (R9). Replaces the acceptance set, and in BRINGUP evaluates the bring-up step. -/
  | setAcceptanceSet (k : Slot) (tag : Byte) (params : List Byte)
  /-- SET_SITE_CLASS (R10). Replaces the site required time class, and in BRINGUP evaluates the bring-up step. -/
  | setSiteClass (k : Slot) (tag : Byte) (params : List Byte)
  /-- SET_COMMIT_CEILING (R83). Replaces the commitment ceiling, subject to the present sum of committed values. -/
  | setCommitCeiling (k : Slot) (tag : Byte) (params : List Byte)
  /-- SET_SLOT_STATE (R84). Enables, suspends or vacates an operator slot and tells the neighbouring blocks. -/
  | setSlotState (k : Slot) (tag : Byte) (params : List Byte)
  /-- WRITE_SHARE (R86). Writes the committed value, peak, weight or priority of a slot's contract. -/
  | writeShare (k : Slot) (tag : Byte) (params : List Byte)
  /-- WRITE_TUNING (R87). Writes a slot's weight, priority, required time class, PPS enable, PPS offset or label. -/
  | writeTuning (k : Slot) (tag : Byte) (params : List Byte)
  /-- READ_TENANT (R92). Returns a slot's tenant record, its time fitness and its seven traffic counters. -/
  | readTenant (k : Slot) (tag : Byte) (params : List Byte)
  /-- CLEAR_COUNTERS (R93). Clears a slot's seven traffic counters. -/
  | clearCounters (k : Slot) (tag : Byte) (params : List Byte)
  /-- TENANT_RESET (R94). Resets one slot's events, queues, grant state and test orders, keeping its record. -/
  | tenantReset (k : Slot) (tag : Byte) (params : List Byte)
  /-- LINK_STATUS (R47). Returns the link record, including the rung state and margins. -/
  | linkStatus (k : Slot) (tag : Byte) (params : List Byte)
  /-- READ_PROFILES (R32). Returns the radio profile table. -/
  | readProfiles (k : Slot) (tag : Byte) (params : List Byte)
  /-- LINK_RESTART (R43). Takes the link to DISCOVERY from any state but HELD. -/
  | linkRestart (k : Slot) (tag : Byte) (params : List Byte)
  /-- SET_RUNG_LIMITS (R61). Replaces the rung ceiling as written and reports the ceiling in force. -/
  | setRungLimits (k : Slot) (tag : Byte) (params : List Byte)
  /-- WRITE_PROFILE (R31). Adds, replaces or removes a radio profile entry. -/
  | writeProfile (k : Slot) (tag : Byte) (params : List Byte)
  /-- SET_LINK_LIMITS (R203). Replaces the up-count limit U, the loss limit L or the confirm limit. -/
  | setLinkLimits (k : Slot) (tag : Byte) (params : List Byte)
  /-- QUEUE_STATUS (R78). Returns a slot's traffic record. -/
  | queueStatus (k : Slot) (tag : Byte) (params : List Byte)
  /-- GRANT_STATUS (R116). Returns a slot's grant record, its last pass and the limits M and K. -/
  | grantStatus (k : Slot) (tag : Byte) (params : List Byte)
  /-- SET_GRANT_LIMITS (R115). Replaces the shortfall threshold M or the aging limit K. -/
  | setGrantLimits (k : Slot) (tag : Byte) (params : List Byte)
  /-- TIME_READ (R130). Returns the latched site time, the timing state, the class, the selected source and the sticky flags. -/
  | timeRead (k : Slot) (tag : Byte) (params : List Byte)
  /-- TIME_STATUS (R131). Returns the state of the time unit, its sources and the PPS generators. -/
  | timeStatus (k : Slot) (tag : Byte) (params : List Byte)
  /-- SET_TIME (R132). Steps site time to a stated value while the unit is in FREERUN. -/
  | setTime (k : Slot) (tag : Byte) (params : List Byte)
  /-- SET_SOURCE_PRIORITY (R146). Sets a reference source's priority and judges the selection afresh. -/
  | setSourcePriority (k : Slot) (tag : Byte) (params : List Byte)
  /-- PRESET_INTEGRATOR (R157). Sets the loop integrator, and in FREERUN or HOLDOVER the rate correction y. -/
  | presetIntegrator (k : Slot) (tag : Byte) (params : List Byte)
  /-- SET_LOOP_BANK (R158). Writes the shifts of a loop bank. -/
  | setLoopBank (k : Slot) (tag : Byte) (params : List Byte)
  /-- SET_TIME_LIMITS (R159). Writes the lock window, the outlier and step limits, the holdover limits or the rounding mode. -/
  | setTimeLimits (k : Slot) (tag : Byte) (params : List Byte)
  /-- CLEAR_TIME_STICKY (R156). Returns the sticky timing flags, then clears the named ones. -/
  | clearTimeSticky (k : Slot) (tag : Byte) (params : List Byte)
  /-- ORDER_TEST (R163). Places a test order at the tail of the queue and considers a start. -/
  | orderTest (k : Slot) (tag : Byte) (params : List Byte)
  /-- CANCEL_TEST (R164). Withdraws a queued order, or aborts or decides the abort of a running one. -/
  | cancelTest (k : Slot) (tag : Byte) (params : List Byte)
  /-- TEST_STATUS (R187). Returns the test order queue and the progress of the running order. -/
  | testStatus (k : Slot) (tag : Byte) (params : List Byte)
  /-- READ_RESULTS (R185). Returns up to 4 results log entries from a starting sequence number. -/
  | readResults (k : Slot) (tag : Byte) (params : List Byte)
  /-- SAVE_DESCRIPTOR (R214). Builds a snapshot of the tables in force and begins a flash save in ERASING. -/
  | saveDescriptor (k : Slot) (tag : Byte) (params : List Byte)
  /-- DESCRIPTOR_STATUS (R216). Returns the load outcome, the save state, the last save and the acceptance set in force. -/
  | descriptorStatus (k : Slot) (tag : Byte) (params : List Byte)
  /-- ODU_IDENTIFY_REPLY (R25). The ODU's reply to IDENTIFY sets the ODU identity and moves discovery to READ_PAGE. -/
  | oduIdentifyReply (number : Nat) (id : OduId)
  /-- IDENTIFY_REPLY_LIMIT (R25). The 100 local ms reply limit of IDENTIFY runs out; IDENTIFY is retried, or after attempt 3 the link goes OFF with reason NO_ODU. -/
  | identifyReplyLimit
  /-- READ_PAGE_REPLY (R26). The capability page returned by the ODU is judged, the ladder is built and checked, and the link enters ACQUIRING or goes OFF. -/
  | readPageReply (page : PageReply)
  /-- READ_PAGE_REPLY_LIMIT (R26). The 100 local ms reply limit of READ_PAGE runs out; READ_PAGE is retried, or after attempt 3 the ladder is built from the profile table. -/
  | readPageReplyLimit
  /-- LOOP_ON_CONFIRMED (R41). The ODU's confirmation of LOOP_ON moves the hold to LOOPING. -/
  | loopOnConfirmed
  /-- LOOP_ON_LIMIT (R41). The confirm limit of LOOP_ON runs out; LOOP_OFF is sent, LOOP_EXIT is entered and the order's outcome is decided TIMEOUT. -/
  | loopOnLimit
  /-- LOOP_OFF_CONFIRMED (R42). The ODU's confirmation of LOOP_OFF returns the link from HELD to UP, and the LINK_LOOP order ends. -/
  | loopOffConfirmed
  /-- LOOP_OFF_LIMIT (R42). The confirm limit of LOOP_OFF runs out; the link enters LOST and the LINK_LOOP order ends TIMEOUT. -/
  | loopOffLimit
  /-- LOOPED_FRAME_RETURN (R41). A looped frame comes back from the ODU, and its errored pattern PB are counted and handed to TSU. -/
  | loopedFrameReturn (frame errored : Nat)
  /-- STATUS_REPORT (R50). An ODU status report sets the latest local margin and, in UP, the effective margin, the low-margin run and the rung decision. -/
  | statusReport (margin : Int)
  /-- MISSING_STATUS_REPORT (R23). In UP, a status report not arrived by the time the next is due is counted as a report of margin -400. -/
  | missingStatusReport
  /-- FAR_FRAME (R36). A frame from the far terminal arrives; a synced frame hands on its margin echo, egress segments, exchange reply and pattern-check report. -/
  | farFrame (f : FarFrame)
  /-- MISSING_FAR_FRAME (R36). In UP, an expected far frame that is missing by the time the next is due is counted unsynced and raises the sync-miss run. -/
  | missingFarFrame
  /-- BACKOFF_EXPIRY (R39). The LOST backoff timer reaches 1,000 local ms and the link enters ACQUIRING at rung 0. -/
  | backoffExpiry
  /-- FRAME_FILL (R34). Each air frame time in ACQUIRING, UP or HELD, LKC advances the frame number, fixes the rung in force and fills the next air frame. -/
  | frameFill
  /-- FRAME_LEAVES_RADIO_PORT (R140). A filled frame leaves the radio port; a time-exchange request in it is stamped t1 and its reply timer starts. -/
  | frameLeavesRadioPort
  /-- PACKET_ARRIVAL (R65). A packet arriving on a traffic port is judged, classed and admitted to its class queue or dropped. -/
  | packetArrival (k : Slot) (bytes : List Byte) (cutShort : Bool)
  /-- GNSS_TIME_MESSAGE (R137). A well-formed GNSS time message becomes the pending message. -/
  | gnssTimeMessage (bytes : List Byte)
  /-- GNSS_PULSE (R138). A GNSS pulse edge captures site time and pairs with the pending message to yield a valid or an invalid outcome. -/
  | gnssPulse
  /-- PULSE_TIMER_EXPIRY (R139). The GNSS pulse timer reaches 1,100 local ms, yielding a missing outcome and discarding the pending message. -/
  | pulseTimerExpiry
  /-- SITE_SECOND_BOUNDARY (R122). The advance of site time enters a whole second above the last second reached, raising a site second boundary. -/
  | siteSecondBoundary (n : Nat)
  /-- REPLY_TIMER_EXPIRY (R141). The exchange reply timer reaches 50 local ms and the exchange ends with a missing outcome. -/
  | replyTimerExpiry
  /-- PPS_EMISSION (R125). The advance of a slot's shifted time into a new whole second emits a PPS pulse when the slot may emit. -/
  | ppsEmission (k : Slot) (n : Int)
  /-- PPS_DELAYED_EMISSION (R125). A pulse that fell due while the output was still high is emitted 1 local ms after the output was driven low. -/
  | ppsDelayedEmission (k : Slot)
  /-- PPS_PULSE_END (R125). The PPS pulse timer reaches 100 local ms and the output returns low. -/
  | ppsPulseEnd (k : Slot)
  /-- PORT_LOOP_PACKET_SEND (R168). At each local millisecond of a PORT_LOOP order, the next test packet is sent through the looped port. -/
  | portLoopPacketSend
  /-- PORT_LOOP_RETURN (R169). A test packet returned through the loop is compared with the packet expected, and the order may end PASS or FAIL. -/
  | portLoopReturn (p : TestPacket)
  /-- LOOP_TIMER_EXPIRY (R169). The PORT_LOOP loop timer reaches 2,000 local ms and the order ends TIMEOUT. -/
  | loopTimerExpiry
  /-- ERASE_COMPLETE (R215). The flash reports the erase complete and the save enters PROGRAMMING. -/
  | eraseComplete
  /-- PROGRAM_COMPLETE (R215). The last byte of body and header is programmed and the save enters VERIFYING. -/
  | programComplete
  /-- VERIFY_COMPLETE (R215). The read-back is compared with the snapshot, and the save enters COMMITTING or ends FLASH_ERROR. -/
  | verifyComplete (readBack : List Byte)
  /-- COMMIT_COMPLETE (R215). The commit mark is programmed and read back, and the save ends OK or FLASH_ERROR. -/
  | commitComplete (mark : Byte)
  /-- SAVE_TIMER_EXPIRY (R215). The save timer reaches 3,000 local ms and the save ends FLASH_ERROR. -/
  | saveTimerExpiry
deriving DecidableEq, Repr

end Sys2Proof
end

