-- ==== Sys2Proof/Config.lean ====
section
/-! DEFINITION. The figures the manual fixes for the whole part, each with its rule, and the two values it leaves open: what the part
drives on the data line of a response read past the response's check value (R190 gives bytes up to the check value, R219 idle fill
only where no response waits), and which of two commands a confirmation is of where an earlier one ended unanswered (R22). -/

namespace Sys2Proof.Config

/-- UNVERIFIED free value (assumption 3): the byte driven at the n-th clocked byte past the end of a response. Nothing is known of it. -/
opaque pastEndByte : Nat → Byte

/-- UNVERIFIED free value (assumption 28): whether the n-th confirmation that comes with its command outstanding, and with an earlier one
of its kind ended unanswered, is the earlier one's. Nothing is known of it. -/
opaque confirmsEarlier : Nat → Bool

/-- Every saturating counter stops at 2^32−1 (R20, R76, R96, R149, R170). -/
def counterMax : Nat := 4294967295

/-- Air frame numbers and packet sequence numbers wrap after 65,535 (R20, R64). -/
def frameModulus : Nat := 65536

/-- Site seconds wrap after 2^48−1 (R120, R121). -/
def secondsModulus : Nat := 281474976710656

/-- Nanoseconds in a site second. -/
def nsPerSecond : Nat := 1000000000

/-- Local nanoseconds in a local millisecond. -/
def nsPerMs : Nat := 1000000

/-- One whole nanosecond of correction, counted in TU-ns: y is in 1/256 ppb (R121). -/
def residueUnit : Int := 256000000000

/-- F_max, 50 ppm in TU (R152). -/
def maxCorrection : Int := 12800000

/-- Payload blocks of the control reserve (R35). -/
def controlReserve : Nat := 4

/-- Bytes in a payload block. -/
def pbBytes : Nat := 64

/-- The class limits of the ingress queues (R67). -/
def expressLimit : Nat := 256
def bulkLimit : Nat := 3840

/-- Packet lengths (R65). -/
def minPacket : Nat := 64
def maxPacket : Nat := 9216

/-- PB of the longest packet (R64, R73). -/
def maxPacketPB : Nat := 144

/-- Orders the test order queue holds (R161) and entries the results log holds (R183). -/
def maxOrders : Nat := 8
def maxLog : Nat := 16

/-- Entries in the radio profile table (R30) and templates in the acceptance set (R1). -/
def maxProfiles : Nat := 8
def maxTemplates : Nat := 6

/-- The sync-miss run that loses the link (R36). -/
def syncMissLimit : Nat := 16

/-- The age above which a far margin is stale (R49). -/
def freshAge : Nat := 8

/-- Time limits in local ms: a discovery reply (R22), the backoff (R39), the GNSS pulse timer (R139), the exchange reply timer (R141),
a PPS pulse and its delay (R125), a port loop (R169), a save (R215). -/
def discoveryLimit : Nat := 100
def backoffLimit : Nat := 1000
def pulseLimit : Nat := 1100
def replyLimit : Nat := 50
def ppsWidth : Nat := 100
def ppsDelay : Nat := 1
def portLoopLimit : Nat := 2000
def saveLimit : Nat := 3000

/-- The figure a comparison takes when the GNSS sample has a seconds mismatch (R178). -/
def mismatchDifference : Nat := 1000000000

/-- The longest list of parameter bytes (R188). -/
def maxParams : Nat := 252

/-- The design revision this manual describes (R201). -/
def designRevision : Nat := 1

end Sys2Proof.Config
end

