-- ==== Sys2Proof/Machine/State.lean ====
section
/-! DEFINITION. The state of the part as plain data, block by block (spec/00_scope.md, Block overview), the machine right after a
power-on reset, and the reasons a step can stop. INVENTORY.md lists every field with the rule that names it. -/

namespace Sys2Proof.Machine

open Sys2Proof

/-! ## Names -/

/-- The site states (section 1.1). -/
inductive SiteState where
  | loading | unconfigured | bringup | acceptance | acceptFailed | inService
deriving DecidableEq, Repr

/-- Time classes, weakest first; also the published quality class (R3, R80, R128). -/
inductive TimeClass where
  | none | frequency | phase
deriving DecidableEq, Repr

/-- Slot states (R80). -/
inductive SlotState where
  | vacant | enabled | suspended
deriving DecidableEq, Repr

/-- How the site came into service (R1). -/
inductive ServiceEntry where
  | accepted | emptySet | forced
deriving DecidableEq, Repr

/-- The four kinds of test (R162), each with its parameters (R163): an order's kind and parameters, or a template of the acceptance
set. -/
inductive Test where
  | portLoop (slot : Slot) (count length : Nat)
  | airPattern (toSend rate frames allowed : Nat)
  | linkLoop (frames : Nat)
  | timeCompare (comparisons limit : Nat)
deriving DecidableEq, Repr

/-- Who asked for an order (R162). -/
inductive Requester where
  | slot (k : Slot)
  | site
deriving DecidableEq, Repr

/-- Abort reasons (R183). -/
inductive AbortReason where
  | linkLost | siteReset | tenantReset | cancel
deriving DecidableEq, Repr

/-- The outcomes of an order (R183); an abort reason is present with ABORTED alone. -/
inductive TestOutcome where
  | pass | fail | timeout | incomplete
  | aborted (r : AbortReason)
  | cancelled | notRun
deriving DecidableEq, Repr

/-- The twelve event kinds (section 10.8). -/
inductive EventKind where
  | siteState | linkState | rung | timeQuality | source | shortfall | deficitFull | queueDrop | timeUnfit | recordChanged
  | testDone | saveDone
deriving DecidableEq, Repr

/-- The eight permission classes, in the order of the access bits (R194, R217). -/
inductive PermClass where
  | observeAll | shareControl | ownTuning | timeControl | linkControl | testOwn | testShared | siteControl
deriving DecidableEq, Repr

/-- The statuses of a response (R189). -/
inductive Status where
  | ok | corrupt | unknown | wrongState | denied | locked | badValue | overcommit | busy | full | notFound
deriving DecidableEq, Repr

/-- Why the link is OFF (R20). -/
inductive OffReason where
  | none | noOdu | noProfile | unconfigured
deriving DecidableEq, Repr

/-- The steps of discovery (R20). -/
inductive DiscoveryStep where
  | identify | readPage
deriving DecidableEq, Repr

/-- The control-channel commands to the ODU (R22). -/
inductive OduCommand where
  | identify | readPage | loopOn | loopOff
deriving DecidableEq, Repr

/-- The loop phases of a hold (R41). HOLD_PENDING counts the frames filled before the hold that have still to be sent, and holds
whether TSU has asked for an early end, which is taken as LOOP_ENTRY is reached. -/
inductive LoopPhase where
  | holdPending (unsent : Nat) (endAsked : Bool)
  | loopEntry | looping | loopExit
deriving DecidableEq, Repr

/-- The link state with the fields that are present in one state alone (R20): the off reason, the discovery step and attempt, the
loop phase, and the backoff timer. -/
inductive LinkState where
  | off (reason : OffReason)
  | discovery (step : DiscoveryStep) (attempt : Nat)
  | acquiring | up
  | held (phase : LoopPhase)
  | lost (backoff : Nat)
deriving DecidableEq, Repr

/-- Where a ladder field came from (R20, R27). -/
inductive LadderOrigin where
  | page | profile | zero
deriving DecidableEq, Repr

/-- Causes of a rung notice (R56). -/
inductive NoticeCause where
  | marginDown | marginUp | ceiling
deriving DecidableEq, Repr

/-- The stage of a rung notice with the frames present in ANNOUNCED (R56). -/
inductive NoticeStage where
  | decided
  | announced (frame effective : Nat)
deriving DecidableEq, Repr

/-- The two ingress classes (R64). -/
inductive IngressClass where
  | express | bulk
deriving DecidableEq, Repr

/-- The two reference sources (R135). -/
inductive Source where
  | gnss | link
deriving DecidableEq, Repr

/-- Qualification states (R135). -/
inductive Qualification where
  | disabled | unqualified | qualified
deriving DecidableEq, Repr

/-- Timing states (R147). -/
inductive TimingState where
  | freerun | acquiring | locked | holdover
deriving DecidableEq, Repr

/-- Marks of the phase history (R148). -/
inductive Mark where
  | inside | outside
deriving DecidableEq, Repr

/-- The rounding modes of the loop (R153). -/
inductive Rounding where
  | nearestEven | towardZero
deriving DecidableEq, Repr

/-- The sections of the descriptor body, in body order (R210, R212). -/
inductive Section where
  | site | tenant | access | time | profile
deriving DecidableEq, Repr

/-- Why a load ended with the defaults (R211). -/
inductive LoadFailure where
  | noDescriptor | badVersion | badLength | notCommitted | checkValue
  | badContent (s : Section)
deriving DecidableEq, Repr

/-- How a load ended (R211). -/
inductive LoadOutcome where
  | valid
  | defaults (f : LoadFailure)
deriving DecidableEq, Repr

/-- The phases of a save that are not IDLE (R213). -/
inductive SavePhase where
  | erasing | programming | verifying | committing
deriving DecidableEq, Repr

/-! ## SLI: the slot interface (chapter 10) -/

/-- A set of event kinds: whether each kind is in it (R204). -/
structure EventSet where
  siteState : Bool := false
  linkState : Bool := false
  rung : Bool := false
  timeQuality : Bool := false
  source : Bool := false
  shortfall : Bool := false
  deficitFull : Bool := false
  queueDrop : Bool := false
  timeUnfit : Bool := false
  recordChanged : Bool := false
  testDone : Bool := false
  saveDone : Bool := false
deriving DecidableEq, Repr

/-- A set of permission classes: a row of the access matrix (R194). -/
structure ClassSet where
  observeAll : Bool := false
  shareControl : Bool := false
  ownTuning : Bool := false
  timeControl : Bool := false
  linkControl : Bool := false
  testOwn : Bool := false
  testShared : Bool := false
  siteControl : Bool := false
deriving DecidableEq, Repr

/-- One field of a response's data (R219): a number in so many bytes, a text, the presence byte of an optional field, the count of a
list, or a site time. -/
inductive Field where
  | num (width : Nat) (value : Int)
  | text (t : Text)
  | present (b : Bool)
  | count (n : Nat)
  | time (t : SiteTime)
deriving DecidableEq, Repr

/-- A response (R189). -/
structure Response where
  tag : Byte
  status : Status
  data : List Field
deriving DecidableEq, Repr

/-- One management link (R188). -/
structure LinkRec where
  receiving : Bool := false
  waiting : Option Response := none
  ready : Bool := false
deriving DecidableEq, Repr

/-- One slot's event record and attention line (R204, R205). -/
structure EventRec where
  pending : EventSet := {}
  enabled : EventSet := {}
  attention : Bool := false
deriving DecidableEq, Repr

/-- What SLI holds: the link records, the event records, the access matrix, the configuration lock and the service-strap latch. -/
structure Sli where
  links : PerSlot LinkRec
  events : PerSlot EventRec
  access : PerSlot ClassSet
  lock : Bool
  strap : Bool
deriving DecidableEq, Repr

/-! ## SCU: the site controller (chapters 1 and 5) -/

/-- The bring-up wait (R1): the unmet items, or QUEUE_FULL with the room needed and the room free. -/
inductive BringupWait where
  | linkNotUp | timeClass | linkAndTime
  | queueFull (needed free : Nat)
deriving DecidableEq, Repr

/-- An entry of the acceptance tracking list (R1). -/
structure Tracked where
  template : Nat
  order : Nat
deriving DecidableEq, Repr

/-- The acceptance failure (R1, R7): the template index, the order, its test and its outcome with any abort reason. -/
structure AcceptFailure where
  template : Nat
  order : Nat
  test : Test
  outcome : TestOutcome
deriving DecidableEq, Repr

/-- A tenant record (R80). -/
structure TenantRec where
  state : SlotState
  label : Option Text := none
  committed : Nat := 0
  peak : Nat := 0
  weight : Nat := 1
  priority : Nat := 0
  required : TimeClass := .none
  ppsOn : Bool := false
  ppsOffset : Int := 0
deriving DecidableEq, Repr

/-- What SCU holds: the site record of R1 (its descriptor at load is DSU's load outcome), the site-wide settings it owns, the tenant
record table (no records during LOADING, R91), each slot's time fitness (true: fit) and the inhibit lines (true: asserted). -/
structure Scu where
  site : SiteState
  wait : Option BringupWait
  tracking : List Tracked
  failure : Option AcceptFailure
  entry : Option ServiceEntry
  ceiling : Nat
  siteClass : TimeClass
  acceptanceSet : List Test
  tenants : Option (PerSlot TenantRec)
  fit : PerSlot Bool
  inhibit : PerSlot Bool
deriving DecidableEq, Repr

/-! ## LKC: the link controller (chapters 2 and 3) -/

/-- One rung: its capacity in PB and its thresholds in quarter-dB (R20). -/
structure Rung where
  capacity : Nat
  up : Int
  down : Int
deriving DecidableEq, Repr

/-- A ladder: its rungs, rung 0 first, its loop-supported flag and its asymmetry in ns (R20). -/
structure Ladder where
  rungs : List Rung
  loop : Bool
  asymmetry : Int
deriving DecidableEq, Repr

/-- The ladder source (R20): of capacities and loop flag, of thresholds, of asymmetry. -/
structure LadderSource where
  capacities : LadderOrigin
  thresholds : LadderOrigin
  asymmetry : LadderOrigin
deriving DecidableEq, Repr

/-- An entry of the radio profile table (R30). -/
structure Profile where
  key : OduId
  ladder : Ladder
deriving DecidableEq, Repr

/-- The outstanding control-channel command (R22), with the time since it was sent and its limit: local ms for IDENTIFY and
READ_PAGE, air frames for LOOP_ON and LOOP_OFF; and its number among the commands sent, which a reply of discovery names
(assumption 28). -/
structure Outstanding where
  cmd : OduCommand
  elapsed : Nat
  limit : Nat
  number : Nat
deriving DecidableEq, Repr

/-- How many LOOP_ON and LOOP_OFF commands have ended unanswered with no late confirmation yet come, and how many confirmations have been
judged between such a one and the command outstanding. The model's own (assumption 28). -/
structure LateConfirms where
  loopOn : Nat := 0
  loopOff : Nat := 0
  judged : Nat := 0
deriving DecidableEq, Repr

/-- A rung notice (R56). -/
structure Notice where
  target : Nat
  cause : NoticeCause
  stage : NoticeStage
deriving DecidableEq, Repr

/-- The far margin with its age in air frames (R49). -/
structure FarMargin where
  value : Int
  age : Nat
deriving DecidableEq, Repr

/-- The six loss counters (R20). -/
structure LossCounters where
  noOdu : Nat := 0
  noProfile : Nat := 0
  sync : Nat := 0
  margin : Nat := 0
  unsynced : Nat := 0
  holdExit : Nat := 0
deriving DecidableEq, Repr

/-- A frame of pattern PB whose judgement is awaited: its number, its pattern PB and the frame fills since (R41, R170). -/
structure Awaiting where
  frame : Nat
  pb : Nat
  fills : Nat
deriving DecidableEq, Repr

/-- A tenant segment: its descriptor (R70) and the bytes of its PB. -/
structure Segment where
  slot : Slot
  seq : Nat
  offset : Nat
  length : Nat
  last : Bool
  pad : Option Nat
  data : List Byte
deriving DecidableEq, Repr

/-- The rung notice as a frame carries it: target rung and effective frame (R56). -/
structure CarriedNotice where
  target : Nat
  effective : Nat
deriving DecidableEq, Repr

/-- A filled air frame (R34, R35): number, rung in force, the parts of the control reserve (notice, near margin report, whether it
carries a time-exchange request, pattern-check report), and the payload: pattern PB, then tenant segments, then idle PB. -/
structure AirFrame where
  number : Nat
  rung : Nat
  notice : Option CarriedNotice
  nearMargin : Int
  request : Bool
  report : Option PatternCheck
  pattern : Nat
  segments : List Segment
  idle : Nat
deriving DecidableEq, Repr

/-- What LKC holds: the link record of R20 and chapter 3, its fields of the site record (R60, R203), the radio profile table, the
frames filled and not yet sent, the looped frames not yet judged (R41), an ANNOUNCED notice voided by a replacement not yet announced
(R57), and what the last frame received held of the far terminal's pattern (R35). `sent` is the model's own: the number of
control-channel commands sent so far, and so is `late` (assumption 28). -/
structure Lkc where
  state : LinkState
  odu : Option OduId
  ladder : Option Ladder
  source : Option LadderSource
  outstanding : Option Outstanding
  rung : Nat
  frame : Nat
  syncMiss : Nat
  lowRun : Nat
  losses : LossCounters
  ceiling : Nat
  notice : Option Notice
  voided : Option Notice
  upCount : Nat
  near : Option Int
  far : Option FarMargin
  effective : Option Int
  upLimit : Nat
  lossLimit : Nat
  confirmLimit : Nat
  profiles : List Profile
  unsent : List AirFrame
  looped : List Awaiting
  farPattern : Option PatternCheck
  sent : Nat
  late : LateConfirms
deriving DecidableEq, Repr

/-! ## TQM: the tenant queue manager (chapter 4) -/

/-- A packet record (R64) with the packet's bytes, which TQM carries as received (R65). -/
structure Packet where
  seq : Nat
  cls : IngressClass
  length : Nat
  total : Nat
  remaining : Nat
  bytes : List Byte
deriving DecidableEq, Repr

/-- The egress partial packet (R64) with the bytes of the PB it holds. -/
structure EgressPartial where
  seq : Nat
  held : Nat
  bytes : List Byte
deriving DecidableEq, Repr

/-- One slot's traffic record (R64, R76). -/
structure Traffic where
  express : List Packet := []
  bulk : List Packet := []
  nextSeq : Nat := 0
  egress : Option EgressPartial := none
  accepted : Nat := 0
  droppedFull : Nat := 0
  malformed : Nat := 0
  egressDiscarded : Nat := 0
deriving DecidableEq, Repr

/-! ## GRE: the grant engine (chapter 6) -/

/-- The figures of an eligible slot's part in a pass (R116). -/
structure PassFigures where
  effPriority : Nat
  q : Nat
  b : Nat
  e : Nat
  g : Nat
  s : Nat
  o : Nat
  m : Nat
  x : Nat
  r : Nat
  f : Nat
  r2 : Nat
  grant : Nat
deriving DecidableEq, Repr

/-- The last pass as GRANT_STATUS returns it (R116): the figures are present when the slot was eligible. -/
structure LastPass where
  frame : Nat
  rung : Nat
  capacity : Nat
  borrow : Nat
  room : Nat
  shortage : Bool
  figures : Option PassFigures
deriving DecidableEq, Repr

/-- One slot's grant record (R96): in the met history true is MET, newest first; shortfall true is IN; due true is DUE. -/
structure GrantRec where
  deficit : Nat := 0
  saturated : Bool := false
  history : List Bool := []
  shortfall : Bool := false
  aging : Nat := 0
  due : Bool := false
  committed : Nat := 0
  surplus : Nat := 0
  shortFrames : Nat := 0
  last : Option LastPass := none
deriving DecidableEq, Repr

/-- What GRE holds: the grant records, the shortfall threshold M and the aging limit K. -/
structure Gre where
  slots : PerSlot GrantRec
  metLimit : Nat
  agingLimit : Nat
deriving DecidableEq, Repr

/-! ## TMU: the time unit (chapters 7 and 8) -/

/-- A valid sample: its error e in ns, its seconds mismatch (0 for LINK) and the site second it belongs to (R135, R138). -/
structure Sample where
  error : Int
  mismatch : Int
  second : Nat
deriving DecidableEq, Repr

/-- A source's record (R135); its priority is among the time parameters. -/
structure SourceRec where
  qual : Qualification := .unqualified
  validRun : Nat := 0
  invalidRun : Nat := 0
  last : Option Sample := none
deriving DecidableEq, Repr

/-- The pending GNSS message (R135). -/
structure PendingMessage where
  seconds : Nat
  fixValid : Bool
deriving DecidableEq, Repr

/-- What an exchange holds once its request is sent: t1 and the reply timer (R135). -/
structure ExchangeSent where
  t1 : SiteTime
  timer : Nat
deriving DecidableEq, Repr

/-- The exchange in flight (R135). -/
structure Exchange where
  second : Nat
  request : Option Nat := none
  sent : Option ExchangeSent := none
deriving DecidableEq, Repr

/-- A loop bank: the proportional shift a and the integral shift b (R158). -/
structure LoopBank where
  a : Nat
  b : Nat
deriving DecidableEq, Repr

/-- The time parameters (R160). -/
structure TimeParams where
  gnssPriority : Nat := 2
  linkPriority : Nat := 1
  acquire : LoopBank := ⟨2, 6⟩
  track : LoopBank := ⟨4, 10⟩
  rounding : Rounding := .nearestEven
  lockWindow : Nat := 100
  outlierLimit : Nat := 1000
  stepLimit : Nat := 2000
  hPhase : Nat := 14400
  hFreq : Nat := 259200
deriving DecidableEq, Repr

/-- The sticky timing flags (R155). -/
structure StickyFlags where
  stepped : Bool := false
  outlierSeen : Bool := false
  integratorSaturated : Bool := false
  correctionSaturated : Bool := false
deriving DecidableEq, Repr

/-- One slot's PPS generator (R124), with the pulses that wait their delay, oldest first: for each the local ms since the output was driven
low for it (R125). -/
structure PpsGen where
  lastEmitted : Option Int := none
  high : Bool := false
  timer : Option Nat := none
  delayed : List Nat := []
deriving DecidableEq, Repr

/-- The crossings that the last nanosecond of the advance made and that have not been taken yet: the second site time entered (R122), and
the second each slot's shifted time entered (R125). The model's own (assumption 6). -/
structure Crossings where
  second : Option Nat := none
  pulses : PerSlot (Option Int) := ⟨none, none, none, none⟩
deriving DecidableEq, Repr

/-- What TMU holds: the time record of R120, the sources and the selection of R135, the timing state of R147, the discipline of
sections 8.5 and 8.6, the time parameters, the PPS generators and the crossings made and not taken. The pulse timer is absent until the
end of the load. -/
structure Tmu where
  site : SiteTime
  residue : Int
  y : Int
  lastSecond : Option Nat
  cls : TimeClass
  timing : TimingState
  everLocked : Bool
  holdover : Nat
  history : List Mark
  sticky : StickyFlags
  integ : Int
  selected : Option Source
  gnss : SourceRec
  link : SourceRec
  message : Option PendingMessage
  pulseTimer : Option Nat
  exchange : Option Exchange
  pathDelay : Option Int
  params : TimeParams
  pps : PerSlot PpsGen
  crossed : Crossings
deriving DecidableEq, Repr

/-! ## TSU: the test unit (chapter 9) -/

/-- An order (R162); its state is QUEUED or RUNNING by where TSU holds it. -/
structure Order where
  id : Nat
  requester : Requester
  test : Test
deriving DecidableEq, Repr

/-- Progress of a PORT_LOOP (R168). -/
structure PortLoopProgress where
  sent : Nat := 0
  returned : Nat := 0
  mismatched : Nat := 0
  timer : Nat := 0
deriving DecidableEq, Repr

/-- Progress of an AIR_PATTERN (R170). -/
structure AirProgress where
  sent : Nat := 0
  errored : Nat := 0
  used : Nat := 0
  awaiting : List Awaiting := []
deriving DecidableEq, Repr

/-- Progress of a LINK_LOOP (R174): the loop phase is the link's own; `held` says that the request for the hold has been taken. -/
structure LoopProgress where
  held : Bool := false
  looped : Nat := 0
  sent : Nat := 0
  errored : Nat := 0
  decided : Option TestOutcome := none
deriving DecidableEq, Repr

/-- Progress of a TIME_COMPARE (R178). The maximum |difference| starts at 0, no comparison having been made: no rule gives it a starting value
(assumption 41). -/
structure CompareProgress where
  made : Nat := 0
  maxDiff : Nat := 0
  boundaries : Nat := 0
  heldGnss : Option Sample := none
  heldLink : Option Sample := none
deriving DecidableEq, Repr

/-- The progress of the running order, by kind (R161, R187). -/
inductive Progress where
  | portLoop (p : PortLoopProgress)
  | airPattern (p : AirProgress)
  | linkLoop (p : LoopProgress)
  | timeCompare (p : CompareProgress)
deriving DecidableEq, Repr

/-- The RUNNING order with its progress. -/
structure Running where
  order : Order
  progress : Progress
deriving DecidableEq, Repr

/-- The measures of a log entry (R184). -/
structure Measures where
  pbSent : Option Nat := none
  pbErrored : Option Nat := none
  mismatched : Option Nat := none
  maxDiff : Option Nat := none
  framesUsed : Option Nat := none
deriving DecidableEq, Repr

/-- An entry of the results log (R183). -/
structure LogEntry where
  seq : Nat
  order : Order
  outcome : TestOutcome
  measures : Measures
  time : SiteTime
  cls : TimeClass
deriving DecidableEq, Repr

/-- What TSU holds (R161). The test order queue, oldest first, is the RUNNING order, which is the oldest because orders join at the
tail and the oldest QUEUED one starts, and then the QUEUED ones. An absent next sequence number is the exhausted one (R183). -/
structure Tsu where
  running : Option Running
  queued : List Order
  nextId : Nat
  log : List LogEntry
  nextSeq : Option Nat
deriving DecidableEq, Repr

/-! ## DSU: the descriptor store (chapter 11) -/

/-- A save in flight (R213). -/
structure Save where
  phase : SavePhase
  requester : Slot
  snapshot : List Byte
  timer : Nat
deriving DecidableEq, Repr

/-- The last save (R213); `good` true is OK, false FLASH_ERROR. -/
structure LastSave where
  requester : Slot
  good : Bool
  time : SiteTime
deriving DecidableEq, Repr

/-- What DSU holds: the load record (absent while loading, R211) and the save record (R213; no save is IDLE). -/
structure Dsu where
  load : Option LoadOutcome
  save : Option Save
  last : Option LastSave
deriving DecidableEq, Repr

/-- The tables a descriptor holds (R210): what a load installs and a save takes into its snapshot. -/
structure Tables where
  ceiling : Nat
  rungCeiling : Nat
  upLimit : Nat
  lossLimit : Nat
  confirmLimit : Nat
  metLimit : Nat
  agingLimit : Nat
  siteClass : TimeClass
  acceptanceSet : List Test
  tenants : PerSlot TenantRec
  access : PerSlot ClassSet
  time : TimeParams
  profiles : List Profile
deriving DecidableEq, Repr

/-! ## The whole part -/

/-- What the part asks of the flash (R214, R215). -/
inductive FlashCommand where
  | erase
  | program (body header : List Byte)
  | readBack
  | programMark
deriving DecidableEq, Repr

/-- What the part has driven outward on a port, other than a level: a control-channel command, an air frame with the t1 stamped into
it, a packet delivered on a traffic port, a test packet through a looped port, the bytes of a response read, a flash command. -/
inductive Emission where
  | odu (c : OduCommand)
  | airFrame (f : AirFrame) (t1 : Option SiteTime)
  | delivered (k : Slot) (packet : List Byte)
  | testPacket (k : Slot) (p : TestPacket)
  | linkBytes (k : Slot) (bytes : List Byte)
  | flash (c : FlashCommand)
deriving DecidableEq, Repr

/-- The state of the part: the eight blocks, and the model's own fields: the waiting commands, the local nanoseconds since the last
local millisecond, the count of free bytes driven, and what has been driven outward, oldest first. -/
structure State where
  pending : List Instr
  sli : Sli
  scu : Scu
  lkc : Lkc
  tqm : PerSlot Traffic
  gre : Gre
  tmu : Tmu
  tsu : Tsu
  dsu : Dsu
  subMs : Nat
  freeBytes : Nat
  emitted : List Emission
deriving DecidableEq, Repr

/-- The part raises no fault: every occurrence the manual names either has its effect or is discarded, and a request that is not
taken is answered (R189, R192). There is no constructor. -/
inductive Fault : Type
deriving DecidableEq, Repr

/-- The reasons a command has no meaning here. -/
inductive Refusal where
  /-- Raised by `exec` for a row that has no meaning yet. Safe: the machine stops. -/
  | notModelled (mnemonic : String)
  /-- Raised by CORRUPT_FRAME when its bytes pass the form checks, and by UNKNOWN_NAME when its name is that of a request: the operands
  contradict the command, so no such command exists (the frame is another row's). Safe: the machine stops. -/
  | frameOfAnotherCommand
deriving DecidableEq, Repr



/-! ## Power-on reset -/

/-- LKC after a power-on reset (R20, R48, R49, R60, R63, R203). -/
def Lkc.reset : Lkc where
  state := .off .none
  odu := none
  ladder := none
  source := none
  outstanding := none
  rung := 0
  frame := 0
  syncMiss := 0
  lowRun := 0
  losses := {}
  ceiling := 7
  notice := none
  voided := none
  upCount := 0
  near := none
  far := none
  effective := none
  upLimit := 64
  lossLimit := 200
  confirmLimit := 20
  profiles := []
  unsent := []
  looped := []
  farPattern := none
  sent := 0
  late := {}

/-- TMU after a power-on reset (R120, R124, R133, R135, R160). -/
def Tmu.reset : Tmu where
  site := ⟨0, 0⟩
  residue := 0
  y := 0
  lastSecond := none
  cls := .none
  timing := .freerun
  everLocked := false
  holdover := 0
  history := []
  sticky := {}
  integ := 0
  selected := none
  gnss := {}
  link := {}
  message := none
  pulseTimer := none
  exchange := none
  pathDelay := none
  params := {}
  pps := ⟨{}, {}, {}, {}⟩
  crossed := {}

/-- The part right after a power-on reset with the service strap not fitted (R2, R182, R188, R194, R198, R199, R204, R205, R209). -/
def State.reset : State where
  pending := []
  sli := { links := ⟨{}, {}, {}, {}⟩, events := ⟨{}, {}, {}, {}⟩, access := ⟨{}, {}, {}, {}⟩, lock := false, strap := false }
  scu := { site := .loading, wait := none, tracking := [], failure := none, entry := none, ceiling := 0, siteClass := .none,
           acceptanceSet := [], tenants := none, fit := ⟨true, true, true, true⟩, inhibit := ⟨true, true, true, true⟩ }
  lkc := Lkc.reset
  tqm := ⟨{}, {}, {}, {}⟩
  gre := { slots := ⟨{}, {}, {}, {}⟩, metLimit := 6, agingLimit := 255 }
  tmu := Tmu.reset
  tsu := { running := none, queued := [], nextId := 1, log := [], nextSeq := some 1 }
  dsu := { load := none, save := none, last := none }
  subMs := 0
  freeBytes := 0
  emitted := []

end Sys2Proof.Machine
end

