-- ==== Sys2Proof/Machine/Ops.lean ====
section
/-! DEFINITION. The named operations every block is written over: the four per-slot values, the update of one block of the state,
saturating and wrapping arithmetic, site time as a count of nanoseconds, and the range and consistency checks the manual states
once and applies in several places (R29, R30, R80, R82, R159, R163). -/

namespace Sys2Proof

/-- The value of slot `k`. -/
def PerSlot.get {α : Type} (p : PerSlot α) (k : Slot) : α :=
  match k with
  | 0 => p.s0
  | 1 => p.s1
  | 2 => p.s2
  | 3 => p.s3

/-- Slot `k`'s value changed by `f`, the others kept. -/
def PerSlot.modify {α : Type} (p : PerSlot α) (k : Slot) (f : α → α) : PerSlot α :=
  match k with
  | 0 => { p with s0 := f p.s0 }
  | 1 => { p with s1 := f p.s1 }
  | 2 => { p with s2 := f p.s2 }
  | 3 => { p with s3 := f p.s3 }

/-- Slot `k`'s value replaced. -/
def PerSlot.set {α : Type} (p : PerSlot α) (k : Slot) (a : α) : PerSlot α := p.modify k (fun _ => a)

/-- Every slot's value changed by `f`. -/
def PerSlot.map {α β : Type} (p : PerSlot α) (f : α → β) : PerSlot β := ⟨f p.s0, f p.s1, f p.s2, f p.s3⟩

/-- The four values of a function of the slot. -/
def PerSlot.ofFn {α : Type} (f : Slot → α) : PerSlot α := ⟨f 0, f 1, f 2, f 3⟩

/-- The four values, slot 0 first. -/
def PerSlot.toList {α : Type} (p : PerSlot α) : List α := [p.s0, p.s1, p.s2, p.s3]

/-- The sum of four numbers. -/
def PerSlot.sum (p : PerSlot Nat) : Nat := p.s0 + p.s1 + p.s2 + p.s3

/-- The four slots, slot 0 first. -/
def allSlots : List Slot := [0, 1, 2, 3]

end Sys2Proof

namespace Sys2Proof.Machine

open Sys2Proof

/-! ## Updates of one block -/

def State.updSli (s : State) (f : Sli → Sli) : State := { s with sli := f s.sli }
def State.updScu (s : State) (f : Scu → Scu) : State := { s with scu := f s.scu }
def State.updLkc (s : State) (f : Lkc → Lkc) : State := { s with lkc := f s.lkc }
def State.updTqm (s : State) (f : PerSlot Traffic → PerSlot Traffic) : State := { s with tqm := f s.tqm }
def State.updGre (s : State) (f : Gre → Gre) : State := { s with gre := f s.gre }
def State.updTmu (s : State) (f : Tmu → Tmu) : State := { s with tmu := f s.tmu }
def State.updTsu (s : State) (f : Tsu → Tsu) : State := { s with tsu := f s.tsu }
def State.updDsu (s : State) (f : Dsu → Dsu) : State := { s with dsu := f s.dsu }

/-- Something driven outward. -/
def State.emit (s : State) (e : Emission) : State := { s with emitted := s.emitted ++ [e] }

/-! ## Arithmetic -/

/-- A saturating counter increased by `n` (spec/00_scope.md, Saturating and wrapping quantities). -/
def satAdd (c n : Nat) : Nat := min (c + n) Config.counterMax

/-- A saturating counter increased by one. -/
def satInc (c : Nat) : Nat := satAdd c 1

/-- The next air frame number or packet sequence number (R34, R68). -/
def nextNumber (n : Nat) : Nat := (n + 1) % Config.frameModulus

/-- A value brought into −bound..+bound (R48, R152). -/
def clamp (bound v : Int) : Int := max (-bound) (min bound v)

/-- The PB a packet of `n` bytes occupies (spec/00_scope.md, Numbers and units). -/
def ceilPB (n : Nat) : Nat := (n + Config.pbBytes - 1) / Config.pbBytes

/-- Site time as nanoseconds since second 0. -/
def timeNs (t : SiteTime) : Int := (t.sec : Int) * 1000000000 + (t.ns : Int)

/-- The site time that stands `n` nanoseconds after second 0; the seconds count wraps (R121). -/
def timeOfNs (n : Int) : SiteTime :=
  let m := (n % ((Config.secondsModulus * Config.nsPerSecond : Nat) : Int)).toNat
  { sec := m / Config.nsPerSecond, ns := m % Config.nsPerSecond }

/-! ## Relations and ranges stated once -/

/-- The strength of a class: PHASE over FREQUENCY over NONE (R3). -/
def TimeClass.rank (c : TimeClass) : Nat :=
  match c with
  | .none => 0
  | .frequency => 1
  | .phase => 2

/-- A published class meets a required class when it is at least as strong (R3). -/
def TimeClass.meets (published required : TimeClass) : Bool := decide (required.rank ≤ published.rank)

/-- The ranges of an order's parameters (R163). -/
def Test.inRange (t : Test) : Bool :=
  match t with
  | .portLoop _ n len => decide (1 ≤ n ∧ n ≤ 1024 ∧ 64 ≤ len ∧ len ≤ 9216)
  | .airPattern n r f e => decide (1 ≤ n ∧ n ≤ 1000000 ∧ 1 ≤ r ∧ r ≤ 1024 ∧ 1 ≤ f ∧ f ≤ 60000 ∧ e ≤ 1000000)
  | .linkLoop d => decide (1 ≤ d ∧ d ≤ 200)
  | .timeCompare c l => decide (4 ≤ c ∧ c ≤ 64 ∧ 1 ≤ l ∧ l ≤ 100000)

/-- A character of a text: space to tilde (R80, R217). -/
def printable (b : Byte) : Bool := decide (0x20 ≤ b.toNat ∧ b.toNat ≤ 0x7E)

/-- A label: 1 to 16 printable characters (R80). -/
def labelOk (t : Text) : Bool := decide (1 ≤ t.length ∧ t.length ≤ 16) && t.all printable

/-- The ranges of a tenant record's fields (R80), q at or below p among them. -/
def TenantRec.inRange (r : TenantRec) : Bool :=
  decide (r.committed ≤ r.peak ∧ r.peak ≤ 4095 ∧ 1 ≤ r.weight ∧ r.weight ≤ 15 ∧ r.priority ≤ 3
    ∧ -1000 ≤ r.ppsOffset ∧ r.ppsOffset ≤ 1000) && r.label.all labelOk

/-- What a record adds to the commitment sum: its committed value unless it is VACANT (R82). -/
def TenantRec.share (r : TenantRec) : Nat := if r.state = .vacant then 0 else r.committed

/-- The sum of committed values of the non-VACANT records (R82). -/
def commitSum (t : PerSlot TenantRec) : Nat := (t.map TenantRec.share).sum

/-- The default tenant records (R80). -/
def defaultTenants : PerSlot TenantRec :=
  ⟨{ state := .enabled }, { state := .vacant }, { state := .vacant }, { state := .vacant }⟩

/-- A capacity within its range (R20, R30). -/
def capacityOk (c : Nat) : Bool := decide (16 ≤ c ∧ c ≤ 4095)

/-- A threshold within its range (R26, R30). -/
def thresholdOk (t : Int) : Bool := decide (-400 ≤ t ∧ t ≤ 400)

/-- An asymmetry within its range (R26, R30). -/
def asymmetryOk (a : Int) : Bool := decide (-10000 ≤ a ∧ a ≤ 10000)

/-- The first two checks of R29 on a rung list: capacities and down thresholds do not decrease. -/
def rungsRise (rs : List Rung) : Bool :=
  match rs with
  | [] => true
  | [_] => true
  | a :: b :: rest => decide (a.capacity ≤ b.capacity ∧ a.down ≤ b.down) && rungsRise (b :: rest)

/-- The consistency checks of a ladder (R29); the up threshold of rung 0 is not checked. -/
def Ladder.consistent (l : Ladder) : Bool :=
  rungsRise l.rungs && (l.rungs.drop 1).all (fun r => decide (r.down < r.up))

/-- The ranges of a profile entry's fields (R30). -/
def Profile.inRange (p : Profile) : Bool :=
  decide (1 ≤ p.ladder.rungs.length ∧ p.ladder.rungs.length ≤ 8) && asymmetryOk p.ladder.asymmetry
    && p.ladder.rungs.all (fun r => capacityOk r.capacity && thresholdOk r.up && thresholdOk r.down)

/-- The shifts of a bank within their ranges (R158). -/
def LoopBank.inRange (b : LoopBank) : Bool := decide (b.a ≤ 15 ∧ b.b ≤ 23)

/-- The time limits within their ranges, with the pairings of R159. -/
def TimeParams.limitsOk (p : TimeParams) : Bool :=
  decide (1 ≤ p.lockWindow ∧ p.lockWindow ≤ 10000 ∧ p.lockWindow ≤ p.outlierLimit ∧ p.outlierLimit ≤ 100000
    ∧ 100 ≤ p.stepLimit ∧ p.stepLimit ≤ 500000000
    ∧ 60 ≤ p.hPhase ∧ p.hPhase ≤ 86400 ∧ p.hPhase ≤ p.hFreq ∧ p.hFreq ≤ 2592000)

/-- The time parameters within their ranges (R158, R159, R160). -/
def TimeParams.inRange (p : TimeParams) : Bool :=
  decide (p.gnssPriority ≤ 7 ∧ p.linkPriority ≤ 7) && p.acquire.inRange && p.track.inRange && p.limitsOk

/-! ## Reading the state -/

/-- Slot `k`'s tenant record; absent during LOADING (R91). -/
def State.tenant (s : State) (k : Slot) : Option TenantRec := s.scu.tenants.map (fun t => t.get k)

/-- Slot `k`'s state; absent during LOADING (R91, R201). -/
def State.slotState (s : State) (k : Slot) : Option SlotState := (s.tenant k).map TenantRec.state

/-- Whether slot `k` is ENABLED. -/
def State.slotEnabled (s : State) (k : Slot) : Bool := decide (s.slotState k = some .enabled)

/-- Whether slot `k` is VACANT. -/
def State.slotVacant (s : State) (k : Slot) : Bool := decide (s.slotState k = some .vacant)

/-- Slot `k`'s tenant record changed by `f`. -/
def State.updTenant (s : State) (k : Slot) (f : TenantRec → TenantRec) : State :=
  s.updScu fun c => { c with tenants := c.tenants.map (fun t => t.modify k f) }

/-- Whether the link is HELD. -/
def LinkState.isHeld (l : LinkState) : Bool :=
  match l with
  | .held _ => true
  | _ => false

/-- Whether the link is UP or HELD: the states whose leaving is a departure (R24, R38). -/
def LinkState.carries (l : LinkState) : Bool :=
  match l with
  | .up => true
  | .held _ => true
  | _ => false

/-- The rungs of the ladder in force; none while it is absent. -/
def State.rungs (s : State) : List Rung := (s.lkc.ladder.map Ladder.rungs).getD []

/-- The capacity of a rung of the ladder in force; 0 where there is no such rung. -/
def State.capacity (s : State) (r : Nat) : Nat := ((s.rungs[r]?).map Rung.capacity).getD 0

/-- The rung ceiling in force, absent while no ladder is (R60). -/
def State.ceilingInForce (s : State) : Option Nat := s.lkc.ladder.map (fun l => min s.lkc.ceiling (l.rungs.length - 1))

/-- The orders the queue holds, oldest first: the RUNNING one, then the QUEUED ones (R161). -/
def Tsu.orders (t : Tsu) : List Order := (t.running.map Running.order).toList ++ t.queued

/-- The room free in the test order queue: 8 less the orders held, the RUNNING one counted (R4). -/
def Tsu.room (t : Tsu) : Nat := Config.maxOrders - t.orders.length

/-- The loop subject: the slot of the RUNNING PORT_LOOP order (R168). -/
def State.loopSubject (s : State) : Option Slot :=
  match s.tsu.running with
  | some { order := { test := .portLoop k _ _, .. }, .. } => some k
  | _ => none

/-- The PB queued in a class: the sum of PB remaining (R64). -/
def queuedPB (q : List Packet) : Nat := (q.map Packet.remaining).sum

/-- A slot's backlog: the PB queued in both classes (R64). -/
def Traffic.backlog (t : Traffic) : Nat := queuedPB t.express + queuedPB t.bulk

/-- A source's priority among the time parameters (R135, R160). -/
def TimeParams.priority (p : TimeParams) (src : Source) : Nat :=
  match src with
  | .gnss => p.gnssPriority
  | .link => p.linkPriority

/-- A source's record (R135). -/
def Tmu.source (t : Tmu) (src : Source) : SourceRec :=
  match src with
  | .gnss => t.gnss
  | .link => t.link

/-- A source's record changed by `f`. -/
def Tmu.updSource (t : Tmu) (src : Source) (f : SourceRec → SourceRec) : Tmu :=
  match src with
  | .gnss => { t with gnss := f t.gnss }
  | .link => { t with link := f t.link }

/-! ## Time limits that have run out

Each is judged where its expiry is taken, and is what lets the expiry join the queue: an expiry whose timer is gone, or was started
again, is none (R22, R39, R139, R169). -/

/-- Whether a control-channel command of a kind is outstanding and has waited its limit (R22). -/
def State.commandDue (s : State) (c : OduCommand) : Bool :=
  match s.lkc.outstanding with
  | some o => decide (o.cmd = c ∧ o.limit ≤ o.elapsed)
  | none => false

/-- Whether the backoff timer stands at its limit (R39). -/
def LinkState.backoffDue (l : LinkState) : Bool :=
  match l with
  | .lost n => decide (Config.backoffLimit ≤ n)
  | _ => false

/-- Whether the pulse timer stands at its limit (R139). -/
def Tmu.pulseDue (t : Tmu) : Bool := t.pulseTimer.any (fun n => decide (Config.pulseLimit ≤ n))

/-- Whether the reply timer of the exchange in flight stands at its limit (R141). -/
def Tmu.replyDue (t : Tmu) : Bool := (t.exchange.bind Exchange.sent).any (fun e => decide (Config.replyLimit ≤ e.timer))

/-- Whether a pulse has its full width, and whether a pulse held back has waited its delay (R125). -/
def PpsGen.widthDue (g : PpsGen) : Bool := g.timer.any (fun n => decide (Config.ppsWidth ≤ n))
def PpsGen.delayDue (g : PpsGen) : Bool := g.delayed.head?.any (fun n => decide (Config.ppsDelay ≤ n))

/-- Whether a test packet of the running PORT_LOOP is due: one at each local millisecond from the start (R168), the first at loop timer 1
(assumption 38). -/
def Tsu.packetDue (t : Tsu) : Bool :=
  match t.running with
  | some ⟨⟨_, _, .portLoop _ n _⟩, .portLoop p⟩ => decide (p.sent < n ∧ p.sent < p.timer)
  | _ => false

/-- Whether the loop timer stands at its limit (R169). -/
def Tsu.loopTimerDue (t : Tsu) : Bool :=
  match t.running with
  | some ⟨_, .portLoop p⟩ => decide (Config.portLoopLimit ≤ p.timer)
  | _ => false

/-- Whether the save timer stands at its limit (R213). -/
def Dsu.saveDue (d : Dsu) : Bool := d.save.any (fun v => decide (Config.saveLimit ≤ v.timer))

end Sys2Proof.Machine
end

