-- ==== Sys2Proof/Machine/Flags.lean ====
section
/-! DEFINITION. Every level and flag the part computes: the sets of event kinds and permission classes, the raising of events with the
attention lines (R204, R205), the ready lines with the waiting responses (R188 to R191), and the radio-inhibit lines (R18, R19). -/

namespace Sys2Proof.Machine

open Sys2Proof

/-! ## Event kinds and their sets -/

/-- The twelve kinds in the order of section 10.8. -/
def EventKind.all : List EventKind :=
  [.siteState, .linkState, .rung, .timeQuality, .source, .shortfall, .deficitFull, .queueDrop, .timeUnfit, .recordChanged,
   .testDone, .saveDone]

/-- Whether a kind is in the set. -/
def EventSet.has (S : EventSet) (e : EventKind) : Bool :=
  match e with
  | .siteState => S.siteState
  | .linkState => S.linkState
  | .rung => S.rung
  | .timeQuality => S.timeQuality
  | .source => S.source
  | .shortfall => S.shortfall
  | .deficitFull => S.deficitFull
  | .queueDrop => S.queueDrop
  | .timeUnfit => S.timeUnfit
  | .recordChanged => S.recordChanged
  | .testDone => S.testDone
  | .saveDone => S.saveDone

/-- The set with one kind put in or taken out. -/
def EventSet.put (S : EventSet) (e : EventKind) (b : Bool) : EventSet :=
  match e with
  | .siteState => { S with siteState := b }
  | .linkState => { S with linkState := b }
  | .rung => { S with rung := b }
  | .timeQuality => { S with timeQuality := b }
  | .source => { S with source := b }
  | .shortfall => { S with shortfall := b }
  | .deficitFull => { S with deficitFull := b }
  | .queueDrop => { S with queueDrop := b }
  | .timeUnfit => { S with timeUnfit := b }
  | .recordChanged => { S with recordChanged := b }
  | .testDone => { S with testDone := b }
  | .saveDone => { S with saveDone := b }

/-- The set of a list of kinds. -/
def EventSet.ofList (l : List EventKind) : EventSet := l.foldl (fun S e => S.put e true) {}

/-- The set less a list of kinds. -/
def EventSet.without (S : EventSet) (l : List EventKind) : EventSet := l.foldl (fun S e => S.put e false) S

/-- The kinds of a set, listed in the order of section 10.8; the manual gives a set's members no order (assumption 33). -/
def EventSet.toList (S : EventSet) : List EventKind := EventKind.all.filter S.has

/-- The level of an attention line: asserted while a pending kind is also enabled (R205). -/
def attentionLevel (pending enabled : EventSet) : Bool := EventKind.all.any (fun e => pending.has e && enabled.has e)

/-- The record with its attention line set from its two sets (R205). -/
def EventRec.drive (r : EventRec) : EventRec := { r with attention := attentionLevel r.pending r.enabled }

/-- The record with a kind pending (R204). -/
def EventRec.raise (r : EventRec) (e : EventKind) : EventRec := { r with pending := r.pending.put e true }.drive

/-- A kind raised in one slot (R204). -/
def raiseIn (e : EventKind) (k : Slot) (s : State) : State :=
  s.updSli fun x => { x with events := x.events.modify k (fun r => r.raise e) }

/-- A kind raised in all four slots (R204). -/
def raiseAll (e : EventKind) (s : State) : State :=
  s.updSli fun x => { x with events := x.events.map (fun r => r.raise e) }

/-! ## Permission classes and their sets -/

/-- The eight classes, in the order of the access bits (R217). -/
def PermClass.all : List PermClass :=
  [.observeAll, .shareControl, .ownTuning, .timeControl, .linkControl, .testOwn, .testShared, .siteControl]

/-- Whether a class is in the row. -/
def ClassSet.has (S : ClassSet) (c : PermClass) : Bool :=
  match c with
  | .observeAll => S.observeAll
  | .shareControl => S.shareControl
  | .ownTuning => S.ownTuning
  | .timeControl => S.timeControl
  | .linkControl => S.linkControl
  | .testOwn => S.testOwn
  | .testShared => S.testShared
  | .siteControl => S.siteControl

/-- The row with one class put in. -/
def ClassSet.put (S : ClassSet) (c : PermClass) : ClassSet :=
  match c with
  | .observeAll => { S with observeAll := true }
  | .shareControl => { S with shareControl := true }
  | .ownTuning => { S with ownTuning := true }
  | .timeControl => { S with timeControl := true }
  | .linkControl => { S with linkControl := true }
  | .testOwn => { S with testOwn := true }
  | .testShared => { S with testShared := true }
  | .siteControl => { S with siteControl := true }

/-- The row of a list of classes. -/
def ClassSet.ofList (l : List PermClass) : ClassSet := l.foldl ClassSet.put {}

/-- All eight classes. -/
def ClassSet.full : ClassSet := ⟨true, true, true, true, true, true, true, true⟩

/-- The classes of a row, listed in the order of the access bits; the manual gives a set's members no order (assumption 33). -/
def ClassSet.toList (S : ClassSet) : List PermClass := PermClass.all.filter S.has

/-- The default matrix: slot 0 holds all eight classes, slots 1..3 none (R194). -/
def defaultAccess : PerSlot ClassSet := ⟨.full, {}, {}, {}⟩

/-- Slot `k`'s classes in force: all eight while the strap latch is set, its row otherwise (R195, R198). -/
def State.classes (s : State) (k : Slot) : ClassSet := if s.sli.strap then .full else s.sli.access.get k

/-! ## Responses and ready lines -/

/-- The answer to the frame on link `k`: the waiting response, with the ready line asserted and the receive state IDLE (R188). -/
def answer (k : Slot) (tag : Byte) (st : Status) (data : List Field) (s : State) : State :=
  s.updSli fun x => { x with links := x.links.set k { receiving := false, waiting := some ⟨tag, st, data⟩, ready := true } }

/-! ## Radio-inhibit lines -/

/-- The site states in which a slot's line may be released (R18): for slot 0 every state but LOADING, for an operator slot IN_SERVICE
alone. -/
def releaseState (st : SiteState) (k : Slot) : Bool := if k = 0 then decide (st ≠ .loading) else decide (st = .inService)

/-- The level of slot `k`'s inhibit line, true for asserted (R18). -/
def State.inhibitLevel (s : State) (k : Slot) : Bool := !(s.slotEnabled k && s.scu.fit.get k && releaseState s.scu.site k)

/-- SCU recomputes the four lines (R19). -/
def recomputeInhibit (s : State) : State := s.updScu fun c => { c with inhibit := PerSlot.ofFn s.inhibitLevel }

/-- A change of site state: SITE_STATE in all slots (R17) and the inhibit lines afresh (R19). -/
def setSiteState (st : SiteState) (s : State) : State :=
  recomputeInhibit (raiseAll .siteState (s.updScu fun c => { c with site := st }))

end Sys2Proof.Machine
end

