-- ==== Sys2Proof/Machine/Formats.lean ====
section
/-! DEFINITION. The byte layouts of chapter 11: integers and check values (R217), the management frames (R219), the response frame
(R219), the capability page and the GNSS time message (R218), and the descriptor, read (R211, R212, R217) and written (R214, R217). -/

namespace Sys2Proof.Machine

open Sys2Proof

/-! ## Integers and texts (R217) -/

/-- An unsigned integer, most significant byte first. -/
def beNat (bs : List Byte) : Nat := bs.foldl (fun a b => a * 256 + b.toNat) 0

/-- A signed integer in two's complement, most significant byte first. -/
def beInt (bs : List Byte) : Int :=
  if 2 * beNat bs < 256 ^ bs.length then (beNat bs : Int) else (beNat bs : Int) - ((256 ^ bs.length : Nat) : Int)

/-- `n` in `w` bytes, most significant byte first. -/
def toBE (w n : Nat) : List Byte :=
  match w with
  | 0 => []
  | w + 1 => BitVec.ofNat 8 (n / 256 ^ w) :: toBE w n

/-- `v` in `w` bytes of two's complement, most significant byte first. -/
def toBEInt (w : Nat) (v : Int) : List Byte := toBE w (v % ((256 ^ w : Nat) : Int)).toNat

/-- The first `w` bytes as an unsigned integer, with the bytes after them. -/
def takeNat (w : Nat) (bs : List Byte) : Option (Nat × List Byte) :=
  if bs.length < w then none else some (beNat (bs.take w), bs.drop w)

/-- The first `w` bytes as a signed integer, with the bytes after them. -/
def takeInt (w : Nat) (bs : List Byte) : Option (Int × List Byte) :=
  if bs.length < w then none else some (beInt (bs.take w), bs.drop w)

/-- The first `n` bytes, with the bytes after them. -/
def takeBytes (n : Nat) (bs : List Byte) : Option (List Byte × List Byte) :=
  if bs.length < n then none else some (bs.take n, bs.drop n)

/-- A text: a length byte and that many printable characters, with the bytes after them (R217). -/
def takeText (bs : List Byte) : Option (Text × List Byte) := do
  let (n, bs) ← takeNat 1 bs
  let (t, bs) ← takeBytes n bs
  if t.all printable then some (t, bs) else none

/-! ## Check values (R217) -/

/-- One bit of the CRC-8, polynomial 0x07, most significant bit first. -/
def crc8Bit (c : BitVec 8) : BitVec 8 := if c.msb then (c <<< 1) ^^^ 0x07#8 else c <<< 1

/-- The CRC-8: initial value 0x00, no final step. -/
def crc8 (bs : List Byte) : Byte := bs.foldl (fun c b => Nat.repeat crc8Bit 8 (c ^^^ b)) 0x00#8

/-- One bit of the CRC-16, polynomial 0x1021, most significant bit first. -/
def crc16Bit (c : BitVec 16) : BitVec 16 := if c.msb then (c <<< 1) ^^^ 0x1021#16 else c <<< 1

/-- The CRC-16: initial value 0xFFFF, no final step. -/
def crc16 (bs : List Byte) : BitVec 16 :=
  bs.foldl (fun c b => Nat.repeat crc16Bit 8 (c ^^^ (BitVec.setWidth 16 b).shiftLeft 8)) 0xFFFF#16

/-- One bit of the CRC-32, polynomial 0x04C11DB7 taken least significant bit first. -/
def crc32Bit (c : BitVec 32) : BitVec 32 := if c.getLsbD 0 then (c >>> 1) ^^^ 0xEDB88320#32 else c >>> 1

/-- The CRC-32: initial value 0xFFFFFFFF, final value inverted. -/
def crc32 (bs : List Byte) : BitVec 32 :=
  ~~~(bs.foldl (fun c b => Nat.repeat crc32Bit 8 (c ^^^ b.setWidth 32)) 0xFFFFFFFF#32)

/-- The frame check sequence of a packet: its last four bytes, least significant byte first, are the CRC-32 of the bytes before them
(R65). -/
def fcsOk (bytes : List Byte) : Bool :=
  decide (bytes.drop (bytes.length - 4) = (toBE 4 (crc32 (bytes.take (bytes.length - 4))).toNat).reverse)

/-! ## Management frames (R189, R219) -/

/-- What step 1 finds in the bytes after the marking byte: CORRUPT with the tag as it stood in them, or the frame's parts. -/
inductive FrameJudgement where
  | corrupt (tag : Byte)
  | formed (name : List Byte) (tag : Byte) (params : List Byte)
deriving DecidableEq, Repr

/-- The tag as it stood in the received bytes, 0 where the frame ended before its tag byte (R189). -/
def frameTag (bytes : List Byte) : Byte :=
  match bytes with
  | [] => 0
  | n :: rest => rest.getD n.toNat 0

/-- The form checks of step 1 (R189, R219). -/
def judgeFrame (bytes : List Byte) : FrameJudgement :=
  match bytes with
  | [] => .corrupt 0
  | n :: rest =>
    let len := (rest.getD (n.toNat + 1) 0).toNat
    if rest.length = n.toNat + len + 3 ∧ len ≤ Config.maxParams ∧ crc8 (n :: rest.dropLast) = rest.getLastD 0 then
      .formed (rest.take n.toNat) (rest.getD n.toNat 0) ((rest.drop (n.toNat + 2)).take len)
    else .corrupt (rest.getD n.toNat 0)

/-- The request frame of a name, a tag and parameter bytes (R219). -/
def frameBytes (name : List Byte) (tag : Byte) (params : List Byte) : List Byte :=
  let body := BitVec.ofNat 8 name.length :: (name ++ tag :: BitVec.ofNat 8 params.length :: params)
  body ++ [crc8 body]

/-- The code of a status (R219). -/
def Status.code (s : Status) : Nat :=
  match s with
  | .ok => 0
  | .corrupt => 1
  | .unknown => 2
  | .wrongState => 3
  | .denied => 4
  | .locked => 5
  | .badValue => 6
  | .overcommit => 7
  | .busy => 8
  | .full => 9
  | .notFound => 10

/-- The bytes of a site time: 6 of seconds and 4 of nanoseconds (R219). -/
def timeBytes (t : SiteTime) : List Byte := toBE 6 t.sec ++ toBE 4 t.ns

/-- The bytes of one field of response data (R217, R219). -/
def Field.bytes (f : Field) : List Byte :=
  match f with
  | .num w v => toBEInt w v
  | .text t => BitVec.ofNat 8 t.length :: t
  | .present b => [if b then 0x01 else 0x00]
  | .count n => [BitVec.ofNat 8 n]
  | .time t => timeBytes t

/-- The response frame (R189, R219). -/
def responseBytes (r : Response) : List Byte :=
  let data := (r.data.map Field.bytes).flatten
  let body := r.tag :: BitVec.ofNat 8 r.status.code :: (toBE 2 data.length ++ data)
  body ++ [crc8 body]

/-! ## The capability page and the GNSS time message (R218) -/

/-- A capability page whose form and ranges hold (R26); the fields a page may lack are optional. -/
structure CapabilityPage where
  id : OduId
  capacities : List Nat
  loop : Bool
  thresholds : Option (List (Int × Int))
  asymmetry : Option Int
deriving DecidableEq, Repr

/-- `n` unsigned 2-byte values. -/
def takeWords (n : Nat) (bs : List Byte) : Option (List Nat × List Byte) :=
  match n with
  | 0 => some ([], bs)
  | n + 1 => do
    let (c, bs) ← takeNat 2 bs
    let (cs, bs) ← takeWords n bs
    some (c :: cs, bs)

/-- `n` pairs of signed 2-byte values, up then down. -/
def takePairs (n : Nat) (bs : List Byte) : Option (List (Int × Int) × List Byte) :=
  match n with
  | 0 => some ([], bs)
  | n + 1 => do
    let (u, bs) ← takeInt 2 bs
    let (d, bs) ← takeInt 2 bs
    let (r, bs) ← takePairs n bs
    some ((u, d) :: r, bs)

/-- The fields of a page, in the order of R218; absent where the length, the signature, the check value, the rung count or a range
fails (R26). The equality with the ODU identity is LKC's to judge. The up threshold of rung 0 is held to its range like every other
(assumption 35). -/
def readPage (page : List Byte) : Option CapabilityPage := do
  let (sig, bs) ← takeNat 2 page
  let (_, bs) ← takeNat 1 bs
  let (maker, bs) ← takeNat 2 bs
  let (model, bs) ← takeNat 2 bs
  let (r, bs) ← takeNat 1 bs
  let (flags, bs) ← takeNat 1 bs
  let (caps, bs) ← takeWords r bs
  let (thr, bs) ← if flags.testBit 0 then (takePairs r bs).map (fun p => (some p.1, p.2)) else some (none, bs)
  let (asym, bs) ← if flags.testBit 1 then (takeInt 2 bs).map (fun p => (some p.1, p.2)) else some (none, bs)
  let (check, bs) ← takeNat 2 bs
  if bs = [] ∧ sig = 0xC63B ∧ check = (crc16 (page.take (page.length - 2))).toNat ∧ 1 ≤ r ∧ r ≤ 8 ∧ caps.all capacityOk
      ∧ thr.all (fun l => l.all (fun p => thresholdOk p.1 && thresholdOk p.2)) ∧ asym.all asymmetryOk then
    some { id := ⟨maker, model⟩, capacities := caps, loop := flags.testBit 2, thresholds := thr, asymmetry := asym }
  else none

/-- A well-formed GNSS time message: its length, marker and check value are right (R137, R218). -/
def readGnssMessage (bytes : List Byte) : Option PendingMessage :=
  if bytes.length = 9 ∧ bytes.getD 0 0 = 0x24 ∧ crc8 (bytes.take 8) = bytes.getD 8 0 then
    some { seconds := beNat ((bytes.drop 1).take 6), fixValid := decide (bytes.getD 7 0 = 0x01) }
  else none

/-! ## The descriptor (R210 to R212, R217) -/

/-- A coded field: one byte, numbered from 0 in the order of the list that defines it (R217). -/
def TimeClass.ofCode (n : Nat) : Option TimeClass :=
  match n with
  | 0 => some .none
  | 1 => some .frequency
  | 2 => some .phase
  | _ => none

def SlotState.code (st : SlotState) : Nat :=
  match st with
  | .vacant => 0
  | .enabled => 1
  | .suspended => 2

def SlotState.ofCode (n : Nat) : Option SlotState :=
  match n with
  | 0 => some .vacant
  | 1 => some .enabled
  | 2 => some .suspended
  | _ => none

def Rounding.code (r : Rounding) : Nat :=
  match r with
  | .nearestEven => 0
  | .towardZero => 1

def Rounding.ofCode (n : Nat) : Option Rounding :=
  match n with
  | 0 => some .nearestEven
  | 1 => some .towardZero
  | _ => none

/-- A flag or an on-off field: 0x00 or 0x01, any other value out of range (R217). -/
def flagOfCode (n : Nat) : Option Bool :=
  match n with
  | 0 => some false
  | 1 => some true
  | _ => none

def flagCode (b : Bool) : Nat := if b then 1 else 0

/-- A slot named by a number 0..3. -/
def slotOf (n : Nat) : Option Slot := if h : n < 4 then some ⟨n, h⟩ else none

/-- The parameters of a test in the order of R163, each in the fewest whole bytes that hold its range, the ranges judged. -/
def takeTestParams (kind : Nat) (bs : List Byte) : Option (Test × List Byte) := do
  let (t, bs) ←
    match kind with
    | 0 => do
      let (k, bs) ← takeNat 1 bs
      let (n, bs) ← takeNat 2 bs
      let (len, bs) ← takeNat 2 bs
      let k ← slotOf k
      some (Test.portLoop k n len, bs)
    | 1 => do
      let (n, bs) ← takeNat 3 bs
      let (r, bs) ← takeNat 2 bs
      let (f, bs) ← takeNat 2 bs
      let (e, bs) ← takeNat 3 bs
      some (Test.airPattern n r f e, bs)
    | 2 => do
      let (d, bs) ← takeNat 1 bs
      some (Test.linkLoop d, bs)
    | 3 => do
      let (c, bs) ← takeNat 1 bs
      let (l, bs) ← takeNat 3 bs
      some (Test.timeCompare c l, bs)
    | _ => none
  if t.inRange then some (t, bs) else none

/-- The number of a test's kind, as R162 lists the kinds (R217). -/
def Test.code (t : Test) : Nat :=
  match t with
  | .portLoop .. => 0
  | .airPattern .. => 1
  | .linkLoop .. => 2
  | .timeCompare .. => 3

/-- The parameter bytes of a test. -/
def Test.paramBytes (t : Test) : List Byte :=
  match t with
  | .portLoop k n len => toBE 1 k.val ++ toBE 2 n ++ toBE 2 len
  | .airPattern n r f e => toBE 3 n ++ toBE 2 r ++ toBE 2 f ++ toBE 3 e
  | .linkLoop d => toBE 1 d
  | .timeCompare c l => toBE 1 c ++ toBE 3 l

/-- A template of the SITE section: 12 bytes, its unused bytes not examined (R217). -/
def takeTemplate (bs : List Byte) : Option (Test × List Byte) := do
  let (t, bs) ← takeBytes 12 bs
  let (kind, ps) ← takeNat 1 t
  let (test, _) ← takeTestParams kind ps
  some (test, bs)

/-- The 12 bytes of a template, its unused bytes 0. -/
def templateBytes (t : Test) : List Byte :=
  let bs := toBE 1 t.code ++ t.paramBytes
  bs ++ List.replicate (12 - bs.length) 0

/-- `n` templates. -/
def takeTemplates (n : Nat) (bs : List Byte) : Option (List Test × List Byte) :=
  match n with
  | 0 => some ([], bs)
  | n + 1 => do
    let (t, bs) ← takeTemplate bs
    let (ts, bs) ← takeTemplates n bs
    some (t :: ts, bs)

/-- The site record as the SITE section holds it. -/
structure SitePart where
  ceiling : Nat
  rungCeiling : Nat
  upLimit : Nat
  lossLimit : Nat
  confirmLimit : Nat
  metLimit : Nat
  agingLimit : Nat
  siteClass : TimeClass
  acceptanceSet : List Test
deriving DecidableEq, Repr

/-- The SITE section, judged by R212. -/
def takeSite (bs : List Byte) : Option (SitePart × List Byte) := do
  let (ceiling, bs) ← takeNat 2 bs
  let (rungCeiling, bs) ← takeNat 1 bs
  let (u, bs) ← takeNat 1 bs
  let (l, bs) ← takeNat 2 bs
  let (c, bs) ← takeNat 1 bs
  let (m, bs) ← takeNat 1 bs
  let (k, bs) ← takeNat 1 bs
  let (cls, bs) ← takeNat 1 bs
  let (n, bs) ← takeNat 1 bs
  let cls ← TimeClass.ofCode cls
  if ceiling ≤ 4095 ∧ rungCeiling ≤ 7 ∧ 1 ≤ u ∧ u ≤ 255 ∧ 1 ≤ l ∧ l ≤ 1000 ∧ 1 ≤ c ∧ c ≤ 255 ∧ 1 ≤ m ∧ m ≤ 8 ∧ 1 ≤ k ∧ k ≤ 255
      ∧ n ≤ Config.maxTemplates then do
    let (ts, bs) ← takeTemplates n bs
    some (⟨ceiling, rungCeiling, u, l, c, m, k, cls, ts⟩, bs)
  else none

/-- One tenant record of the TENANT section, judged by R91 and R212. The unused bytes of its label are not examined (assumption 42). -/
def takeTenant (bs : List Byte) : Option (TenantRec × List Byte) := do
  let (st, bs) ← takeNat 1 bs
  let (ln, bs) ← takeNat 1 bs
  let (label, bs) ← takeBytes 16 bs
  let (q, bs) ← takeNat 2 bs
  let (p, bs) ← takeNat 2 bs
  let (w, bs) ← takeNat 1 bs
  let (prio, bs) ← takeNat 1 bs
  let (cls, bs) ← takeNat 1 bs
  let (on, bs) ← takeNat 1 bs
  let (off, bs) ← takeInt 2 bs
  let st ← SlotState.ofCode st
  let cls ← TimeClass.ofCode cls
  let on ← flagOfCode on
  let r : TenantRec :=
    { state := st, label := if ln = 0 then none else some (label.take ln), committed := q, peak := p, weight := w, priority := prio,
      required := cls, ppsOn := on, ppsOffset := off }
  if ln ≤ 16 ∧ r.inRange then some (r, bs) else none

/-- The TENANT section against the commitment ceiling of the SITE section (R91, R212). -/
def takeTenants (ceiling : Nat) (bs : List Byte) : Option (PerSlot TenantRec × List Byte) := do
  let (t0, bs) ← takeTenant bs
  let (t1, bs) ← takeTenant bs
  let (t2, bs) ← takeTenant bs
  let (t3, bs) ← takeTenant bs
  if t0.state = .enabled ∧ commitSum ⟨t0, t1, t2, t3⟩ ≤ ceiling then some (⟨t0, t1, t2, t3⟩, bs) else none

/-- A row of the matrix from its byte, the classes from the least significant bit (R217). -/
def ClassSet.ofCode (n : Nat) : ClassSet :=
  ⟨n.testBit 0, n.testBit 1, n.testBit 2, n.testBit 3, n.testBit 4, n.testBit 5, n.testBit 6, n.testBit 7⟩

/-- The byte of a row of the matrix. -/
def ClassSet.code (S : ClassSet) : Nat :=
  flagCode S.observeAll + 2 * flagCode S.shareControl + 4 * flagCode S.ownTuning + 8 * flagCode S.timeControl
    + 16 * flagCode S.linkControl + 32 * flagCode S.testOwn + 64 * flagCode S.testShared + 128 * flagCode S.siteControl

/-- The ACCESS section: slot 0's row holds SITE_CONTROL (R194, R212). -/
def takeAccess (bs : List Byte) : Option (PerSlot ClassSet × List Byte) := do
  let (a0, bs) ← takeNat 1 bs
  let (a1, bs) ← takeNat 1 bs
  let (a2, bs) ← takeNat 1 bs
  let (a3, bs) ← takeNat 1 bs
  if (ClassSet.ofCode a0).siteControl then
    some (⟨ClassSet.ofCode a0, ClassSet.ofCode a1, ClassSet.ofCode a2, ClassSet.ofCode a3⟩, bs)
  else none

/-- The TIME section, judged by R212. -/
def takeTime (bs : List Byte) : Option (TimeParams × List Byte) := do
  let (g, bs) ← takeNat 1 bs
  let (l, bs) ← takeNat 1 bs
  let (aa, bs) ← takeNat 1 bs
  let (ab, bs) ← takeNat 1 bs
  let (ta, bs) ← takeNat 1 bs
  let (tb, bs) ← takeNat 1 bs
  let (rm, bs) ← takeNat 1 bs
  let (lw, bs) ← takeNat 2 bs
  let (ol, bs) ← takeNat 3 bs
  let (sl, bs) ← takeNat 4 bs
  let (hp, bs) ← takeNat 4 bs
  let (hf, bs) ← takeNat 4 bs
  let rm ← Rounding.ofCode rm
  let p : TimeParams := ⟨g, l, ⟨aa, ab⟩, ⟨ta, tb⟩, rm, lw, ol, sl, hp, hf⟩
  if p.inRange then some (p, bs) else none

/-- `n` rungs of a profile entry. -/
def takeRungs (n : Nat) (bs : List Byte) : Option (List Rung × List Byte) :=
  match n with
  | 0 => some ([], bs)
  | n + 1 => do
    let (c, bs) ← takeNat 2 bs
    let (u, bs) ← takeInt 2 bs
    let (d, bs) ← takeInt 2 bs
    let (rs, bs) ← takeRungs n bs
    some (⟨c, u, d⟩ :: rs, bs)

/-- One entry of the PROFILE section, judged by R212. -/
def takeProfile (bs : List Byte) : Option (Profile × List Byte) := do
  let (maker, bs) ← takeNat 2 bs
  let (model, bs) ← takeNat 2 bs
  let (r, bs) ← takeNat 1 bs
  let (loop, bs) ← takeNat 1 bs
  let (asym, bs) ← takeInt 2 bs
  let loop ← flagOfCode loop
  if r ≤ 8 then do
    let (rs, bs) ← takeRungs r bs
    let p : Profile := ⟨⟨maker, model⟩, ⟨rs, loop, asym⟩⟩
    if p.inRange ∧ p.ladder.consistent then some (p, bs) else none
  else none

/-- `n` entries of the PROFILE section. -/
def takeProfileList (n : Nat) (bs : List Byte) : Option (List Profile × List Byte) :=
  match n with
  | 0 => some ([], bs)
  | n + 1 => do
    let (p, bs) ← takeProfile bs
    let (ps, bs) ← takeProfileList n bs
    some (p :: ps, bs)

/-- No two entries share a key (R30). -/
def distinctKeys (ps : List Profile) : Bool := decide ((ps.map Profile.key).Nodup)

/-- The PROFILE section. -/
def takeProfiles (bs : List Byte) : Option (List Profile × List Byte) := do
  let (n, bs) ← takeNat 1 bs
  if n ≤ Config.maxProfiles then do
    let (ps, bs) ← takeProfileList n bs
    if distinctKeys ps then some (ps, bs) else none
  else none

/-- The body judged section by section in body order (R212): the first failing section, or the tables. Bytes left over part the implied
length from the actual one in the last section. -/
def readBody (body : List Byte) : Except Section Tables :=
  match takeSite body with
  | none => .error .site
  | some (site, bs) =>
    match takeTenants site.ceiling bs with
    | none => .error .tenant
    | some (tenants, bs) =>
      match takeAccess bs with
      | none => .error .access
      | some (access, bs) =>
        match takeTime bs with
        | none => .error .time
        | some (time, bs) =>
          match takeProfiles bs with
          | none => .error .profile
          | some (profiles, rest) =>
            if rest = [] then
              .ok { ceiling := site.ceiling, rungCeiling := site.rungCeiling, upLimit := site.upLimit, lossLimit := site.lossLimit,
                    confirmLimit := site.confirmLimit, metLimit := site.metLimit, agingLimit := site.agingLimit,
                    siteClass := site.siteClass, acceptanceSet := site.acceptanceSet, tenants := tenants, access := access,
                    time := time, profiles := profiles }
            else .error .profile

/-- The first `n` bytes the flash gives; what it does not answer reads as all ones (R211). -/
def flashRead (n : Nat) (flash : List Byte) : List Byte := flash.take n ++ List.replicate (n - flash.length) 0xFF

/-- The descriptor signature (R217). -/
def descriptorSignature : List Byte := [0x50, 0x5A, 0x44, 0x53]

/-- The commit mark's committed value (R217) and its erased value: flash reads erased as all ones (R211). -/
def markCommitted : Byte := 0xA5
def markErased : Byte := 0xFF

/-- The load's judgements, in the order of R211: the first failing one, or the tables to install. -/
def judgeDescriptor (flash : List Byte) : Except LoadFailure Tables :=
  let header := flashRead 12 flash
  let len := beNat ((header.drop 6).take 2)
  let body := (flashRead (12 + len) flash).drop 12
  if header.take 4 ≠ descriptorSignature then .error .noDescriptor
  else if header.getD 4 0 ≠ 0x01 then .error .badVersion
  else if len < 152 ∨ 672 < len then .error .badLength
  else if header.getD 5 0 ≠ markCommitted then .error .notCommitted
  else if (crc32 body).toNat ≠ beNat ((header.drop 8).take 4) then .error .checkValue
  else
    match readBody body with
    | .error s => .error (.badContent s)
    | .ok t => .ok t

/-- The SITE section of the tables. -/
def siteBytes (t : Tables) : List Byte :=
  toBE 2 t.ceiling ++ toBE 1 t.rungCeiling ++ toBE 1 t.upLimit ++ toBE 2 t.lossLimit ++ toBE 1 t.confirmLimit ++ toBE 1 t.metLimit
    ++ toBE 1 t.agingLimit ++ toBE 1 t.siteClass.rank ++ toBE 1 t.acceptanceSet.length ++ (t.acceptanceSet.map templateBytes).flatten

/-- One tenant record, its label's unused bytes 0. -/
def tenantBytes (r : TenantRec) : List Byte :=
  let label := r.label.getD []
  toBE 1 r.state.code ++ toBE 1 label.length ++ (label ++ List.replicate (16 - label.length) 0) ++ toBE 2 r.committed ++ toBE 2 r.peak
    ++ toBE 1 r.weight ++ toBE 1 r.priority ++ toBE 1 r.required.rank ++ toBE 1 (flagCode r.ppsOn) ++ toBEInt 2 r.ppsOffset

/-- The TENANT section. -/
def tenantsBytes (t : PerSlot TenantRec) : List Byte :=
  tenantBytes t.s0 ++ tenantBytes t.s1 ++ tenantBytes t.s2 ++ tenantBytes t.s3

/-- The ACCESS section: the rows as written (R214). -/
def accessBytes (a : PerSlot ClassSet) : List Byte := toBE 1 a.s0.code ++ toBE 1 a.s1.code ++ toBE 1 a.s2.code ++ toBE 1 a.s3.code

/-- The TIME section. -/
def timeParamBytes (p : TimeParams) : List Byte :=
  toBE 1 p.gnssPriority ++ toBE 1 p.linkPriority ++ toBE 1 p.acquire.a ++ toBE 1 p.acquire.b ++ toBE 1 p.track.a ++ toBE 1 p.track.b
    ++ toBE 1 p.rounding.code ++ toBE 2 p.lockWindow ++ toBE 3 p.outlierLimit ++ toBE 4 p.stepLimit ++ toBE 4 p.hPhase
    ++ toBE 4 p.hFreq

/-- One rung of a profile entry. -/
def rungBytes (r : Rung) : List Byte := toBE 2 r.capacity ++ toBEInt 2 r.up ++ toBEInt 2 r.down

/-- One entry of the PROFILE section. -/
def profileBytes (p : Profile) : List Byte :=
  toBE 2 p.key.maker ++ toBE 2 p.key.model ++ toBE 1 p.ladder.rungs.length ++ toBE 1 (flagCode p.ladder.loop)
    ++ toBEInt 2 p.ladder.asymmetry ++ (p.ladder.rungs.map rungBytes).flatten

/-- The PROFILE section. -/
def profilesBytes (ps : List Profile) : List Byte := toBE 1 ps.length ++ (ps.map profileBytes).flatten

/-- The descriptor body (R217). -/
def bodyBytes (t : Tables) : List Byte :=
  siteBytes t ++ tenantsBytes t.tenants ++ accessBytes t.access ++ timeParamBytes t.time ++ profilesBytes t.profiles

/-- The descriptor header of a body, with a given commit mark (R217). -/
def headerBytes (mark : Byte) (body : List Byte) : List Byte :=
  descriptorSignature ++ [0x01, mark] ++ toBE 2 body.length ++ toBE 4 (crc32 body).toNat

/-- The descriptor image of the tables with a given commit mark: header, then body (R214, R217). -/
def descriptorImage (mark : Byte) (t : Tables) : List Byte := headerBytes mark (bodyBytes t) ++ bodyBytes t

/-- The tables of the defaults (R210): the default records, matrix and time parameters, an empty profile table, and the default site
record. -/
def defaultTables : Tables :=
  { ceiling := 0, rungCeiling := 7, upLimit := 64, lossLimit := 200, confirmLimit := 20, metLimit := 6, agingLimit := 255,
    siteClass := .none, acceptanceSet := [], tenants := defaultTenants, access := defaultAccess, time := {}, profiles := [] }

/-- The tables in force (R210, R214): what a snapshot takes. -/
def State.tables (s : State) : Tables :=
  { ceiling := s.scu.ceiling, rungCeiling := s.lkc.ceiling, upLimit := s.lkc.upLimit, lossLimit := s.lkc.lossLimit,
    confirmLimit := s.lkc.confirmLimit, metLimit := s.gre.metLimit, agingLimit := s.gre.agingLimit, siteClass := s.scu.siteClass,
    acceptanceSet := s.scu.acceptanceSet, tenants := s.scu.tenants.getD defaultTenants, access := s.sli.access, time := s.tmu.params,
    profiles := s.lkc.profiles }

end Sys2Proof.Machine
end

