-- ==== Sys2Proof/Machine/Frames.lean ====
section
/-! DEFINITION. The 44 requests by name (section 10.7), the command a received frame is (R189, R192, R219), and the frame that sends a
request. -/

namespace Sys2Proof.Machine

open Sys2Proof

/-- A row of the request table: the name as the manual writes it, and the command of a frame of that name. -/
structure RequestRow where
  name : Text
  command : Slot → Byte → List Byte → Instr

/-- The requests by name. -/
def requestTable : List RequestRow :=
  [⟨txt "IDENTIFY", Instr.identify⟩,
   ⟨txt "READ_ACCESS", Instr.readAccess⟩,
   ⟨txt "WRITE_ACCESS", Instr.writeAccess⟩,
   ⟨txt "SET_LOCK", Instr.setLock⟩,
   ⟨txt "READ_EVENTS", Instr.readEvents⟩,
   ⟨txt "ACK_EVENTS", Instr.ackEvents⟩,
   ⟨txt "SET_EVENT_ENABLES", Instr.setEventEnables⟩,
   ⟨txt "SITE_STATUS", Instr.siteStatus⟩,
   ⟨txt "BEGIN_BRINGUP", Instr.beginBringup⟩,
   ⟨txt "RETRY_ACCEPTANCE", Instr.retryAcceptance⟩,
   ⟨txt "FORCE_SERVICE", Instr.forceService⟩,
   ⟨txt "SITE_RESET", Instr.siteReset⟩,
   ⟨txt "SET_ACCEPTANCE_SET", Instr.setAcceptanceSet⟩,
   ⟨txt "SET_SITE_CLASS", Instr.setSiteClass⟩,
   ⟨txt "SET_COMMIT_CEILING", Instr.setCommitCeiling⟩,
   ⟨txt "SET_SLOT_STATE", Instr.setSlotState⟩,
   ⟨txt "WRITE_SHARE", Instr.writeShare⟩,
   ⟨txt "WRITE_TUNING", Instr.writeTuning⟩,
   ⟨txt "READ_TENANT", Instr.readTenant⟩,
   ⟨txt "CLEAR_COUNTERS", Instr.clearCounters⟩,
   ⟨txt "TENANT_RESET", Instr.tenantReset⟩,
   ⟨txt "LINK_STATUS", Instr.linkStatus⟩,
   ⟨txt "READ_PROFILES", Instr.readProfiles⟩,
   ⟨txt "LINK_RESTART", Instr.linkRestart⟩,
   ⟨txt "SET_RUNG_LIMITS", Instr.setRungLimits⟩,
   ⟨txt "WRITE_PROFILE", Instr.writeProfile⟩,
   ⟨txt "SET_LINK_LIMITS", Instr.setLinkLimits⟩,
   ⟨txt "QUEUE_STATUS", Instr.queueStatus⟩,
   ⟨txt "GRANT_STATUS", Instr.grantStatus⟩,
   ⟨txt "SET_GRANT_LIMITS", Instr.setGrantLimits⟩,
   ⟨txt "TIME_READ", Instr.timeRead⟩,
   ⟨txt "TIME_STATUS", Instr.timeStatus⟩,
   ⟨txt "SET_TIME", Instr.setTime⟩,
   ⟨txt "SET_SOURCE_PRIORITY", Instr.setSourcePriority⟩,
   ⟨txt "PRESET_INTEGRATOR", Instr.presetIntegrator⟩,
   ⟨txt "SET_LOOP_BANK", Instr.setLoopBank⟩,
   ⟨txt "SET_TIME_LIMITS", Instr.setTimeLimits⟩,
   ⟨txt "CLEAR_TIME_STICKY", Instr.clearTimeSticky⟩,
   ⟨txt "ORDER_TEST", Instr.orderTest⟩,
   ⟨txt "CANCEL_TEST", Instr.cancelTest⟩,
   ⟨txt "TEST_STATUS", Instr.testStatus⟩,
   ⟨txt "READ_RESULTS", Instr.readResults⟩,
   ⟨txt "SAVE_DESCRIPTOR", Instr.saveDescriptor⟩,
   ⟨txt "DESCRIPTOR_STATUS", Instr.descriptorStatus⟩]

/-- The row of a name. -/
def requestNamed (name : Text) : Option RequestRow := requestTable.find? (fun r => decide (r.name = name))

/-- The command that a whole frame on link `k` is, from the bytes after its marking byte (R188, R189, R192). -/
def decodeFrame (k : Slot) (bytes : List Byte) : Instr :=
  match judgeFrame bytes with
  | .corrupt _ => .corruptFrame k bytes
  | .formed name tag params =>
    match requestNamed name with
    | some r => r.command k tag params
    | none => .unknownName k name tag params

/-- The marking bytes of a management transaction (R219). -/
def markRequest : Byte := 0x51
def markRead : Byte := 0x52

/-- The commands that a management transaction on link `k` is, from all the bytes clocked in it (R188, R219): a request write of one byte
or more after the marking byte begins a write and ends in a frame; a response read returns a byte for each byte clocked after the marking
byte; a write of none, and a transaction that begins with any other byte, are ignored. -/
def decodeTransaction (k : Slot) (clocked : List Byte) : List Instr :=
  match clocked with
  | [] => []
  | mark :: rest =>
    if mark = markRequest then if rest = [] then [] else [.requestWriteBegin k, decodeFrame k rest]
    else if mark = markRead then [.responseRead k rest.length]
    else []

/-- What a frame says of a request: the link, the name, the tag and the parameters. -/
structure RequestParts where
  slot : Slot
  name : Text
  tag : Byte
  params : List Byte
deriving DecidableEq, Repr

/-- The parts of a request's frame; none for a command that no frame is. -/
def requestParts (i : Instr) : Option RequestParts :=
  match i with
  | .identify k tag params => some ⟨k, txt "IDENTIFY", tag, params⟩
  | .readAccess k tag params => some ⟨k, txt "READ_ACCESS", tag, params⟩
  | .writeAccess k tag params => some ⟨k, txt "WRITE_ACCESS", tag, params⟩
  | .setLock k tag params => some ⟨k, txt "SET_LOCK", tag, params⟩
  | .readEvents k tag params => some ⟨k, txt "READ_EVENTS", tag, params⟩
  | .ackEvents k tag params => some ⟨k, txt "ACK_EVENTS", tag, params⟩
  | .setEventEnables k tag params => some ⟨k, txt "SET_EVENT_ENABLES", tag, params⟩
  | .siteStatus k tag params => some ⟨k, txt "SITE_STATUS", tag, params⟩
  | .beginBringup k tag params => some ⟨k, txt "BEGIN_BRINGUP", tag, params⟩
  | .retryAcceptance k tag params => some ⟨k, txt "RETRY_ACCEPTANCE", tag, params⟩
  | .forceService k tag params => some ⟨k, txt "FORCE_SERVICE", tag, params⟩
  | .siteReset k tag params => some ⟨k, txt "SITE_RESET", tag, params⟩
  | .setAcceptanceSet k tag params => some ⟨k, txt "SET_ACCEPTANCE_SET", tag, params⟩
  | .setSiteClass k tag params => some ⟨k, txt "SET_SITE_CLASS", tag, params⟩
  | .setCommitCeiling k tag params => some ⟨k, txt "SET_COMMIT_CEILING", tag, params⟩
  | .setSlotState k tag params => some ⟨k, txt "SET_SLOT_STATE", tag, params⟩
  | .writeShare k tag params => some ⟨k, txt "WRITE_SHARE", tag, params⟩
  | .writeTuning k tag params => some ⟨k, txt "WRITE_TUNING", tag, params⟩
  | .readTenant k tag params => some ⟨k, txt "READ_TENANT", tag, params⟩
  | .clearCounters k tag params => some ⟨k, txt "CLEAR_COUNTERS", tag, params⟩
  | .tenantReset k tag params => some ⟨k, txt "TENANT_RESET", tag, params⟩
  | .linkStatus k tag params => some ⟨k, txt "LINK_STATUS", tag, params⟩
  | .readProfiles k tag params => some ⟨k, txt "READ_PROFILES", tag, params⟩
  | .linkRestart k tag params => some ⟨k, txt "LINK_RESTART", tag, params⟩
  | .setRungLimits k tag params => some ⟨k, txt "SET_RUNG_LIMITS", tag, params⟩
  | .writeProfile k tag params => some ⟨k, txt "WRITE_PROFILE", tag, params⟩
  | .setLinkLimits k tag params => some ⟨k, txt "SET_LINK_LIMITS", tag, params⟩
  | .queueStatus k tag params => some ⟨k, txt "QUEUE_STATUS", tag, params⟩
  | .grantStatus k tag params => some ⟨k, txt "GRANT_STATUS", tag, params⟩
  | .setGrantLimits k tag params => some ⟨k, txt "SET_GRANT_LIMITS", tag, params⟩
  | .timeRead k tag params => some ⟨k, txt "TIME_READ", tag, params⟩
  | .timeStatus k tag params => some ⟨k, txt "TIME_STATUS", tag, params⟩
  | .setTime k tag params => some ⟨k, txt "SET_TIME", tag, params⟩
  | .setSourcePriority k tag params => some ⟨k, txt "SET_SOURCE_PRIORITY", tag, params⟩
  | .presetIntegrator k tag params => some ⟨k, txt "PRESET_INTEGRATOR", tag, params⟩
  | .setLoopBank k tag params => some ⟨k, txt "SET_LOOP_BANK", tag, params⟩
  | .setTimeLimits k tag params => some ⟨k, txt "SET_TIME_LIMITS", tag, params⟩
  | .clearTimeSticky k tag params => some ⟨k, txt "CLEAR_TIME_STICKY", tag, params⟩
  | .orderTest k tag params => some ⟨k, txt "ORDER_TEST", tag, params⟩
  | .cancelTest k tag params => some ⟨k, txt "CANCEL_TEST", tag, params⟩
  | .testStatus k tag params => some ⟨k, txt "TEST_STATUS", tag, params⟩
  | .readResults k tag params => some ⟨k, txt "READ_RESULTS", tag, params⟩
  | .saveDescriptor k tag params => some ⟨k, txt "SAVE_DESCRIPTOR", tag, params⟩
  | .descriptorStatus k tag params => some ⟨k, txt "DESCRIPTOR_STATUS", tag, params⟩
  | .unknownName k name tag params => some ⟨k, name, tag, params⟩
  | .powerOnReset .. => none
  | .descriptorLoad .. => none
  | .requestWriteBegin .. => none
  | .corruptFrame .. => none
  | .responseRead .. => none
  | .oduIdentifyReply .. => none
  | .identifyReplyLimit => none
  | .readPageReply .. => none
  | .readPageReplyLimit => none
  | .loopOnConfirmed => none
  | .loopOnLimit => none
  | .loopOffConfirmed => none
  | .loopOffLimit => none
  | .loopedFrameReturn .. => none
  | .statusReport .. => none
  | .missingStatusReport => none
  | .farFrame .. => none
  | .missingFarFrame => none
  | .backoffExpiry => none
  | .frameFill => none
  | .frameLeavesRadioPort => none
  | .packetArrival .. => none
  | .gnssTimeMessage .. => none
  | .gnssPulse => none
  | .pulseTimerExpiry => none
  | .siteSecondBoundary .. => none
  | .replyTimerExpiry => none
  | .ppsEmission .. => none
  | .ppsDelayedEmission .. => none
  | .ppsPulseEnd .. => none
  | .portLoopPacketSend => none
  | .portLoopReturn .. => none
  | .loopTimerExpiry => none
  | .eraseComplete => none
  | .programComplete => none
  | .verifyComplete .. => none
  | .commitComplete .. => none
  | .saveTimerExpiry => none

/-- The frame that sends a request: the bytes after the marking byte (R219). -/
def encodeFrame (i : Instr) : Option (List Byte) :=
  match i with
  | .corruptFrame _ bytes => some bytes
  | i => (requestParts i).map fun p => frameBytes p.name p.tag p.params

end Sys2Proof.Machine
end

