-- ==== Sys2Proof/Machine/Operands.lean ====
section
/-! DEFINITION. The parameters of every request, read from the bytes of its frame (R219): a number in the fewest whole bytes that hold
its range, a name as a text, a presence byte before an optional field, a count before a list. A reader answers `none` where a field is
missing, a text is no value of its field, a presence byte is neither 0x00 nor 0x01, or bytes follow the last field: BAD_VALUE at
step 7. Ranges that a rule states are judged by the request's owner, but for a test's parameters, whose ranges are judged here. -/

namespace Sys2Proof.Machine

open Sys2Proof

/-! ## The texts of named values -/

/-- The value of a list that a text names. -/
def named {α : Type} (all : List α) (text : α → Text) (t : Text) : Option α := all.find? (fun a => decide (text a = t))

/-- The texts of the site states (section 1.1). -/
def SiteState.text (x : SiteState) : Text :=
  match x with
  | .loading => txt "LOADING"
  | .unconfigured => txt "UNCONFIGURED"
  | .bringup => txt "BRINGUP"
  | .acceptance => txt "ACCEPTANCE"
  | .acceptFailed => txt "ACCEPT_FAILED"
  | .inService => txt "IN_SERVICE"

/-- The texts of the time classes (R80). -/
def TimeClass.text (x : TimeClass) : Text :=
  match x with
  | .none => txt "NONE"
  | .frequency => txt "FREQUENCY"
  | .phase => txt "PHASE"

/-- The time classes (R80) a text names. -/
def TimeClass.ofText (t : Text) : Option TimeClass := named [.none, .frequency, .phase] TimeClass.text t

/-- The texts of the slot states (R80). -/
def SlotState.text (x : SlotState) : Text :=
  match x with
  | .vacant => txt "VACANT"
  | .enabled => txt "ENABLED"
  | .suspended => txt "SUSPENDED"

/-- The slot states (R80) a text names. -/
def SlotState.ofText (t : Text) : Option SlotState := named [.vacant, .enabled, .suspended] SlotState.text t

/-- The texts of the service entries (R1). -/
def ServiceEntry.text (x : ServiceEntry) : Text :=
  match x with
  | .accepted => txt "ACCEPTED"
  | .emptySet => txt "EMPTY_SET"
  | .forced => txt "FORCED"

/-- The texts of the event kinds (section 10.8). -/
def EventKind.text (x : EventKind) : Text :=
  match x with
  | .siteState => txt "SITE_STATE"
  | .linkState => txt "LINK_STATE"
  | .rung => txt "RUNG"
  | .timeQuality => txt "TIME_QUALITY"
  | .source => txt "SOURCE"
  | .shortfall => txt "SHORTFALL"
  | .deficitFull => txt "DEFICIT_FULL"
  | .queueDrop => txt "QUEUE_DROP"
  | .timeUnfit => txt "TIME_UNFIT"
  | .recordChanged => txt "RECORD_CHANGED"
  | .testDone => txt "TEST_DONE"
  | .saveDone => txt "SAVE_DONE"

/-- The event kinds (section 10.8) a text names. -/
def EventKind.ofText (t : Text) : Option EventKind := named EventKind.all EventKind.text t

/-- The texts of the permission classes (R194). -/
def PermClass.text (x : PermClass) : Text :=
  match x with
  | .observeAll => txt "OBSERVE_ALL"
  | .shareControl => txt "SHARE_CONTROL"
  | .ownTuning => txt "OWN_TUNING"
  | .timeControl => txt "TIME_CONTROL"
  | .linkControl => txt "LINK_CONTROL"
  | .testOwn => txt "TEST_OWN"
  | .testShared => txt "TEST_SHARED"
  | .siteControl => txt "SITE_CONTROL"

/-- The permission classes (R194) a text names. -/
def PermClass.ofText (t : Text) : Option PermClass := named PermClass.all PermClass.text t

/-- The texts of the off reasons (R20). -/
def OffReason.text (x : OffReason) : Text :=
  match x with
  | .none => txt "NONE"
  | .noOdu => txt "NO_ODU"
  | .noProfile => txt "NO_PROFILE"
  | .unconfigured => txt "UNCONFIGURED"

/-- The texts of the discovery steps (R20). -/
def DiscoveryStep.text (x : DiscoveryStep) : Text :=
  match x with
  | .identify => txt "IDENTIFY"
  | .readPage => txt "READ_PAGE"

/-- The texts of the ladder sources (R20). -/
def LadderOrigin.text (x : LadderOrigin) : Text :=
  match x with
  | .page => txt "PAGE"
  | .profile => txt "PROFILE"
  | .zero => txt "ZERO"

/-- The texts of the notice causes (R56). -/
def NoticeCause.text (x : NoticeCause) : Text :=
  match x with
  | .marginDown => txt "MARGIN_DOWN"
  | .marginUp => txt "MARGIN_UP"
  | .ceiling => txt "CEILING"

/-- The texts of the sources (R135). -/
def Source.text (x : Source) : Text :=
  match x with
  | .gnss => txt "GNSS"
  | .link => txt "LINK"

/-- The sources (R135) a text names. -/
def Source.ofText (t : Text) : Option Source := named [.gnss, .link] Source.text t

/-- The texts of the qualification states (R135). -/
def Qualification.text (x : Qualification) : Text :=
  match x with
  | .disabled => txt "DISABLED"
  | .unqualified => txt "UNQUALIFIED"
  | .qualified => txt "QUALIFIED"

/-- The texts of the timing states (R147). -/
def TimingState.text (x : TimingState) : Text :=
  match x with
  | .freerun => txt "FREERUN"
  | .acquiring => txt "ACQUIRING"
  | .locked => txt "LOCKED"
  | .holdover => txt "HOLDOVER"

/-- The texts of the marks (R148). -/
def Mark.text (x : Mark) : Text :=
  match x with
  | .inside => txt "INSIDE"
  | .outside => txt "OUTSIDE"

/-- The texts of the rounding modes (R153). -/
def Rounding.text (x : Rounding) : Text :=
  match x with
  | .nearestEven => txt "NEAREST_EVEN"
  | .towardZero => txt "TOWARD_ZERO"

/-- The rounding modes (R153) a text names. -/
def Rounding.ofText (t : Text) : Option Rounding := named [.nearestEven, .towardZero] Rounding.text t

/-- The texts of the descriptor sections (R212). -/
def Section.text (x : Section) : Text :=
  match x with
  | .site => txt "SITE"
  | .tenant => txt "TENANT"
  | .access => txt "ACCESS"
  | .time => txt "TIME"
  | .profile => txt "PROFILE"

/-- The texts of the save phases (R213). -/
def SavePhase.text (x : SavePhase) : Text :=
  match x with
  | .erasing => txt "ERASING"
  | .programming => txt "PROGRAMMING"
  | .verifying => txt "VERIFYING"
  | .committing => txt "COMMITTING"

/-- The texts of the abort reasons (R183). -/
def AbortReason.text (x : AbortReason) : Text :=
  match x with
  | .linkLost => txt "LINK_LOST"
  | .siteReset => txt "SITE_RESET"
  | .tenantReset => txt "TENANT_RESET"
  | .cancel => txt "CANCEL"

/-- The texts of the test kinds (R162). -/
def kindText (code : Nat) : Text :=
  match code with
  | 0 => txt "PORT_LOOP"
  | 1 => txt "AIR_PATTERN"
  | 2 => txt "LINK_LOOP"
  | _ => txt "TIME_COMPARE"

/-- The number of the kind a text names. -/
def kindOfText (t : Text) : Option Nat := named [0, 1, 2, 3] kindText t

/-- The texts of the link states (R20). -/
def LinkState.text (l : LinkState) : Text :=
  match l with
  | .off _ => txt "OFF"
  | .discovery .. => txt "DISCOVERY"
  | .acquiring => txt "ACQUIRING"
  | .up => txt "UP"
  | .held _ => txt "HELD"
  | .lost _ => txt "LOST"

/-- The texts of the loop phases (R41). -/
def LoopPhase.text (p : LoopPhase) : Text :=
  match p with
  | .holdPending .. => txt "HOLD_PENDING"
  | .loopEntry => txt "LOOP_ENTRY"
  | .looping => txt "LOOPING"
  | .loopExit => txt "LOOP_EXIT"

/-- The texts of the outcomes (R183); an abort reason is a field of its own. -/
def TestOutcome.text (o : TestOutcome) : Text :=
  match o with
  | .pass => txt "PASS"
  | .fail => txt "FAIL"
  | .timeout => txt "TIMEOUT"
  | .incomplete => txt "INCOMPLETE"
  | .aborted _ => txt "ABORTED"
  | .cancelled => txt "CANCELLED"
  | .notRun => txt "NOT_RUN"

/-- The abort reason, present with ABORTED alone. -/
def TestOutcome.reason (o : TestOutcome) : Option AbortReason :=
  match o with
  | .aborted r => some r
  | _ => none

/-- The texts of the load failures (R211). -/
def LoadFailure.text (f : LoadFailure) : Text :=
  match f with
  | .noDescriptor => txt "NO_DESCRIPTOR"
  | .badVersion => txt "BAD_VERSION"
  | .badLength => txt "BAD_LENGTH"
  | .notCommitted => txt "NOT_COMMITTED"
  | .checkValue => txt "CHECK_VALUE"
  | .badContent _ => txt "BAD_CONTENT"

/-- The texts of a requester (assumption 4): its slot's number, or SITE. -/
def Requester.text (r : Requester) : Text :=
  match r with
  | .slot k => [BitVec.ofNat 8 (0x30 + k.val)]
  | .site => txt "SITE"

/-- The four sticky flags by name (R155). -/
inductive StickyFlag where
  | stepped | outlierSeen | integratorSaturated | correctionSaturated
deriving DecidableEq, Repr

def StickyFlag.text (f : StickyFlag) : Text :=
  match f with
  | .stepped => txt "STEPPED"
  | .outlierSeen => txt "OUTLIER_SEEN"
  | .integratorSaturated => txt "INTEGRATOR_SATURATED"
  | .correctionSaturated => txt "CORRECTION_SATURATED"

/-- The texts of two-valued fields, as the rules write the values (assumption 4). -/
def setText (b : Bool) : Text := if b then txt "set" else txt "clear"
def onText (b : Bool) : Text := if b then txt "on" else txt "off"
def lineText (b : Bool) : Text := if b then txt "asserted" else txt "released"
def yesText (b : Bool) : Text := if b then txt "yes" else txt "no"

/-! ## Readers of fields -/

/-- An optional field: its presence byte, then the field when it is present (R219). -/
def takeOpt {α : Type} (f : List Byte → Option (α × List Byte)) (bs : List Byte) : Option (Option α × List Byte) := do
  let (p, bs) ← takeNat 1 bs
  match p with
  | 0 => some (none, bs)
  | 1 => (f bs).map (fun r => (some r.1, r.2))
  | _ => none

/-- `n` fields of one kind. -/
def takeMany {α : Type} (f : List Byte → Option (α × List Byte)) (n : Nat) (bs : List Byte) : Option (List α × List Byte) :=
  match n with
  | 0 => some ([], bs)
  | n + 1 => do
    let (a, bs) ← f bs
    let (as, bs) ← takeMany f n bs
    some (a :: as, bs)

/-- A list: its count in one byte, then its elements (R219). -/
def takeList {α : Type} (f : List Byte → Option (α × List Byte)) (bs : List Byte) : Option (List α × List Byte) := do
  let (n, bs) ← takeNat 1 bs
  takeMany f n bs

/-- A text that names a value. -/
def takeNamed {α : Type} (ofText : Text → Option α) (bs : List Byte) : Option (α × List Byte) := do
  let (t, bs) ← takeText bs
  let a ← ofText t
  some (a, bs)

/-- A text of an on-off field or of a flag. -/
def onOfText (t : Text) : Option Bool := named [true, false] onText t
def setOfText (t : Text) : Option Bool := named [true, false] setText t

/-- A test's kind, as a text, and its parameters in the order of R163, the ranges judged. -/
def takeTest (bs : List Byte) : Option (Test × List Byte) := do
  let (kind, bs) ← takeNamed kindOfText bs
  takeTestParams kind bs

/-- A whole parameter list: the fields, and no byte after the last (R219). -/
def whole {α : Type} (f : List Byte → Option (α × List Byte)) (ps : List Byte) : Option α := do
  let (a, bs) ← f ps
  if bs = [] then some a else none

/-! ## The parameters of the requests -/

/-- A request with no parameters. -/
def noParams (ps : List Byte) : Option Unit := if ps = [] then some () else none

/-- The one slot a request names, any number. -/
def slotParam (ps : List Byte) : Option Nat := whole (takeNat 1) ps

/-- One number of `w` bytes. -/
def numParam (w : Nat) (ps : List Byte) : Option Nat := whole (takeNat w) ps

/-- WRITE_ACCESS: a slot and a list of classes (R196). -/
def accessParams (ps : List Byte) : Option (Nat × List PermClass) :=
  whole (fun bs => do
    let (k, bs) ← takeNat 1 bs
    let (cs, bs) ← takeList (takeNamed PermClass.ofText) bs
    some ((k, cs), bs)) ps

/-- ACK_EVENTS and SET_EVENT_ENABLES: a list of kinds (R207, R208). -/
def kindParams (ps : List Byte) : Option (List EventKind) := whole (takeList (takeNamed EventKind.ofText)) ps

/-- SET_ACCEPTANCE_SET: a list of templates (R9). -/
def templateParams (ps : List Byte) : Option (List Test) := whole (takeList takeTest) ps

/-- SET_SITE_CLASS: a class (R10). -/
def classParam (ps : List Byte) : Option TimeClass := whole (takeNamed TimeClass.ofText) ps

/-- A slot and a state (R84). -/
def takeSlotState (bs : List Byte) : Option ((Nat × SlotState) × List Byte) := do
  let (k, bs) ← takeNat 1 bs
  let (st, bs) ← takeNamed SlotState.ofText bs
  some ((k, st), bs)

/-- SET_SLOT_STATE: a slot and a state (R84). -/
def slotStateParams (ps : List Byte) : Option (Nat × SlotState) := whole takeSlotState ps

/-- WRITE_SHARE: a slot and one or more of q, p, w and priority (R86). -/
structure ShareWrite where
  target : Nat
  q : Option Nat
  p : Option Nat
  w : Option Nat
  prio : Option Nat
deriving DecidableEq, Repr

def shareParams (ps : List Byte) : Option ShareWrite :=
  whole (fun bs => do
    let (k, bs) ← takeNat 1 bs
    let (q, bs) ← takeOpt (takeNat 2) bs
    let (p, bs) ← takeOpt (takeNat 2) bs
    let (w, bs) ← takeOpt (takeNat 1) bs
    let (prio, bs) ← takeOpt (takeNat 1) bs
    some (⟨k, q, p, w, prio⟩, bs)) ps

/-- Whether a WRITE_SHARE names q or p, as far as step 5 judges its parameters (R192, R199): the presence bytes of q and, where q is
absent, of p. -/
def shareNamesContract (ps : List Byte) : Bool :=
  match ps with
  | _ :: q :: rest => decide (q = 0x01) || (decide (q = 0x00) && decide (rest.head? = some 0x01))
  | _ => false

/-- WRITE_TUNING: a slot and one or more of w, priority, class, PPS enable, PPS offset and label (R87). -/
structure TuningWrite where
  target : Nat
  w : Option Nat
  prio : Option Nat
  cls : Option TimeClass
  on : Option Bool
  offset : Option Int
  label : Option Text
deriving DecidableEq, Repr

def tuningParams (ps : List Byte) : Option TuningWrite :=
  whole (fun bs => do
    let (k, bs) ← takeNat 1 bs
    let (w, bs) ← takeOpt (takeNat 1) bs
    let (prio, bs) ← takeOpt (takeNat 1) bs
    let (cls, bs) ← takeOpt (takeNamed TimeClass.ofText) bs
    let (on, bs) ← takeOpt (takeNamed onOfText) bs
    let (off, bs) ← takeOpt (takeInt 2) bs
    let (label, bs) ← takeOpt takeText bs
    some (⟨k, w, prio, cls, on, off, label⟩, bs)) ps

/-- WRITE_PROFILE: a key and a rung count; with a rung count of 1 or more, the fields of an entry in the order of R30 (R31). -/
def profileParams (ps : List Byte) : Option (OduId × Option Ladder) :=
  whole (fun bs => do
    let (maker, bs) ← takeNat 2 bs
    let (model, bs) ← takeNat 2 bs
    let (r, bs) ← takeNat 1 bs
    match r with
    | 0 => some ((⟨maker, model⟩, none), bs)
    | _ => do
      let (rs, bs) ← takeRungs r bs
      let (loop, bs) ← takeNamed setOfText bs
      let (asym, bs) ← takeInt 2 bs
      some ((⟨maker, model⟩, some ⟨rs, loop, asym⟩), bs)) ps

/-- SET_LINK_LIMITS: one or more of U, L and the confirm limit (R203). -/
def linkLimitParams (ps : List Byte) : Option (Option Nat × Option Nat × Option Nat) :=
  whole (fun bs => do
    let (u, bs) ← takeOpt (takeNat 1) bs
    let (l, bs) ← takeOpt (takeNat 2) bs
    let (c, bs) ← takeOpt (takeNat 1) bs
    some ((u, l, c), bs)) ps

/-- SET_GRANT_LIMITS: one or both of M and K (R115). -/
def grantLimitParams (ps : List Byte) : Option (Option Nat × Option Nat) :=
  whole (fun bs => do
    let (m, bs) ← takeOpt (takeNat 1) bs
    let (k, bs) ← takeOpt (takeNat 1) bs
    some ((m, k), bs)) ps

/-- SET_TIME: a site time (R132, R219). -/
def timeParam (ps : List Byte) : Option SiteTime :=
  whole (fun bs => do
    let (sec, bs) ← takeNat 6 bs
    let (ns, bs) ← takeNat 4 bs
    some (⟨sec, ns⟩, bs)) ps

/-- SET_SOURCE_PRIORITY: a source and a priority (R146). -/
def priorityParams (ps : List Byte) : Option (Source × Nat) :=
  whole (fun bs => do
    let (src, bs) ← takeNamed Source.ofText bs
    let (p, bs) ← takeNat 1 bs
    some ((src, p), bs)) ps

/-- PRESET_INTEGRATOR: a value in TU, in the four bytes that ±12,800,000 takes (R157). -/
def integratorParam (ps : List Byte) : Option Int := whole (takeInt 4) ps

/-- The banks by name (R158): true is ACQUIRE. -/
def bankText (b : Bool) : Text := if b then txt "ACQUIRE" else txt "TRACK"

/-- SET_LOOP_BANK: a bank and one or both of its shifts (R158). -/
def bankParams (ps : List Byte) : Option (Bool × Option Nat × Option Nat) :=
  whole (fun bs => do
    let (bank, bs) ← takeNamed (named [true, false] bankText) bs
    let (a, bs) ← takeOpt (takeNat 1) bs
    let (b, bs) ← takeOpt (takeNat 1) bs
    some ((bank, a, b), bs)) ps

/-- SET_TIME_LIMITS: one or more of six limits (R159). -/
structure LimitWrite where
  lockWindow : Option Nat
  outlier : Option Nat
  step : Option Nat
  hPhase : Option Nat
  hFreq : Option Nat
  rounding : Option Rounding
deriving DecidableEq, Repr

def timeLimitParams (ps : List Byte) : Option LimitWrite :=
  whole (fun bs => do
    let (lw, bs) ← takeOpt (takeNat 2) bs
    let (ol, bs) ← takeOpt (takeNat 3) bs
    let (sl, bs) ← takeOpt (takeNat 4) bs
    let (hp, bs) ← takeOpt (takeNat 3) bs
    let (hf, bs) ← takeOpt (takeNat 3) bs
    let (rm, bs) ← takeOpt (takeNamed Rounding.ofText) bs
    some (⟨lw, ol, sl, hp, hf, rm⟩, bs)) ps

/-- One flag of CLEAR_TIME_STICKY: its presence byte and, when present, its name. -/
def takeFlag (f : StickyFlag) (bs : List Byte) : Option (List StickyFlag × List Byte) := do
  let (x, bs) ← takeOpt (takeNamed fun t => if t = f.text then some f else none) bs
  some (x.toList, bs)

/-- CLEAR_TIME_STICKY: the flags named (R156), in the order of R155, each behind the presence byte R219 gives a field of a "one or more"
request. DESIGN CHOICE (assumption 32): a field present holds its flag's name, and all of them is all four present. -/
def stickyParams (ps : List Byte) : Option (List StickyFlag) :=
  whole (fun bs => do
    let (a, bs) ← takeFlag .stepped bs
    let (b, bs) ← takeFlag .outlierSeen bs
    let (c, bs) ← takeFlag .integratorSaturated bs
    let (d, bs) ← takeFlag .correctionSaturated bs
    some (a ++ b ++ c ++ d, bs)) ps

/-- ORDER_TEST: a kind and its parameters (R163). -/
def testParams (ps : List Byte) : Option Test := whole takeTest ps

/-! ## Fields of response data -/

/-- An optional field: its presence byte and, when present, its fields (R219). -/
def optField {α : Type} (o : Option α) (f : α → List Field) : List Field :=
  match o with
  | none => [.present false]
  | some a => .present true :: f a

/-- A list: its count and its elements' fields (R219). -/
def listField {α : Type} (l : List α) (f : α → List Field) : List Field := .count l.length :: (l.map f).flatten

/-- A test's kind and parameters, as R219 sends them. -/
def testFields (t : Test) : List Field :=
  .text (kindText t.code) ::
    (match t with
     | .portLoop k n len => [.num 1 k.val, .num 2 n, .num 2 len]
     | .airPattern n r f e => [.num 3 n, .num 2 r, .num 2 f, .num 3 e]
     | .linkLoop d => [.num 1 d]
     | .timeCompare c l => [.num 1 c, .num 3 l])

/-- An outcome and any abort reason. -/
def outcomeFields (o : TestOutcome) : List Field :=
  .text o.text :: optField o.reason (fun r => [.text r.text])

/-- A row of classes. -/
def classFields (S : ClassSet) : List Field := listField S.toList (fun c => [.text c.text])

/-- A set of event kinds. -/
def kindFields (S : EventSet) : List Field := listField S.toList (fun e => [.text e.text])

/-- The four sticky flags. -/
def stickyFields (f : StickyFlags) : List Field :=
  [.text (setText f.stepped), .text (setText f.outlierSeen), .text (setText f.integratorSaturated), .text (setText f.correctionSaturated)]

end Sys2Proof.Machine
end

