-- ==== Sys2Proof/Machine/Queues.lean ====
section
/-! DEFINITION. TQM's shared operations (chapter 4): judging and admitting an arrival, cutting a grant into tenant segments, the
departure of the link, and the reassembly of egress segments. -/

namespace Sys2Proof.Machine

open Sys2Proof

/-! ## Arrival (R65 to R68) -/

/-- A packet's form (R65): its length, its frame check sequence, and no error signalled on the port. -/
def wellFormedPacket (bytes : List Byte) (cutShort : Bool) : Bool :=
  decide (Config.minPacket ≤ bytes.length ∧ bytes.length ≤ Config.maxPacket) && fcsOk bytes && !cutShort

/-- The class of a packet by its priority tag (R65). -/
def classify (bytes : List Byte) : IngressClass :=
  if bytes.getD 12 0 = 0x81 ∧ bytes.getD 13 0 = 0x00 ∧ 5 ≤ (bytes.getD 14 0).toNat / 32 then .express else .bulk

/-- A class queue of a slot. -/
def Traffic.queue (t : Traffic) (c : IngressClass) : List Packet :=
  match c with
  | .express => t.express
  | .bulk => t.bulk

/-- A class queue replaced. -/
def Traffic.setQueue (t : Traffic) (c : IngressClass) (q : List Packet) : Traffic :=
  match c with
  | .express => { t with express := q }
  | .bulk => { t with bulk := q }

/-- The class limits (R67). -/
def classLimit (c : IngressClass) : Nat :=
  match c with
  | .express => Config.expressLimit
  | .bulk => Config.bulkLimit

/-- Whether a packet of so many bytes fits its class queue (R67). -/
def Traffic.fits (t : Traffic) (c : IngressClass) (len : Nat) : Bool := decide (queuedPB (t.queue c) + ceilPB len ≤ classLimit c)

/-- The record an admitted packet becomes (R68). -/
def newPacket (seq : Nat) (c : IngressClass) (bytes : List Byte) : Packet :=
  { seq := seq, cls := c, length := bytes.length, total := ceilPB bytes.length, remaining := ceilPB bytes.length, bytes := bytes }

/-- Admission at the tail of the class queue (R68). The number given is the next one also where a record that has waited through 65,536 later
admissions still holds it: R68 over R64 (assumption 31). -/
def Traffic.addPacket (t : Traffic) (c : IngressClass) (bytes : List Byte) : Traffic :=
  let t' := t.setQueue c (t.queue c ++ [newPacket t.nextSeq c bytes])
  { t' with nextSeq := nextNumber t.nextSeq, accepted := satInc t.accepted }

/-- A well-formed packet offered to its class queue (R67): admitted, or dropped full with QUEUE_DROP in the slot alone. -/
def offer (k : Slot) (bytes : List Byte) (s : State) : State :=
  if (s.tqm.get k).fits (classify bytes) bytes.length then s.updTqm fun t => t.modify k (fun r => r.addPacket (classify bytes) bytes)
  else raiseIn .queueDrop k (s.updTqm fun t => t.modify k (fun r => { r with droppedFull := satInc r.droppedFull }))

/-- A packet dropped and counted malformed (R65, R66). -/
def dropMalformed (k : Slot) (s : State) : State :=
  s.updTqm fun t => t.modify k (fun r => { r with malformed := satInc r.malformed })

/-- An arrival on slot `k`'s traffic port (R65, R66); during LOADING every arrival is dropped uncounted. -/
def arrive (k : Slot) (bytes : List Byte) (cutShort : Bool) (s : State) : State :=
  if s.scu.site = .loading then s
  else if !wellFormedPacket bytes cutShort then dropMalformed k s
  else if s.slotVacant k || decide (s.loopSubject = some k) then dropMalformed k s
  else offer k bytes s

/-! ## Draining a grant (R69 to R71) -/

/-- The bytes of `n` PB of a packet from a PB offset, the unused bytes of its last PB zero (R70). -/
def packetPB (bytes : List Byte) (offset n : Nat) : List Byte :=
  let part := (bytes.drop (Config.pbBytes * offset)).take (Config.pbBytes * n)
  part ++ List.replicate (Config.pbBytes * n - part.length) 0

/-- The tenant segment of a cut of `n` PB from a record (R70). -/
def cutSegment (k : Slot) (p : Packet) (n : Nat) : Segment :=
  { slot := k, seq := p.seq, offset := p.total - p.remaining, length := n, last := decide (n = p.remaining),
    pad := if n = p.remaining then some (Config.pbBytes * p.total - p.length) else none,
    data := packetPB p.bytes (p.total - p.remaining) n }

/-- What a drain leaves: the segments cut, the queue and the grant PB remaining. -/
structure Drained where
  segments : List Segment
  queue : List Packet
  left : Nat
deriving DecidableEq, Repr

/-- A queue drained from its head by a grant (R69). -/
def drainQueue (k : Slot) (q : List Packet) (grant : Nat) : Drained :=
  match q with
  | [] => ⟨[], [], grant⟩
  | p :: rest =>
    if grant = 0 then ⟨[], p :: rest, 0⟩
    else if p.remaining ≤ grant then
      let d := drainQueue k rest (grant - p.remaining)
      ⟨cutSegment k p p.remaining :: d.segments, d.queue, d.left⟩
    else ⟨[cutSegment k p grant], { p with remaining := p.remaining - grant } :: rest, 0⟩

/-- Slot `k`'s queues drained by its grant, EXPRESS first (R69): the segments in cutting order, and the record left. -/
def Traffic.drain (t : Traffic) (k : Slot) (grant : Nat) : List Segment × Traffic :=
  let e := drainQueue k t.express grant
  let b := drainQueue k t.bulk e.left
  (e.segments ++ b.segments, { t with express := e.queue, bulk := b.queue })

/-- Every slot's grant drained; the segments stand slot 0's first (R70). -/
def drainAll (grants : PerSlot Nat) (s : State) : List Segment × State :=
  let d := PerSlot.ofFn fun k => (s.tqm.get k).drain k (grants.get k)
  ((d.map Prod.fst).toList.flatten, s.updTqm fun _ => d.map Prod.snd)

/-! ## Departures, slot changes and resets (R72, R75, R77, R79) -/

/-- A class queue without its partly sent head (R72). -/
def dropPartlySent (q : List Packet) : List Packet :=
  match q with
  | [] => []
  | p :: rest => if p.remaining < p.total then rest else p :: rest

/-- The egress partial packet, if present, discarded and counted (R72, R75). -/
def Traffic.discardEgress (t : Traffic) : Traffic :=
  match t.egress with
  | none => t
  | some _ => { t with egress := none, egressDiscarded := satInc t.egressDiscarded }

/-- The link has left UP: one slot's record (R72). -/
def Traffic.depart (t : Traffic) : Traffic :=
  ({ t with express := dropPartlySent t.express, bulk := dropPartlySent t.bulk }).discardEgress

/-- The link has left UP (R72). -/
def tqmDepart (s : State) : State := s.updTqm fun t => t.map Traffic.depart

/-- Both queues flushed, uncounted (R77). -/
def Traffic.flush (t : Traffic) : Traffic := { t with express := [], bulk := [] }

/-- A record after a site reset: flushed, its partial discarded uncounted (R79). -/
def Traffic.resetSite (t : Traffic) : Traffic := { t.flush with egress := none }

/-- The four counters cleared (R76). -/
def Traffic.clearCounters (t : Traffic) : Traffic := { t with accepted := 0, droppedFull := 0, malformed := 0, egressDiscarded := 0 }

/-- TQM at a change of slot `k`'s state (R77). -/
def tqmSlotState (k : Slot) (new : SlotState) (s : State) : State :=
  s.updTqm fun t => t.modify k fun r =>
    match new with
    | .enabled => r
    | .suspended => r.discardEgress
    | .vacant => r.flush.discardEgress

/-! ## Egress (R73 to R75) -/

/-- A discarded egress packet or segment counted. -/
def Traffic.countEgress (t : Traffic) : Traffic := { t with egressDiscarded := satInc t.egressDiscarded }

/-- The partial just begun or grown, after a segment with the given last flag and pad (R73, R74): kept while the last flag is clear;
delivered, or discarded below 64 bytes, when it is set. -/
def Traffic.conclude (t : Traffic) (p : EgressPartial) (last : Bool) (pad : Nat) : Traffic × Option (List Byte) :=
  if Config.maxPacketPB < p.held then ({ t with egress := none }.countEgress, none)
  else if last then
    if Config.pbBytes * p.held - pad < Config.minPacket then ({ t with egress := none }.countEgress, none)
    else ({ t with egress := none }, some (p.bytes.take (Config.pbBytes * p.held - pad)))
  else ({ t with egress := some p }, none)

/-- A segment judged against an absent partial (R73). -/
def Traffic.begin (t : Traffic) (g : EgressSegment) : Traffic × Option (List Byte) :=
  if g.offset = 0 then t.conclude ⟨g.seq, g.length, g.data⟩ g.last g.pad else (t.countEgress, none)

/-- A segment judged (R73): what the record becomes and the packet delivered, if one is. -/
def Traffic.take (t : Traffic) (g : EgressSegment) : Traffic × Option (List Byte) :=
  match t.egress with
  | none => t.begin g
  | some p =>
    if g.seq = p.seq ∧ g.offset = p.held then t.conclude ⟨p.seq, p.held + g.length, p.bytes ++ g.data⟩ g.last g.pad
    else t.discardEgress.begin g

/-- An egress segment taken for its slot (R73), or discarded because the slot is not ENABLED or is the loop subject (R75). -/
def takeSegment (s : State) (g : EgressSegment) : State :=
  if !s.slotEnabled g.slot || decide (s.loopSubject = some g.slot) then
    if g.last then s.updTqm fun t => t.modify g.slot Traffic.countEgress else s
  else
    let r := (s.tqm.get g.slot).take g
    let s' := s.updTqm fun t => t.set g.slot r.1
    match r.2 with
    | none => s'
    | some bytes => s'.emit (.delivered g.slot bytes)

/-- The segments of a far frame in directory order (R73). -/
def takeSegments (gs : List EgressSegment) (s : State) : State := gs.foldl takeSegment s

end Sys2Proof.Machine
end

