-- ==== Sys2Proof/Machine/Grants.lean ====
section
/-! DEFINITION. GRE's shared operations (chapter 6): eligibility, the four stages of the grant pass as arithmetic over the four slots
(a slot that is not eligible enters with zeros and takes zeros), and the update of the grant records. -/

namespace Sys2Proof.Machine

open Sys2Proof

/-! ## Eligibility and what a slot brings to the pass (R97 to R99) -/

/-- The site states in which a slot takes part (R97). -/
def passState (st : SiteState) (k : Slot) : Bool :=
  if k = 0 then decide (st ≠ .loading ∧ st ≠ .unconfigured) else decide (st = .inService)

/-- Whether slot `k` is eligible (R97). -/
def State.eligible (s : State) (k : Slot) : Bool :=
  s.slotEnabled k && decide (s.loopSubject ≠ some k) && passState s.scu.site k

/-- What a slot brings to a pass; zeros where it is not eligible. -/
structure Entrant where
  eligible : Bool
  prio : Nat
  q : Nat
  p : Nat
  w : Nat
  b : Nat
  d : Nat
deriving DecidableEq, Repr

/-- A slot that is not eligible. -/
def Entrant.none : Entrant := ⟨false, 0, 0, 0, 0, 0, 0⟩

/-- Slot `k` as it enters the pass: effective priority (R99), effective committed value (R98), peak, weight, backlog, deficit. -/
def State.entrant (s : State) (k : Slot) : Entrant :=
  match s.tenant k with
  | .none => .none
  | some r =>
    if s.eligible k then
      { eligible := true, prio := if (s.gre.slots.get k).due then 4 else r.priority, q := if s.scu.fit.get k then r.committed else 0,
        p := r.peak, w := r.weight, b := (s.tqm.get k).backlog, d := (s.gre.slots.get k).deficit }
    else .none

/-- The four entrants (R95 steps 2 and 3). -/
def State.entrants (s : State) : PerSlot Entrant := PerSlot.ofFn s.entrant

/-- The sum of effective committed values (R98). -/
def effectiveSum (es : PerSlot Entrant) : Nat := (es.map Entrant.q).sum

/-! ## Rankings and walks -/

/-- A slot put into a ranking ahead of the first that does not rank before it. -/
def insertRanked (before : Slot → Slot → Bool) (k : Slot) (ranked : List Slot) : List Slot :=
  match ranked with
  | [] => [k]
  | j :: rest => if before j k then j :: insertRanked before k rest else k :: j :: rest

/-- The four slots ranked by a strict order, slots it leaves equal by lower slot number first. -/
def rankSlots (before : Slot → Slot → Bool) : List Slot := allSlots.foldr (insertRanked before) []

/-- A walk of a ranking: each slot in turn takes the lower of what it wants and what remains. -/
def walk (want : PerSlot Nat) (ranked : List Slot) (room : Nat) : PerSlot Nat :=
  match ranked with
  | [] => ⟨0, 0, 0, 0⟩
  | k :: rest => (walk want rest (room - min (want.get k) room)).modify k (fun x => x + min (want.get k) room)

/-! ## The stages (R101 to R108) -/

/-- The floors of a shortage (R102). -/
def floors (room : Nat) (q : PerSlot Nat) : PerSlot Nat := q.map fun x => x * room / q.sum

/-- The ranking of a shortage's leftover: slots with an effective committed value, by remainder, largest first (R102). -/
def remainderRank (room : Nat) (q : PerSlot Nat) : List Slot :=
  (rankSlots fun j k => decide (q.get k * room % q.sum < q.get j * room % q.sum)).filter fun k => decide (0 < q.get k)

/-- The entitlements (R101, R102). -/
def entitlements (room : Nat) (q : PerSlot Nat) : PerSlot Nat :=
  if q.sum ≤ room then q
  else
    let fl := floors room q
    let gain := walk ⟨1, 1, 1, 1⟩ (remainderRank room q) (room - fl.sum)
    PerSlot.ofFn fun k => fl.get k + gain.get k

/-- The make-good ranking: effective priority, then owed, then slot number (R104). -/
def owedRank (prio owed : PerSlot Nat) : List Slot :=
  rankSlots fun j k => decide (prio.get k < prio.get j ∨ (prio.get j = prio.get k ∧ owed.get k < owed.get j))

/-- The round-2 ranking: effective priority, then slot number (R108). -/
def surplusRank (prio : PerSlot Nat) : List Slot := rankSlots fun j k => decide (prio.get k < prio.get j)

/-- The figures of a pass, one per slot (R103 to R109). -/
structure Pass where
  e : PerSlot Nat
  g : PerSlot Nat
  s : PerSlot Nat
  o : PerSlot Nat
  m : PerSlot Nat
  x : PerSlot Nat
  r : PerSlot Nat
  f : PerSlot Nat
  r2 : PerSlot Nat
  grant : PerSlot Nat
deriving DecidableEq, Repr

/-- Round 1 of the weighted surplus (R107). -/
def roundOne (surplus : Nat) (w r : PerSlot Nat) : PerSlot Nat :=
  let weights := PerSlot.ofFn fun k => if 0 < r.get k then w.get k else 0
  PerSlot.ofFn fun k => if 0 < r.get k then min (r.get k) (surplus * w.get k / weights.sum) else 0

/-- The division of `room` PB among the four entrants (R101 to R109). -/
def divide (room : Nat) (es : PerSlot Entrant) : Pass :=
  let e := entitlements room (es.map Entrant.q)
  let g := PerSlot.ofFn fun k => min (e.get k) (es.get k).b
  let s := PerSlot.ofFn fun k => min (es.get k).q (es.get k).b - g.get k
  let o := PerSlot.ofFn fun k => (es.get k).d + s.get k
  let m := PerSlot.ofFn fun k => min (es.get k).b (es.get k).p - g.get k
  let prio := es.map Entrant.prio
  let x := walk (PerSlot.ofFn fun k => min (o.get k) (m.get k)) (owedRank prio o) (room - g.sum)
  let r := PerSlot.ofFn fun k => m.get k - x.get k
  let s1 := room - g.sum - x.sum
  let f := roundOne s1 (es.map Entrant.w) r
  let r2 := walk (PerSlot.ofFn fun k => r.get k - f.get k) (surplusRank prio) (s1 - f.sum)
  { e := e, g := g, s := s, o := o, m := m, x := x, r := r, f := f, r2 := r2,
    grant := PerSlot.ofFn fun k => g.get k + x.get k + f.get k + r2.get k }

/-! ## The records (R105, R106, R110 to R114, R116) -/

/-- The greatest deficit (R106). -/
def deficitMax : Nat := 65535

/-- Whether the met history puts a slot in the shortfall condition (R112). -/
def inShortfall (metLimit : Nat) (history : List Bool) : Bool :=
  decide (history.length = 8 ∧ history.countP id < metLimit)

/-- The aging count and raise after a pass, from the count before it (R113). -/
def ageAfter (limit count : Nat) (still : Bool) : Nat × Bool :=
  let n := if still then count + 1 else 0
  if limit = 255 then (0, false) else if limit ≤ n then (0, true) else (n, false)

/-- What an eligible slot's grant record becomes at a pass, but for its last pass. -/
def GrantRec.afterPass (r : GrantRec) (metLimit agingLimit : Nat) (o x s g f r2 dem : Nat) : GrantRec :=
  let history := (decide (s ≤ x) :: r.history).take 8
  let short := inShortfall metLimit history
  let age := ageAfter agingLimit r.aging (decide (f + r2 < dem))
  { r with
    deficit := min (o - x) deficitMax, saturated := r.saturated || decide (deficitMax < o - x), history := history, shortfall := short,
    aging := age.1, due := age.2, committed := satAdd r.committed g, surplus := satAdd r.surplus (x + f + r2),
    shortFrames := if short then satInc r.shortFrames else r.shortFrames }

/-- The pass's frame, rung, capacity, borrow and room, as every slot's last pass records them (R116). -/
structure PassFrame where
  frame : Nat
  rung : Nat
  capacity : Nat
  borrow : Nat
  room : Nat
  shortage : Bool
deriving DecidableEq, Repr

/-- Slot `k`'s last pass (R116). -/
def lastPass (h : PassFrame) (es : PerSlot Entrant) (p : Pass) (k : Slot) : LastPass :=
  { frame := h.frame, rung := h.rung, capacity := h.capacity, borrow := h.borrow, room := h.room, shortage := h.shortage,
    figures :=
      if (es.get k).eligible then
        some { effPriority := (es.get k).prio, q := (es.get k).q, b := (es.get k).b, e := p.e.get k, g := p.g.get k, s := p.s.get k,
               o := p.o.get k, m := p.m.get k, x := p.x.get k, r := p.r.get k, f := p.f.get k, r2 := p.r2.get k,
               grant := p.grant.get k }
      else none }

/-- Slot `k`'s grant record after the pass. -/
def recordAfter (gre : Gre) (h : PassFrame) (es : PerSlot Entrant) (p : Pass) (k : Slot) : GrantRec :=
  let r := gre.slots.get k
  let r' :=
    if (es.get k).eligible then
      r.afterPass gre.metLimit gre.agingLimit (p.o.get k) (p.x.get k) (p.s.get k) (p.g.get k) (p.f.get k) (p.r2.get k) (p.r.get k)
    else r
  { r' with last := some (lastPass h es p k) }

/-- The events of slot `k` at a pass: DEFICIT_FULL at the flag's setting (R106), SHORTFALL at entry to the condition (R112). -/
def passEvents (before after : GrantRec) (k : Slot) (s : State) : State :=
  let s := if !before.saturated && after.saturated then raiseIn .deficitFull k s else s
  if !before.shortfall && after.shortfall then raiseIn .shortfall k s else s

/-- GRE's records and events at a pass. -/
def recordPass (h : PassFrame) (es : PerSlot Entrant) (p : Pass) (s : State) : State :=
  let after := PerSlot.ofFn (recordAfter s.gre h es p)
  allSlots.foldl (fun t k => passEvents (s.gre.slots.get k) (after.get k) k t) (s.updGre fun g => { g with slots := after })

/-- A grant record cleared, its counters kept (R118). -/
def GrantRec.clear (r : GrantRec) : GrantRec := { committed := r.committed, surplus := r.surplus, shortFrames := r.shortFrames }

/-- The three counters cleared (R93). -/
def GrantRec.clearCounters (r : GrantRec) : GrantRec := { r with committed := 0, surplus := 0, shortFrames := 0 }

end Sys2Proof.Machine
end

