-- ==== Sys2Proof/Machine/Orders.lean ====
section
/-! DEFINITION. The shared operations of TSU and SCU, which meet at every completion: order ids, the results log, completions and
starts (chapter 9), the bring-up step, the following of acceptance orders and time fitness (chapters 1 and 5). -/

namespace Sys2Proof.Machine

open Sys2Proof

/-! ## The queue (R162, R163, R5) -/

/-- The id after an id: 255 is followed by 1 (R162). -/
def idAfter (i : Nat) : Nat := if i = 255 then 1 else i + 1

/-- The first id from `i` on that is not held, within so many passings over (R162). -/
def freeId (held : List Nat) (passings i : Nat) : Nat :=
  match passings with
  | 0 => i
  | n + 1 => if i ∈ held then freeId held n (idAfter i) else i

/-- The id the next order takes (R162); at most as many ids are passed over as orders are held. -/
def Tsu.newId (t : Tsu) : Nat := freeId (t.orders.map Order.id) t.orders.length t.nextId

/-- An order placed at the tail of the queue (R162, R163). -/
def Tsu.place (t : Tsu) (r : Requester) (test : Test) : Tsu :=
  { t with queued := t.queued ++ [⟨t.newId, r, test⟩], nextId := idAfter t.newId }

/-- One template of the acceptance set queued and tracked (R5). -/
def queueTemplate (s : State) (it : Nat × Test) : State :=
  (s.updTsu fun t => t.place .site it.2).updScu fun c => { c with tracking := c.tracking ++ [⟨it.1, s.tsu.newId⟩] }

/-- The templates numbered from an index. -/
def numbered (i : Nat) (l : List Test) : List (Nat × Test) :=
  match l with
  | [] => []
  | t :: rest => (i, t) :: numbered (i + 1) rest

/-- The acceptance set queued, in template order, index 0 first (R5). -/
def queueAcceptance (s : State) : State := (numbered 0 s.scu.acceptanceSet).foldl queueTemplate s

/-! ## The bring-up step (R3, R4) -/

/-- The first bring-up condition: the link is UP (R3). -/
def State.linkUp (s : State) : Bool := decide (s.lkc.state = .up)

/-- The second: the published class meets the site required time class (R3). -/
def State.siteClassMet (s : State) : Bool := s.tmu.cls.meets s.scu.siteClass

/-- The bring-up wait set. -/
def setWait (w : Option BringupWait) (s : State) : State := s.updScu fun c => { c with wait := w }

/-- The site enters IN_SERVICE with a service entry. -/
def enterService (e : ServiceEntry) (s : State) : State :=
  setSiteState .inService (s.updScu fun c => { c with entry := some e, wait := none })

/-- SCU evaluates the bring-up step, in BRINGUP alone (R4). -/
def bringupStep (s : State) : State :=
  if s.scu.site ≠ .bringup then s
  else
    match s.linkUp, s.siteClassMet with
    | false, false => setWait (some .linkAndTime) s
    | false, true => setWait (some .linkNotUp) s
    | true, false => setWait (some .timeClass) s
    | true, true =>
      if s.scu.acceptanceSet = [] then enterService .emptySet s
      else if s.scu.acceptanceSet.length ≤ s.tsu.room then setSiteState .acceptance (setWait none (queueAcceptance s))
      else setWait (some (.queueFull s.scu.acceptanceSet.length s.tsu.room)) s

/-! ## Completions (R167, R183, R184, R186, R6, R7) -/

/-- The measures of an order that ran (R184). -/
def measuresOf (o : Order) (p : Progress) : Measures :=
  match o.test, p with
  | .portLoop _ _ len, .portLoop p => { pbSent := some (p.sent * ceilPB len), mismatched := some p.mismatched }
  | _, .airPattern p => { pbSent := some p.sent, pbErrored := some p.errored, framesUsed := some p.used }
  | _, .linkLoop p => { pbSent := some p.sent, pbErrored := some p.errored, framesUsed := some p.looped }
  | _, .timeCompare p => { maxDiff := if p.made = 0 then none else some p.maxDiff }
  | _, _ => {}

/-- The entry of a completion appended to the log (R183): the lowest entry leaves a full log, and nothing is written once the sequence
number is exhausted. -/
def writeEntry (o : Order) (out : TestOutcome) (m : Measures) (s : State) : State :=
  match s.tsu.nextSeq with
  | none => s
  | some n =>
    let kept := if Config.maxLog ≤ s.tsu.log.length then s.tsu.log.drop 1 else s.tsu.log
    s.updTsu fun t =>
      { t with log := kept ++ [⟨n, o, out, m, s.tmu.site, s.tmu.cls⟩], nextSeq := if n = Config.counterMax then none else some (n + 1) }

/-- TEST_DONE in the slots concerned (R186). -/
def raiseTestDone (r : Requester) (s : State) : State :=
  match r with
  | .site => raiseIn .testDone 0 s
  | .slot k => if k = 0 then raiseIn .testDone 0 s else raiseIn .testDone k (raiseIn .testDone 0 s)

/-- Whether SCU matches a report against the tracking list (R6). -/
def matchedReport (o : Order) (out : TestOutcome) : Bool := decide (o.requester = .site ∧ out ≠ .aborted .siteReset)

/-- SCU follows a matched report in ACCEPTANCE (R6, R7). -/
def followAcceptance (o : Order) (out : TestOutcome) (s : State) : State :=
  match s.scu.tracking.find? (fun e => decide (e.order = o.id)) with
  | none => s
  | some e =>
    if out = .pass then
      let s' := s.updScu fun c => { c with tracking := c.tracking.filter (fun x => decide (x.order ≠ o.id)) }
      if s'.scu.tracking = [] then enterService .accepted s' else s'
    else
      setSiteState .acceptFailed
        (s.updScu fun c => { c with tracking := [], failure := some ⟨e.template, o.id, o.test, out⟩ })

/-- A completion reported to SCU (R6): followed in ACCEPTANCE; in BRINGUP it evaluates the step (R4). -/
def reportCompletion (o : Order) (out : TestOutcome) (s : State) : State :=
  if s.scu.site = .acceptance then if matchedReport o out then followAcceptance o out s else s else bringupStep s

/-- The first three steps of a completion (R167); the order has already left the queue. -/
def completeOrder (o : Order) (out : TestOutcome) (m : Measures) (s : State) : State :=
  reportCompletion o out (raiseTestDone o.requester (writeEntry o out m s))

/-! ## Starts (R166) -/

/-- Whether a source is QUALIFIED. -/
def Tmu.qualified (t : Tmu) (src : Source) : Bool := decide ((t.source src).qual = .qualified)

/-- The start condition of an order (R166). -/
def State.startable (s : State) (t : Test) : Bool :=
  match t with
  | .portLoop k _ _ => s.slotEnabled k
  | .airPattern .. => s.linkUp
  | .linkLoop _ => s.linkUp && (s.lkc.ladder.map Ladder.loop).getD false
  | .timeCompare .. => s.tmu.qualified .gnss && s.tmu.qualified .link

/-- The progress an order starts with. -/
def Test.progress (t : Test) : Progress :=
  match t with
  | .portLoop .. => .portLoop {}
  | .airPattern .. => .airPattern {}
  | .linkLoop _ => .linkLoop {}
  | .timeCompare .. => .timeCompare {}

/-- An order starts RUNNING: a PORT_LOOP's slot loses its egress partial packet (R168, R75). -/
def startOrder (o : Order) (s : State) : State :=
  let s' := s.updTsu fun t => { t with running := some ⟨o, o.test.progress⟩ }
  match o.test with
  | .portLoop k _ _ => s'.updTqm fun t => t.modify k Traffic.discardEgress
  | _ => s'

/-- TSU considers a start (R166): orders complete NOT_RUN one after another until one starts or the queue is empty. The first argument
bounds the orders considered. -/
def considerStart (n : Nat) (s : State) : State :=
  match n with
  | 0 => s
  | n + 1 =>
    match s.tsu.running, s.tsu.queued with
    | none, o :: rest =>
      let s' := s.updTsu fun t => { t with queued := rest }
      if s'.startable o.test then startOrder o s' else considerStart n (completeOrder o .notRun {} s')
    | _, _ => s

/-- TSU considers a start; a NOT_RUN completion may have the acceptance set queued once more (R4), so no more orders than these are
ever considered. -/
def settle (s : State) : State := considerStart (s.tsu.queued.length + s.scu.acceptanceSet.length + 1) s

/-- The bring-up step, and the start an order so queued may make. -/
def bringup (s : State) : State := settle (bringupStep s)

/-- The RUNNING order ends with an outcome (R167): its entry, its event, its report, and the next start. -/
def endRunning (out : TestOutcome) (s : State) : State :=
  match s.tsu.running with
  | none => s
  | some r => settle (completeOrder r.order out (measuresOf r.order r.progress) (s.updTsu fun t => { t with running := none }))

/-- The progress of the RUNNING order replaced. -/
def setProgress (p : Progress) (s : State) : State :=
  s.updTsu fun t => { t with running := t.running.map (fun r => { r with progress := p }) }

/-! ## PORT_LOOP (R168, R169) -/

/-- The next test packet sent through the looped port, while one is due. -/
def sendTestPacket (s : State) : State :=
  match s.tsu.running with
  | some { order := { test := .portLoop k _ len, id := id, .. }, progress := .portLoop p } =>
    if s.tsu.packetDue then (setProgress (.portLoop { p with sent := p.sent + 1 }) s).emit (.testPacket k ⟨id, p.sent, len, true⟩) else s
  | _ => s

/-- A return compared with the packet of the next expected index (R168, R169). A packet of another order is a return after that order has
ended, and is discarded; `order` says which order sent the packet, and bytes damaged on the way show in the other fields. -/
def returnTestPacket (q : TestPacket) (s : State) : State :=
  match s.tsu.running with
  | some { order := { test := .portLoop _ n len, id := id, .. }, progress := .portLoop p } =>
    if q.order ≠ id then s
    else if q = ⟨id, p.returned, len, true⟩ then
      let s' := setProgress (.portLoop { p with returned := p.returned + 1 }) s
      if n ≤ p.returned + 1 then endRunning .pass s' else s'
    else endRunning .fail (setProgress (.portLoop { p with returned := p.returned + 1, mismatched := 1 }) s)
  | _ => s

/-- The loop timer reaches its limit with fewer than the packet count returned (R169). -/
def expireLoopTimer (s : State) : State := if s.tsu.loopTimerDue then endRunning .timeout s else s

/-! ## AIR_PATTERN (R170 to R173) -/

/-- The judgement of an AIR_PATTERN at a moment when its last entry may have left, or its frames may have run out (R172). -/
def judgeAir (s : State) : State :=
  match s.tsu.running with
  | some { order := { test := .airPattern n _ f e, .. }, progress := .airPattern p } =>
    if p.sent < n then if f ≤ p.used then endRunning .incomplete s else s
    else if p.awaiting = [] then endRunning (if p.errored ≤ e then .pass else .fail) s
    else s
  | _ => s

/-- The test borrow of a pass with payload room `a` and effective sum `q` (R100). -/
def State.borrow (s : State) (a q : Nat) : Nat :=
  match s.tsu.running with
  | some { order := { test := .airPattern n r _ _, .. }, progress := .airPattern p } => min r (min (n - p.sent) (a - q))
  | _ => 0

/-- One more frame fill over an awaiting list, an entry of `limit` fills leaving it: the entries left, and the PB of those that left. -/
def ageAwaiting (limit : Nat) (l : List Awaiting) : List Awaiting × Nat :=
  let aged := l.map fun a => { a with fills := a.fills + 1 }
  (aged.filter (fun a => decide (a.fills < limit)), ((aged.filter (fun a => decide (limit ≤ a.fills))).map Awaiting.pb).sum)

/-- An AIR_PATTERN's progress at a frame fill with a pass and a borrow `t` (R170). -/
def AirProgress.atFill (p : AirProgress) (n frame t : Nat) : AirProgress :=
  let old := ageAwaiting 8 p.awaiting
  { sent := p.sent + t, used := if p.sent < n then p.used + 1 else p.used, errored := satAdd p.errored old.2,
    awaiting := old.1 ++ (if 0 < t then [⟨frame, t, 0⟩] else []) }

/-- TSU at a frame fill with a pass (R170); the judgement comes at the fill's end. -/
def airFill (frame t : Nat) (s : State) : State :=
  match s.tsu.running with
  | some { order := { test := .airPattern n _ _ _, .. }, progress := .airPattern p } => setProgress (.airPattern (p.atFill n frame t)) s
  | _ => s

/-- A pattern-check report settles the awaiting frame it names, and judges the order (R171, R172). -/
def airReport (r : PatternReport) (s : State) : State :=
  match s.tsu.running with
  | some { progress := .airPattern p, .. } =>
    match p.awaiting.find? (fun a => decide (a.frame = r.frame)) with
    | none => s
    | some a =>
      judgeAir (setProgress (.airPattern
        { p with awaiting := p.awaiting.filter (fun x => decide (x.frame ≠ r.frame)),
                 errored := satAdd p.errored (r.errored + (a.pb - r.received)) }) s)
  | _ => s

/-- Whether an AIR_PATTERN order runs. -/
def State.airRunning (s : State) : Bool :=
  match s.tsu.running with
  | some { progress := .airPattern _, .. } => true
  | _ => false

/-! ## LINK_LOOP, the order's side (R174 to R177) -/

/-- The progress of a RUNNING LINK_LOOP. -/
def State.loopProgress (s : State) : Option LoopProgress :=
  match s.tsu.running with
  | some { progress := .linkLoop p, .. } => some p
  | _ => none

/-- Whether a request for a hold stands (R174). -/
def State.holdRequested (s : State) : Bool :=
  match s.loopProgress with
  | some p => !p.held
  | none => false

/-- The progress of a RUNNING LINK_LOOP changed. -/
def updLoop (f : LoopProgress → LoopProgress) (s : State) : State :=
  match s.loopProgress with
  | some p => setProgress (.linkLoop (f p)) s
  | none => s

/-- The looped frames an order asks for (R163). -/
def State.loopFrames (s : State) : Nat :=
  match s.tsu.running with
  | some { order := { test := .linkLoop d, .. }, .. } => d
  | _ => 0

/-- An outcome decided while the order runs on, unless one is already (R175, R176). -/
def decideLoop (out : TestOutcome) (s : State) : State := updLoop (fun p => { p with decided := some (p.decided.getD out) }) s

/-- Looped frames whose errored PB are counted (R175), saturating at 2^32−1 as an AIR_PATTERN's (assumption 40). -/
def countLooped (errored : Nat) (s : State) : State := updLoop (fun p => { p with errored := satAdd p.errored errored }) s

/-- The outcome at a confirmed end of the hold (R177). -/
def LoopProgress.outcome (p : LoopProgress) : TestOutcome := p.decided.getD (if p.errored = 0 then .pass else .fail)

/-- TSU at a departure of the link that is no site reset (R173, R174, R177): an AIR_PATTERN, and a LINK_LOOP whose hold was not taken,
end ABORTED(LINK_LOST); one whose hold was taken ends with the outcome of the hold's end. -/
def tsuDepart (heldOutcome : TestOutcome) (s : State) : State :=
  match s.tsu.running with
  | some { progress := .airPattern _, .. } => endRunning (.aborted .linkLost) s
  | some { progress := .linkLoop p, .. } => endRunning (if p.held then heldOutcome else .aborted .linkLost) s
  | _ => s

/-! ## TIME_COMPARE (R178, R179) -/

/-- The sample held of a source. -/
def CompareProgress.heldOf (p : CompareProgress) (src : Source) : Option Sample :=
  match src with
  | .gnss => p.heldGnss
  | .link => p.heldLink

/-- A source's sample held. -/
def CompareProgress.hold (p : CompareProgress) (src : Source) (x : Sample) : CompareProgress :=
  match src with
  | .gnss => { p with heldGnss := some x }
  | .link => { p with heldLink := some x }

/-- The other source. -/
def Source.other (src : Source) : Source :=
  match src with
  | .gnss => .link
  | .link => .gnss

/-- The |difference| of a comparison (R178): the GNSS error less the LINK error, or the figure above every limit where the GNSS sample
has a seconds mismatch (LINK samples have none). -/
def difference (a b : Sample) : Nat :=
  if a.mismatch ≠ 0 ∨ b.mismatch ≠ 0 then Config.mismatchDifference else (a.error - b.error).natAbs

/-- A comparison made (R178). -/
def CompareProgress.compare (p : CompareProgress) (d : Nat) : CompareProgress :=
  { p with made := p.made + 1, maxDiff := max p.maxDiff d, heldGnss := none, heldLink := none }

/-- A valid sample of a source handed to TSU (R178, R179). A seconds mismatch is above every limit. -/
def tsuSample (src : Source) (x : Sample) (s : State) : State :=
  match s.tsu.running with
  | some { order := { test := .timeCompare c l, .. }, progress := .timeCompare p } =>
    match p.heldOf src.other with
    | some y =>
      if y.second = x.second then
        let s' := setProgress (.timeCompare (p.compare (difference x y))) s
        if l < difference x y then endRunning .fail s' else if c ≤ p.made + 1 then endRunning .pass s' else s'
      else setProgress (.timeCompare (p.hold src x)) s
    | none => setProgress (.timeCompare (p.hold src x)) s
  | _ => s

/-- A site second boundary reported to TSU (R178, R179). -/
def tsuBoundary (s : State) : State :=
  match s.tsu.running with
  | some { order := { test := .timeCompare c _, .. }, progress := .timeCompare p } =>
    let s' := setProgress (.timeCompare { p with boundaries := p.boundaries + 1 }) s
    if 2 * c ≤ p.boundaries + 1 then endRunning .incomplete s' else s'
  | _ => s

/-- A source has left QUALIFIED (R179). -/
def tsuSourceLeft (s : State) : State :=
  match s.tsu.running with
  | some { progress := .timeCompare _, .. } => endRunning .incomplete s
  | _ => s

/-! ## Resets (R180, R181) -/

/-- TSU's part of a site reset (R180): the queued orders are discarded, and the RUNNING one ends ABORTED(SITE_RESET). -/
def tsuSiteReset (s : State) : State := endRunning (.aborted .siteReset) (s.updTsu fun t => { t with queued := [] })

/-- Whether a QUEUED order of slot `k` leaves at its slot reset (R181). -/
def ownOrder (k : Slot) (o : Order) : Bool := decide (o.requester = .slot k)

/-- Slot `k`'s queued orders removed without a result, which evaluates the bring-up step if any was (R181, R4). -/
def removeQueued (k : Slot) (s : State) : State :=
  let s' := s.updTsu fun t => { t with queued := t.queued.filter (fun o => !ownOrder k o) }
  if s.tsu.queued.any (ownOrder k) then bringupStep s' else s'

/-! ## Time fitness (R90) -/

/-- SCU judges slot `k`'s fitness afresh, unless it is VACANT: TIME_UNFIT at its going from fit to unfit. -/
def judgeFitness (s : State) (k : Slot) : State :=
  match s.tenant k with
  | none => s
  | some r =>
    if r.state = .vacant then s
    else
      let fit := s.tmu.cls.meets r.required
      let s' := s.updScu fun c => { c with fit := c.fit.set k fit }
      if s.scu.fit.get k && !fit then raiseIn .timeUnfit k s' else s'

/-- SCU told of a new published class (R129): the bring-up step, every slot's fitness, the inhibit lines. -/
def classPublished (s : State) : State := recomputeInhibit (allSlots.foldl judgeFitness (bringup s))

end Sys2Proof.Machine
end

