-- ==== Sys2Proof/Machine/Clock.lean ====
section
/-! DEFINITION. TMU's shared operations (chapters 7 and 8): the published class, the timing states and the selection, qualification,
steps, the discipline loop, the link exchange, the advance of site time with its boundaries, and the PPS generators. -/

namespace Sys2Proof.Machine

open Sys2Proof

/-! ## The quality class (R128, R129) -/

/-- The class derived from the timing state, the holdover counter, its limits and the ever-locked flag (R128). -/
def Tmu.derivedClass (t : Tmu) : TimeClass :=
  match t.timing with
  | .locked => .phase
  | .holdover => if t.holdover < t.params.hPhase then .phase else if t.holdover < t.params.hFreq then .frequency else .none
  | .acquiring => if t.everLocked then .frequency else .none
  | .freerun => .none

/-- The class derived afresh, and published where it differs (R129). -/
def deriveClass (s : State) : State :=
  if s.tmu.derivedClass = s.tmu.cls then s
  else classPublished (raiseAll .timeQuality (s.updTmu fun t => { t with cls := t.derivedClass }))

/-! ## Timing state and selection (R145, R147) -/

/-- The selection the qualification states and priorities give (R145). -/
def Tmu.selection (t : Tmu) : Option Source :=
  match t.qualified .gnss, t.qualified .link with
  | true, true => if t.params.gnssPriority < t.params.linkPriority then some .link else some .gnss
  | true, false => some .gnss
  | false, true => some .link
  | false, false => none

/-- The timing state's move at a change of selected source (R147, R154). -/
def Tmu.moveSelected (t : Tmu) (sel : Option Source) : Tmu :=
  let t := { t with selected := sel, history := [] }
  match t.timing, sel with
  | .freerun, some _ => { t with timing := .acquiring }
  | .freerun, none => t
  | .acquiring, some _ => t
  | .acquiring, none =>
    if t.everLocked then { t with timing := .holdover, holdover := t.params.hPhase, y := t.integ }
    else { t with timing := .freerun, integ := 0, y := 0 }
  | .locked, some _ => { t with timing := .acquiring }
  | .locked, none => { t with timing := .holdover, holdover := 0, y := t.integ }
  | .holdover, some _ => { t with timing := .acquiring }
  | .holdover, none => t

/-- TMU judges the selection afresh (R145). -/
def judgeSelection (s : State) : State :=
  if s.tmu.selection = s.tmu.selected then s
  else deriveClass (raiseAll .source (s.updTmu fun t => t.moveSelected t.selection))

/-! ## Qualification (R136, R144) -/

/-- The record after an outcome, for a source that is not DISABLED (R144). -/
def SourceRec.afterOutcome (r : SourceRec) (valid : Bool) : SourceRec :=
  if valid then
    let run := min 8 (r.validRun + 1)
    { r with validRun := run, invalidRun := 0, qual := if r.qual = .unqualified ∧ run = 8 then .qualified else r.qual }
  else
    let run := min 3 (r.invalidRun + 1)
    { r with validRun := 0, invalidRun := run, qual := if r.qual = .qualified ∧ run = 3 then .unqualified else r.qual }

/-- A change of a source's qualification state told on: to TSU where it left QUALIFIED, and to the selection (R144, R145, R179). -/
def qualificationChanged (before : Qualification) (src : Source) (s : State) : State :=
  if (s.tmu.source src).qual = before then s
  else judgeSelection (if before = .qualified then tsuSourceLeft s else s)

/-- An outcome of a source goes to its qualification (R136, R144); one of a DISABLED source goes nowhere. -/
def takeOutcome (src : Source) (valid : Bool) (s : State) : State :=
  if (s.tmu.source src).qual = .disabled then s
  else qualificationChanged (s.tmu.source src).qual src (s.updTmu fun t => t.updSource src (fun r => r.afterOutcome valid))

/-! ## The exchange in flight (R141, R142) -/

/-- The exchange in flight, if any, ends with a missing outcome (R141, R142). -/
def exchangeMissing (s : State) : State :=
  match s.tmu.exchange with
  | none => s
  | some _ => takeOutcome .link false (s.updTmu fun t => { t with exchange := none })

/-- LKC reports a rung change taking effect at a frame: it ends an exchange whose request frame was an earlier one (R142). -/
def tmuRungChange (frame : Nat) (s : State) : State :=
  match s.tmu.exchange with
  | some { request := some r, .. } => if r = frame then s else exchangeMissing s
  | _ => s

/-- The exchange's request placed in the frame filled, in UP (R140): whether it was, and the state with the request frame recorded. With
its exchange ended before the fill a request is not placed (assumption 37). -/
def placeRequest (frame : Nat) (s : State) : Bool × State :=
  match s.tmu.exchange with
  | some { request := none, .. } =>
    (true, s.updTmu fun t => { t with exchange := t.exchange.map (fun x => { x with request := some frame }) })
  | _ => (false, s)

/-- The request's frame leaves the radio port: t1 is recorded and the reply timer starts (R140). -/
def stampRequest (frame : Nat) (s : State) : State :=
  s.updTmu fun t =>
    { t with exchange := t.exchange.map (fun x =>
        if x.request = some frame ∧ x.sent = none then { x with sent := some ⟨t.site, 0⟩ } else x) }

/-! ## Steps (R123) -/

/-- Site time set to a new value: the step itself. The last seconds are kept where the step carries the seconds count past its end too:
R121 clears them at the wrap by the advance, R123 and R126 keep them at a step (assumption 23). -/
def Tmu.stepTo (t : Tmu) (new : SiteTime) : Tmu :=
  { t with site := new, residue := 0, sticky := { t.sticky with stepped := true }, crossed := {} }

/-- A step of site time (R123, R126): no boundary and no pulse is raised for a second it crosses, nor for a crossing of the advance due at
the same moment that has not been taken. -/
def stepTime (new : SiteTime) (s : State) : State := exchangeMissing (s.updTmu fun t => t.stepTo new)

/-! ## The loop (R148, R150 to R153) -/

/-- A division by 2^k rounded by the mode (R153). -/
def divRound (m : Rounding) (n : Int) (k : Nat) : Int :=
  let d : Int := ((2 ^ k : Nat) : Int)
  match m with
  | .towardZero => Int.tdiv n d
  | .nearestEven =>
    let q := n / d
    let r := n % d
    if 2 * r < d then q else if d < 2 * r then q + 1 else if q % 2 = 0 then q else q + 1

/-- A sample applied with a bank (R152). -/
def Tmu.apply (t : Tmu) (bank : LoopBank) (e : Int) : Tmu :=
  let big := e * 256
  let i := t.integ + divRound t.params.rounding big bank.b
  let i' := clamp Config.maxCorrection i
  let y := i' + divRound t.params.rounding big bank.a
  let y' := clamp Config.maxCorrection y
  { t with integ := i', y := y',
           sticky := { t.sticky with integratorSaturated := t.sticky.integratorSaturated || decide (i ≠ i'),
                                     correctionSaturated := t.sticky.correctionSaturated || decide (y ≠ y') } }

/-- The mark of a sample (R148). -/
def Tmu.markOf (t : Tmu) (x : Sample) : Mark :=
  if x.mismatch = 0 ∧ x.error.natAbs ≤ t.params.lockWindow then .inside else .outside

/-- A mark put at the head of the history (R148). -/
def Tmu.putMark (t : Tmu) (m : Mark) : Tmu := { t with history := (m :: t.history).take 8 }

/-- Whether a sample is above a limit: by its error, or by a seconds mismatch (R138). -/
def Sample.above (x : Sample) (limit : Nat) : Bool := decide (x.mismatch ≠ 0 ∨ limit < x.error.natAbs)

/-- The full difference of a sample: its error and its seconds mismatch (R138). -/
def Sample.full (x : Sample) : Int := x.error + x.mismatch * 1000000000

/-- The timing state judged after a mark (R147). -/
def Tmu.judgeMarks (t : Tmu) : Tmu :=
  match t.timing with
  | .acquiring =>
    if t.history.length = 8 ∧ t.history.count .inside = 8 then { t with timing := .locked, everLocked := true, holdover := 0 } else t
  | .locked => if t.history.count .inside < 5 then { t with timing := .acquiring, history := [] } else t
  | _ => t

/-- A sample of the selected source through the screen of the timing state (R150, R151), with what follows its mark. -/
def screenSample (x : Sample) (s : State) : State :=
  match s.tmu.timing with
  | .acquiring =>
    if x.above s.tmu.params.stepLimit then
      stepTime (timeOfNs (timeNs s.tmu.site - x.full)) (s.updTmu fun t => { t with history := [] })
    else deriveClass (s.updTmu fun t => ((t.putMark (t.markOf x)).apply t.params.acquire x.error).judgeMarks)
  | .locked =>
    if x.above s.tmu.params.outlierLimit then
      deriveClass (s.updTmu fun t =>
        ({ t with sticky := { t.sticky with outlierSeen := true } }.putMark .outside).judgeMarks)
    else deriveClass (s.updTmu fun t => ((t.putMark (t.markOf x)).apply t.params.track x.error).judgeMarks)
  | _ => s

/-- A valid sample of a source (R136): the last sample, and for a source that is not DISABLED its qualification, TSU, and the loop where
the source was the selected one when the sample was taken. -/
def takeSample (src : Source) (x : Sample) (s : State) : State :=
  let s1 := s.updTmu fun t => t.updSource src (fun r => { r with last := some x })
  if (s.tmu.source src).qual = .disabled then s1
  else
    let s2 := tsuSample src x (takeOutcome src true s1)
    if s.tmu.selected = some src then screenSample x s2 else s2

/-! ## GNSS (R138, R139) -/

/-- The sample of a pulse: the captured time less the stated seconds, brought within half a second by removing whole seconds (R138). -/
def gnssSample (captured : SiteTime) (stated : Nat) : Sample :=
  let d := timeNs captured - (stated : Int) * 1000000000
  let m := (d + 500000000) / 1000000000
  { error := d - m * 1000000000, mismatch := m, second := stated }

/-- A pulse edge (R138). Before the end of the load no outcome arises and the pulse timer does not run (R136). -/
def gnssPulse (s : State) : State :=
  let found := s.tmu.message
  let s1 := s.updTmu fun t => { t with message := none }
  if s.scu.site = .loading then s1
  else
    let s2 := s1.updTmu fun t => { t with pulseTimer := some 0 }
    match found with
    | some ⟨stated, true⟩ => takeSample .gnss (gnssSample s.tmu.site stated) s2
    | _ => takeOutcome .gnss false s2

/-- The pulse timer reaches its limit (R139). Where a pulse was taken first the timer is back at 0, and no expiry follows. -/
def pulseTimerExpiry (s : State) : State :=
  if s.tmu.pulseDue then takeOutcome .gnss false (s.updTmu fun t => { t with message := none, pulseTimer := some 0 }) else s

/-! ## LINK (R141, R143) -/

/-- The outcome a matched reply forms (R143): the sample and the path delay, or none where it is invalid. -/
def linkOutcome (second : Nat) (t1 t4 : SiteTime) (r : TimeReply) (asymmetry : Int) : Option (Sample × Int) :=
  let forward := timeNs r.t2 - timeNs t1
  let backward := timeNs t4 - timeNs r.t3
  if !r.valid ∨ timeNs r.t3 < timeNs r.t2 ∨ forward + backward < 0 then none
  else some (⟨(backward - forward + asymmetry) / 2, 0, second⟩, (forward + backward) / 2)

/-- A time-exchange reply (R141, R143). A valid one sets the last path delay (R143), but not while LINK is DISABLED: such an outcome sets the
last sample and changes nothing else (R136, R140). -/
def takeReply (r : TimeReply) (s : State) : State :=
  match s.tmu.exchange with
  | some { second := n, sent := some sent, .. } =>
    if r.echo = sent.t1 then
      let s1 := s.updTmu fun t => { t with exchange := none }
      match linkOutcome n sent.t1 s.tmu.site r ((s.lkc.ladder.map Ladder.asymmetry).getD 0) with
      | some (x, delay) =>
        takeSample .link x (if s.tmu.link.qual = .disabled then s1 else s1.updTmu fun t => { t with pathDelay := some delay })
      | none => takeOutcome .link false s1
    else s
  | _ => s

/-- The reply timer reaches its limit (R141). -/
def replyTimerExpiry (s : State) : State := if s.tmu.replyDue then exchangeMissing s else s

/-! ## The advance and the boundaries (R121, R122, R140, R149) -/

/-- The wrap of the seconds count by the advance (R121). -/
def Tmu.wrapSeconds (t : Tmu) : Tmu :=
  { t with lastSecond := none, pps := t.pps.map (fun g => { g with lastEmitted := none }) }

/-- Site time carried forward by the advance to `ns` nanoseconds after second 0, through the wrap where it passes it. -/
def Tmu.carryTo (t : Tmu) (ns : Int) : Tmu :=
  let t' := { t with site := timeOfNs ns }
  if ((Config.secondsModulus * Config.nsPerSecond : Nat) : Int) ≤ ns then t'.wrapSeconds else t'

/-- The holdover counter at a boundary (R149). -/
def Tmu.countHoldover (t : Tmu) : Tmu := if t.timing = .holdover then { t with holdover := satInc t.holdover } else t

/-- LINK's part of a boundary (R140): with the link UP an exchange still in flight ends missing and a new one is created; otherwise no
exchange can be sent and the outcome is missing. -/
def boundaryExchange (n : Nat) (s : State) : State :=
  if s.linkUp then (exchangeMissing s).updTmu fun t => { t with exchange := some { second := n } }
  else takeOutcome .link false s

/-- A site second boundary raised for second `n` (R122): the last second reached, the holdover counter, TSU, and the exchange. During
LOADING no outcome arises (R136). -/
def raiseBoundary (n : Nat) (s : State) : State :=
  let s1 := s.updTmu fun t => { t with lastSecond := some n }
  if s.scu.site = .loading then s1
  else boundaryExchange n (tsuBoundary (deriveClass (s1.updTmu Tmu.countHoldover)))

/-- The advance enters second `n`: a boundary where the last second reached is absent or below it (R122). -/
def enterSecond (n : Nat) (s : State) : State :=
  if (s.tmu.lastSecond.map (fun l => decide (l < n))).getD true then raiseBoundary n s else s

/-- The crossing of site time into a second is taken. -/
def Tmu.takeSecond (t : Tmu) : Tmu := { t with crossed := { t.crossed with second := none } }

/-- The advance carries site time into second `n` (R122): only where the advance has made that crossing, and no step has come first. -/
def siteSecond (n : Nat) (s : State) : State :=
  if s.tmu.crossed.second = some n then enterSecond n (s.updTmu Tmu.takeSecond) else s

/-! ## PPS (R124 to R127) -/

/-- Slot `k`'s PPS offset; 0 while no record is installed. -/
def State.ppsOffset (s : State) (k : Slot) : Int := ((s.tenant k).map TenantRec.ppsOffset).getD 0

/-- The second in which slot `k`'s shifted time stands (R124). -/
def State.shiftedSecond (s : State) (k : Slot) : Int := (timeNs s.tmu.site + s.ppsOffset k) / 1000000000

/-- Whether slot `k` may emit (R125): ENABLED with its PPS enable on. -/
def State.mayEmit (s : State) (k : Slot) : Bool := s.slotEnabled k && ((s.tenant k).map TenantRec.ppsOn).getD false

/-- A pulse put on the output: high with its timer at 0, or, where the output is still high, driven low with the pulse 1 local ms away,
behind those that wait already (R125). -/
def PpsGen.pulse (g : PpsGen) : PpsGen :=
  if g.high then { g with high := false, timer := none, delayed := g.delayed ++ [0] } else { g with high := true, timer := some 0 }

/-- The last emitted second as held: second 2^48 of a slot whose shifted time wraps first is second 0. -/
def heldSecond (n : Int) : Int := if n = (Config.secondsModulus : Int) then 0 else n

/-- Slot `k`'s shifted time enters second `n` by the advance (R125). -/
def emitPulse (k : Slot) (n : Int) (s : State) : State :=
  if s.mayEmit k && ((s.tmu.pps.get k).lastEmitted.map (fun l => decide (l < n))).getD true then
    s.updTmu fun t => { t with pps := t.pps.modify k (fun g => { g.pulse with lastEmitted := some (heldSecond n) }) }
  else s

/-- The crossing of slot `k`'s shifted time into a second is taken, or is none any more (R126). -/
def Tmu.takePulse (t : Tmu) (k : Slot) : Tmu := { t with crossed := { t.crossed with pulses := t.crossed.pulses.set k none } }

/-- The advance carries slot `k`'s shifted time into second `n` (R125): only where the advance has made that crossing, and no step and no
write of the slot's offset has come first (R126). -/
def ppsCrossing (k : Slot) (n : Int) (s : State) : State :=
  if s.tmu.crossed.pulses.get k = some n then emitPulse k n (s.updTmu fun t => t.takePulse k) else s

/-- The pulse that has waited longest is emitted once it has waited its delay (R125). -/
def PpsGen.delayedPulse (g : PpsGen) : PpsGen := if g.delayDue then { g with delayed := g.delayed.tail }.pulse else g

/-- The pulse timer reaches its width (R125). -/
def PpsGen.endPulse (g : PpsGen) : PpsGen := if g.widthDue then { g with high := false, timer := none } else g

/-- A slot that may no longer emit gives up the pulses waiting their delay (R127). -/
def ppsFollow (k : Slot) (s : State) : State :=
  if s.mayEmit k then s else s.updTmu fun t => { t with pps := t.pps.modify k (fun g => { g with delayed := [] }) }

end Sys2Proof.Machine
end

