-- ==== Sys2Proof/Machine/Link.lean ====
section
/-! DEFINITION. LKC's shared operations (chapters 2 and 3): commands to the ODU, the entries to the link states with the departure told to
the neighbours (R38), the building of a ladder, margins and rung notices, the hold, and the parts of a frame fill. -/

namespace Sys2Proof.Machine

open Sys2Proof

/-! ## The control channel (R22) and the LINK_STATE event (R46) -/

/-- A control-channel command put on the channel, and counted. -/
def emitOdu (c : OduCommand) (s : State) : State := (s.updLkc fun l => { l with sent := l.sent + 1 }).emit (.odu c)

/-- A control-channel command sent and awaited: it becomes the outstanding one, with the number of the sending. -/
def sendOdu (c : OduCommand) (limit : Nat) (s : State) : State :=
  (emitOdu c s).updLkc fun l => { l with outstanding := some ⟨c, 0, limit, s.lkc.sent⟩ }

/-- Whether a command of a kind is outstanding. -/
def State.awaits (s : State) (c : OduCommand) : Bool := decide (s.lkc.outstanding.map Outstanding.cmd = some c)

/-- Whether a reply of discovery answers the outstanding command: one of its kind, sent under the number the reply names. The reply of a
command that has ended names another number, and one of another kind matches no command outstanding (R22). -/
def State.answers (s : State) (c : OduCommand) (number : Nat) : Bool :=
  decide (s.lkc.outstanding.map (fun o => (o.cmd, o.number)) = some (c, number))

/-- The outstanding command ended. -/
def endCommand (s : State) : State := s.updLkc fun l => { l with outstanding := none }

/-- The commands of a kind whose late confirmation may still come: none for a command whose reply carries a number. -/
def LateConfirms.get (l : LateConfirms) (c : OduCommand) : Nat :=
  match c with
  | .loopOn => l.loopOn
  | .loopOff => l.loopOff
  | _ => 0

/-- That count changed. -/
def LateConfirms.upd (l : LateConfirms) (c : OduCommand) (f : Nat → Nat) : LateConfirms :=
  match c with
  | .loopOn => { l with loopOn := f l.loopOn }
  | .loopOff => { l with loopOff := f l.loopOff }
  | _ => l

/-- The outstanding command ends unanswered (R22). -/
def Lkc.abandon (l : Lkc) : Lkc :=
  match l.outstanding with
  | some o => { l with outstanding := none, late := l.late.upd o.cmd (· + 1) }
  | none => l

/-- A confirmation of LOOP_ON or LOOP_OFF (R22). Where none of its kind ended unanswered it answers the outstanding one of its kind, and
with none outstanding it is discarded. Where one did, it is that one's late confirmation, and discarded, if none of its kind is
outstanding; otherwise a free value says which of the two it is of (assumption 28). -/
def takeConfirm (c : OduCommand) (answered : State → State) (s : State) : State :=
  match s.lkc.late.get c with
  | 0 => if s.awaits c then answered s else s
  | n + 1 =>
    let discarded := s.updLkc fun l => { l with late := l.late.upd c fun _ => n }
    let judged := fun t : State => t.updLkc fun l => { l with late := { l.late with judged := l.late.judged + 1 } }
    if s.awaits c then if Config.confirmsEarlier s.lkc.late.judged then judged discarded else answered (judged s) else discarded

/-- LINK_STATE in all slots (R46). -/
def linkStateEvent (s : State) : State := raiseAll .linkState s

/-! ## Looped frames (R41) -/

/-- Looped frames not back when the hold ends count errored, before TSU judges the order. -/
def judgeLooped (s : State) : State :=
  (countLooped ((s.lkc.looped.map Awaiting.pb).sum) s).updLkc fun l => { l with looped := [] }

/-! ## Entries and departures (R24, R38, R39, R45) -/

/-- The departure told to TQM and TMU, where the link was UP or HELD (R38). -/
def departQueues (was : LinkState) (s : State) : State := if was.carries then exchangeMissing (tqmDepart s) else s

/-- The departure told to TQM, TMU and TSU, where the link was UP or HELD, and the new state to SCU (R38). -/
def depart (was : LinkState) (heldOutcome : TestOutcome) (s : State) : State :=
  bringup (if was.carries then tsuDepart heldOutcome (departQueues was s) else s)

/-- From HELD, LOOP_OFF is sent and not awaited (R24, R42, R45). -/
def releaseHold (s : State) : State :=
  if s.lkc.state.isHeld then
    judgeLooped ((emitOdu .loopOff s).updLkc fun l => { l.abandon with late := l.abandon.late.upd .loopOff (· + 1) })
  else s

/-- The link record at an entry to DISCOVERY (R24), or to OFF by a site reset (R45), but for the state itself. The frames not sent are
discarded, those filled in ACQUIRING too (assumption 36), and at a site reset those filled in UP just before it too: R38 and R72 over R79
(assumption 12). -/
def Lkc.clear (l : Lkc) : Lkc :=
  { l with odu := none, ladder := none, source := none, outstanding := none, rung := 0, notice := none, voided := none, upCount := 0,
           near := none, far := none, effective := none, unsent := [] }

/-- Entry to DISCOVERY, up to the departure reports (R24). -/
def discoveryEntry (s : State) : State :=
  linkStateEvent (sendOdu .identify Config.discoveryLimit
    ((releaseHold s).updLkc fun l => { l.clear with state := .discovery .identify 1, syncMiss := 0, lowRun := 0 }))

/-- The link enters DISCOVERY by LINK_RESTART or at SCU's request (R24, R43, R44). -/
def enterDiscovery (s : State) : State := depart s.lkc.state (.aborted .linkLost) (discoveryEntry s)

/-- LKC's part of a site reset, up to the departure reports (R45). A site reset of an UNCONFIGURED site that finds the link OFF with reason
NO_ODU or NO_PROFILE enters OFF with reason UNCONFIGURED and raises LINK_STATE, after R45's "enters"; R46's reset that raises nothing is
read as the one that finds the link OFF with that reason already (assumption 16). -/
def siteResetLink (s : State) : State :=
  if s.scu.site = .unconfigured then
    if s.lkc.state = .off .unconfigured then s
    else linkStateEvent ((releaseHold s).updLkc fun l => { l.clear with state := .off .unconfigured })
  else discoveryEntry s

/-- Which counter a loss increases. -/
inductive LossCause where
  | sync | margin | holdExit
deriving DecidableEq, Repr

/-- The counter of a loss increased (R20). -/
def LossCounters.count (c : LossCounters) (x : LossCause) : LossCounters :=
  match x with
  | .sync => { c with sync := satInc c.sync }
  | .margin => { c with margin := satInc c.margin }
  | .holdExit => { c with holdExit := satInc c.holdExit }

/-- The link enters LOST (R38): from UP by a run, or from HELD by an unconfirmed LOOP_OFF (R42). -/
def enterLost (x : LossCause) (s : State) : State :=
  depart s.lkc.state .timeout (linkStateEvent (s.updLkc fun l =>
    { l with state := .lost 0, outstanding := none, notice := none, voided := none, upCount := 0, syncMiss := 0, lowRun := 0,
             losses := l.losses.count x, far := none, unsent := [] }))

/-- The link enters ACQUIRING at rung 0 (R29, R33, R39). -/
def enterAcquiring (s : State) : State :=
  bringup (linkStateEvent (s.updLkc fun l => { l with state := .acquiring, outstanding := none, rung := 0 }))

/-- The link enters UP from ACQUIRING (R33). -/
def enterUp (s : State) : State :=
  bringup (linkStateEvent (s.updLkc fun l =>
    { l with state := .up, rung := 0, notice := none, voided := none, upCount := 0, syncMiss := 0, lowRun := 0 }))

/-- Discovery ends in OFF (R25, R27, R28, R29): the ladder stays absent and the counter of the reason increases. -/
def failDiscovery (r : OffReason) (s : State) : State :=
  bringup (linkStateEvent (s.updLkc fun l =>
    { l with state := .off r, outstanding := none, near := none, far := none, effective := none,
             losses := match r with
               | .noOdu => { l.losses with noOdu := satInc l.losses.noOdu }
               | _ => { l.losses with noProfile := satInc l.losses.noProfile } }))

/-! ## The ladder (R26 to R29) -/

/-- The profile entry of a key (R27, R30). -/
def matching (ps : List Profile) (id : OduId) : Option Profile := ps.find? (fun p => decide (p.key = id))

/-- The rungs of capacities and thresholds. -/
def zipRungs (caps : List Nat) (ths : List (Int × Int)) : List Rung := List.zipWith (fun c t => ⟨c, t.1, t.2⟩) caps ths

/-- The thresholds a matching entry can supply: those of an entry of the same rung count (R27). -/
def profileThresholds (entry : Option Profile) (n : Nat) : Option (List (Int × Int)) :=
  match entry with
  | some p => if p.ladder.rungs.length = n then some (p.ladder.rungs.map fun r => (r.up, r.down)) else none
  | none => none

/-- The ladder built from a valid page, field by field (R27). -/
def ladderFromPage (page : CapabilityPage) (entry : Option Profile) : Option (Ladder × LadderSource) :=
  let asym : Int × LadderOrigin :=
    match page.asymmetry, entry with
    | some a, _ => (a, .page)
    | none, some p => (p.ladder.asymmetry, .profile)
    | none, none => (0, .zero)
  let ths : Option (List (Int × Int) × LadderOrigin) :=
    match page.thresholds with
    | some t => some (t, .page)
    | none => (profileThresholds entry page.capacities.length).map fun t => (t, .profile)
  ths.map fun t => (⟨zipRungs page.capacities t.1, page.loop, asym.1⟩, ⟨.page, t.2, asym.2⟩)

/-- The ladder built without a page (R28). -/
def ladderFromProfile (entry : Option Profile) : Option (Ladder × LadderSource) :=
  entry.map fun p => (p.ladder, ⟨.profile, .profile, .profile⟩)

/-- A ladder built is checked, and put in force or discarded (R29). -/
def installLadder (built : Option (Ladder × LadderSource)) (s : State) : State :=
  match built with
  | some (l, src) =>
    if l.consistent then enterAcquiring (s.updLkc fun c => { c with ladder := some l, source := some src }) else failDiscovery .noProfile s
  | none => failDiscovery .noProfile s

/-- The ladder built from a page reply, valid or not, or from no answer (R26 to R29). -/
def buildLadder (page : Option CapabilityPage) (s : State) : State :=
  let id := s.lkc.odu.getD ⟨0, 0⟩
  let entry := matching s.lkc.profiles id
  match page with
  | some p => if p.id = id then installLadder (ladderFromPage p entry) s else installLadder (ladderFromProfile entry) s
  | none => installLadder (ladderFromProfile entry) s

/-! ## Margins and the rung decision (R48 to R57) -/

/-- A margin brought into its range (R48, R49). -/
def clampMargin (m : Int) : Int := clamp 400 m

/-- Whether the far margin is fresh (R49). -/
def Lkc.farFresh (l : Lkc) : Bool :=
  match l.far with
  | some f => decide (f.age ≤ Config.freshAge)
  | none => false

/-- The effective margin of a report of (clamped) local margin `m` (R50). -/
def Lkc.effectiveOf (l : Lkc) (m : Int) : Int :=
  match l.far with
  | some f => if f.age ≤ Config.freshAge then min m f.value else m
  | none => m

/-- The down and up thresholds of a rung of the ladder in force. -/
def State.down (s : State) (r : Nat) : Option Int := (s.rungs[r]?).map Rung.down
def State.upThreshold (s : State) (r : Nat) : Option Int := (s.rungs[r]?).map Rung.up

/-- Whether a margin is below a rung's down threshold. -/
def State.belowDown (s : State) (r : Nat) (m : Int) : Bool :=
  match s.down r with
  | some d => decide (m < d)
  | none => false

/-- The highest rung below `r` whose down threshold is at or below the margin; 0 where there is none (R52). -/
def State.downTarget (s : State) (m : Int) (r : Nat) : Nat :=
  match r with
  | 0 => 0
  | r + 1 => if s.belowDown r m then s.downTarget m r else r

/-- The margin rung of a report (R52). -/
def State.marginRung (s : State) (m : Int) : Nat :=
  if s.belowDown s.lkc.rung m && decide (0 < s.lkc.rung) then s.downTarget m s.lkc.rung else s.lkc.rung

/-- The headed-for rung: the pending notice's target, or the current rung (section 3.2). -/
def Lkc.headedFor (l : Lkc) : Nat := (l.notice.map Notice.target).getD l.rung

/-- Whether a rung is above the ceiling in force. -/
def State.aboveCeiling (s : State) (r : Nat) : Bool :=
  match s.ceilingInForce with
  | some c => decide (c < r)
  | none => false

/-- A down decision creates the notice, replaces a pending one of a higher target, or is not taken (R56, R57). An ANNOUNCED notice
replaced is void, and is held until the replacement is announced. -/
def Lkc.decideDown (l : Lkc) (target : Nat) (cause : NoticeCause) : Lkc :=
  match l.notice with
  | none => { l with notice := some ⟨target, cause, .decided⟩, upCount := 0 }
  | some p =>
    if target < p.target then
      match p.stage with
      | .decided => { l with notice := some ⟨target, cause, .decided⟩, upCount := 0 }
      | .announced .. => { l with notice := some ⟨target, cause, .decided⟩, voided := some p, upCount := 0 }
    else { l with upCount := 0 }

/-- The up-step test of R54. -/
def State.upStepPasses (s : State) (m : Int) : Bool :=
  s.lkc.notice.isNone && s.lkc.farFresh && !s.aboveCeiling (s.lkc.rung + 1) &&
    (match s.upThreshold (s.lkc.rung + 1) with
     | some u => decide (u ≤ m)
     | none => false)

/-- A report that passes the up-step test (R54). -/
def Lkc.stepUp (l : Lkc) : Lkc :=
  if l.upLimit ≤ l.upCount + 1 then { l with notice := some ⟨l.rung + 1, .marginUp, .decided⟩, upCount := 0 }
  else { l with upCount := l.upCount + 1 }

/-- The rung decision of a report of effective margin `m` (R51 to R54). -/
def rungDecision (m : Int) (s : State) : State :=
  if s.aboveCeiling s.lkc.headedFor then
    s.updLkc fun l => l.decideDown (min (s.ceilingInForce.getD 0) (s.marginRung m)) .ceiling
  else if s.belowDown s.lkc.rung m && decide (0 < s.lkc.rung) then
    s.updLkc fun l => l.decideDown (s.downTarget m s.lkc.rung) .marginDown
  else if s.upStepPasses m then s.updLkc Lkc.stepUp
  else s.updLkc fun l => { l with upCount := 0 }

/-- A status report of local margin `m`, in UP (R23, R37, R48, R50, R51). The link enters LOST where the report brings the low-margin run to
the loss limit, and where the run stood at or above a newly lowered limit already, whatever the report (R37). -/
def takeReport (m : Int) (s : State) : State :=
  if s.lkc.state = .up then
    let near := clampMargin m
    let eff := s.lkc.effectiveOf near
    let run := if s.belowDown 0 eff then s.lkc.lowRun + 1 else 0
    let s1 := s.updLkc fun l => { l with near := some near, effective := some eff, lowRun := run }
    if decide (s.lkc.lossLimit ≤ s.lkc.lowRun) || (s.belowDown 0 eff && decide (s.lkc.lossLimit ≤ run)) then enterLost .margin s1
    else rungDecision eff s1
  else s

/-! ## Far frames (R33, R36, R49) -/

/-- An expected far frame counted missing, in UP (R36). -/
def missFrame (s : State) : State :=
  let s1 := s.updLkc fun l => { l with syncMiss := l.syncMiss + 1, losses := { l.losses with unsynced := satInc l.losses.unsynced } }
  if Config.syncMissLimit ≤ s.lkc.syncMiss + 1 then enterLost .sync s1 else s1

/-- A synced far frame in UP: its contents are handed on (R36). -/
def handOn (f : FarFrame) (s : State) : State :=
  let s1 := s.updLkc fun l => { l with syncMiss := 0, far := some ⟨clampMargin f.margin, 0⟩, farPattern := f.pattern }
  let s2 := takeSegments f.segments s1
  let s3 := match f.reply with
    | some r => takeReply r s2
    | none => s2
  match f.report with
  | some r => airReport r s3
  | none => s3

/-- A far frame (R33, R36): the first synced one in ACQUIRING brings the link to UP and is taken as a frame in UP. -/
def takeFarFrame (f : FarFrame) (s : State) : State :=
  match s.lkc.state with
  | .acquiring => if f.sync then handOn f (enterUp s) else s
  | .up => if f.sync then handOn f s else missFrame s
  | _ => s

/-! ## The hold (R40 to R42) -/

/-- LOOP_OFF is sent and LOOP_EXIT entered; a LOOP_ON outstanding ends unanswered (R41). -/
def enterLoopExit (s : State) : State :=
  sendOdu .loopOff s.lkc.confirmLimit (s.updLkc fun l => { l.abandon with state := .held .loopExit })

/-- The last frame filled before the hold has been sent: LOOP_ON, or LOOP_OFF in its place where an end was asked (R41). -/
def leavePending (endAsked : Bool) (s : State) : State :=
  if endAsked then enterLoopExit s
  else sendOdu .loopOn s.lkc.confirmLimit (s.updLkc fun l => { l with state := .held .loopEntry })

/-- TSU asks for an early end of the loop (R41). -/
def askLoopEnd (s : State) : State :=
  match s.lkc.state with
  | .held (.holdPending u _) => s.updLkc fun l => { l with state := .held (.holdPending u true) }
  | .held .loopEntry => enterLoopExit s
  | .held .looping => enterLoopExit s
  | _ => s

/-- A cancel or a slot reset of the requester reaches a RUNNING LINK_LOOP (R176): the abort is decided; the order ends at once where its
hold was not taken, and otherwise the loop is asked to end. -/
def abortLoop (r : AbortReason) (s : State) : State :=
  match s.loopProgress with
  | none => s
  | some p =>
    if p.held then if p.decided.isSome then s else askLoopEnd (decideLoop (.aborted r) s)
    else endRunning (p.decided.getD (.aborted r)) s

/-- The hold is taken at a frame fill (R40), with its departure reported to TQM, TMU and SCU. -/
def enterHold (s : State) : State :=
  let s1 := s.updLkc fun l => { l with state := .held (.holdPending l.unsent.length false), upCount := 0, syncMiss := 0, lowRun := 0 }
  let s2 := departQueues .up (linkStateEvent (updLoop (fun p => { p with held := true }) s1))
  let s3 := bringup s2
  if s.lkc.unsent = [] then leavePending false s3 else s3

/-- The hold ends confirmed (R42): the link is UP again, TSU judges the order, and SCU is told. -/
def endHold (s : State) : State :=
  let s1 := judgeLooped (endCommand s)
  let s2 := linkStateEvent (s1.updLkc fun l => { l with state := .up, upCount := 0, syncMiss := 0, lowRun := 0 })
  bringup (match s2.loopProgress with
    | some p => endRunning p.outcome s2
    | none => s2)

/-- A looped frame returns (R41): its errored PB are counted while it is awaited. -/
def returnLooped (frame errored : Nat) (s : State) : State :=
  if s.lkc.state.isHeld && s.lkc.looped.any (fun a => decide (a.frame = frame)) then
    (countLooped errored s).updLkc fun l => { l with looped := l.looped.filter (fun a => decide (a.frame ≠ frame)) }
  else s

/-! ## A frame fill (R34, R35, R49, R56 to R58) -/

/-- The frame number advances, and a LOOP_ON or LOOP_OFF outstanding has waited one more air frame (R22, R34). -/
def Lkc.nextFrame (l : Lkc) : Lkc :=
  { l with frame := nextNumber l.frame,
           outstanding := l.outstanding.map (fun o =>
             if o.cmd = .loopOn ∨ o.cmd = .loopOff then { o with elapsed := min o.limit (o.elapsed + 1) } else o) }

/-- The far margin one frame fill older (R49). -/
def Lkc.ageFar (l : Lkc) : Lkc := { l with far := l.far.map (fun f => { f with age := min 255 (f.age + 1) }) }

/-- The effective frame of an ANNOUNCED notice. -/
def Notice.effectiveFrame (n : Notice) : Option Nat :=
  match n.stage with
  | .announced _ e => some e
  | .decided => none

/-- The notice that takes effect at a frame (R57, R58): a voided one whose replacement came too late, or the pending one. -/
def Lkc.noticeDue (l : Lkc) (frame : Nat) : Option Notice :=
  match l.voided with
  | some v => if v.effectiveFrame = some frame then some v else none
  | none =>
    match l.notice with
    | some n => if n.effectiveFrame = some frame then some n else none
    | none => none

/-- A notice takes effect (R58, R62): RUNG is raised where the rung changes. TMU is told by `reportRung`. -/
def takeEffect (n : Notice) (s : State) : State :=
  let s1 := s.updLkc fun l => { l with rung := n.target, notice := none, voided := none }
  if n.target = s.lkc.rung then s1 else raiseAll .rung s1

/-- LKC's report to TMU of a rung change taking effect at the frame just filled, from the rung before it (R58, R142). -/
def reportRung (before : Nat) (s : State) : State := if s.lkc.rung = before then s else tmuRungChange s.lkc.frame s

/-- The rung in force for the frame is fixed (R57, R58); a void notice that is not due is dropped, and in HELD a DECIDED notice is
discarded (R56). -/
def fixRung (s : State) : State :=
  match s.lkc.noticeDue s.lkc.frame with
  | some n => takeEffect n s
  | none =>
    s.updLkc fun l =>
      { l with voided := none,
               notice := match l.notice with
                 | some ⟨_, _, .decided⟩ => if l.state.isHeld then none else l.notice
                 | n => n }

/-- A DECIDED notice is announced in the frame being filled, in UP (R56). -/
def Lkc.announce (l : Lkc) : Lkc :=
  match l.notice with
  | some ⟨t, c, .decided⟩ => { l with notice := some ⟨t, c, .announced l.frame ((l.frame + 2) % Config.frameModulus)⟩ }
  | _ => l

/-- The notice a frame carries: in its announcement frame and the frame after it (R56). -/
def Lkc.carried (l : Lkc) : Option CarriedNotice :=
  match l.notice with
  | some ⟨t, _, .announced a e⟩ => if l.frame = a ∨ l.frame = nextNumber a then some ⟨t, e⟩ else none
  | _ => none

/-- The frame filled joins the frames not yet sent. -/
def pushFrame (request : Bool) (pattern : Nat) (segments : List Segment) (s : State) : State :=
  let used := pattern + (segments.map Segment.length).sum
  s.updLkc fun l =>
    { l with unsent := l.unsent ++
        [{ number := l.frame, rung := l.rung, notice := l.carried, nearMargin := l.near.getD (-400), request := request,
           report := if s.airRunning then some (l.farPattern.getD ⟨0, 0⟩) else none, pattern := pattern, segments := segments,
           idle := s.capacity l.rung - Config.controlReserve - used }] }

/-- Looped frames not back by their fourth fill count errored (R41). -/
def ageLooped (s : State) : State :=
  let old := ageAwaiting 4 s.lkc.looped
  (if old.2 = 0 then s else countLooped old.2 s).updLkc fun l => { l with looped := old.1 }

/-- The fill of a frame in HELD (R40, R41): idle, or in LOOPING pattern throughout; the D-th looped frame ends LOOPING. -/
def fillHeld (s : State) : State :=
  if s.lkc.state = .held .looping then
    let pb := s.capacity s.lkc.rung - Config.controlReserve
    let s1 := updLoop (fun p => { p with looped := p.looped + 1, sent := p.sent + pb }) s
    let s2 := (pushFrame false pb [] s1).updLkc fun l => { l with looped := l.looped ++ [⟨l.frame, pb, 0⟩] }
    if s.loopFrames ≤ (s1.loopProgress.map LoopProgress.looped).getD 0 then enterLoopExit s2 else s2
  else pushFrame false 0 [] s

/-- The grant pass of a frame, its drain and its borrow (R95, R100, R69): the borrow, the segments, and the state after. -/
def passAndDrain (s : State) : Nat × List Segment × State :=
  let es := s.entrants
  let a := s.capacity s.lkc.rung - Config.controlReserve
  let t := s.borrow a (effectiveSum es)
  let p := divide (a - t) es
  let h : PassFrame := ⟨s.lkc.frame, s.lkc.rung, s.capacity s.lkc.rung, t, a - t, decide (a - t < effectiveSum es)⟩
  let d := drainAll p.grant (recordPass h es p s)
  (t, d.1, d.2)

/-- The fill of a frame in UP (R34, R35): the notice announced, the pass, TSU's count, the exchange request, the frame, and the
judgement of an AIR_PATTERN. -/
def fillUp (s : State) : State :=
  let s1 := s.updLkc Lkc.announce
  let d := passAndDrain s1
  let r := placeRequest s1.lkc.frame (airFill s1.lkc.frame d.1 d.2.2)
  judgeAir (pushFrame r.1 d.1 d.2.1 r.2)

/-- A frame fill (R34, R40): in ACQUIRING idle; in UP the hold where one is requested, the traffic otherwise; in HELD by the loop phase.
There are no fills in the other states. A notice due at this fill fixes the rung before the grant pass (R58). TMU takes the report of the
change once the frame is filled: an exchange it ends may move the published class, a slot's fitness and the running order, and the pass has
read them as they stood when the fill was taken (R95; for the running order, assumption 29). -/
def fillFrame (s : State) : State :=
  match s.lkc.state with
  | .acquiring =>
    let s1 := pushFrame false 0 [] (s.updLkc Lkc.nextFrame)
    if s.holdRequested then endRunning (.aborted .linkLost) s1 else s1
  | .up =>
    let s1 := s.updLkc fun l => l.nextFrame.ageFar
    reportRung s.lkc.rung (if s.holdRequested then fillHeld (fixRung (enterHold s1)) else fillUp (fixRung s1))
  | .held _ => reportRung s.lkc.rung (fillHeld (fixRung (ageLooped (s.updLkc fun l => l.nextFrame.ageFar))))
  | _ => s

/-- The oldest frame filled leaves the radio port (R140, R41): a request in it is stamped with site time, and the last frame filled before
a hold ends HOLD_PENDING. -/
def sendFrame (s : State) : State :=
  match s.lkc.unsent with
  | [] => s
  | f :: rest =>
    let s1 := (s.updLkc fun l => { l with unsent := rest }).emit (.airFrame f (if f.request then some s.tmu.site else none))
    let s2 := if f.request then stampRequest f.number s1 else s1
    match s.lkc.state with
    | .held (.holdPending u asked) =>
      if u ≤ 1 then leavePending asked s2 else s2.updLkc fun l => { l with state := .held (.holdPending (u - 1) asked) }
    | _ => s2

end Sys2Proof.Machine
end

