-- ==== Sys2Proof/Machine/Requests.lean ====
section
/-! DEFINITION. How a request is judged (R192): SLI's steps 3 to 5 over the class the request needs (R195) and the lock (R199), and then
its owner, whose judgement either refuses and leaves the state alone or takes the request with its data and its effect. -/

namespace Sys2Proof.Machine

open Sys2Proof

/-- What a command answers. -/
abbrev Result := Host.Outcome State Fault Refusal

/-- An owner's judgement: a refusal with its status and data, or the response data and the state the taken request leaves. -/
abbrev Verdict := Except (Status × List Field) (List Field × State)

/-- A refusal without data (R189). -/
def refuse (st : Status) : Verdict := .error (st, [])

/-- A request taken. -/
def taken (data : List Field) (s : State) : Verdict := .ok (data, s)

/-- The answer to a judgement: the waiting response on the requesting link (R188), over the state the judgement leaves. -/
def conclude (k : Slot) (tag : Byte) (v : Verdict) (s : State) : State :=
  match v with
  | .error (st, data) => answer k tag st data s
  | .ok (data, s') => answer k tag .ok data s'

/-- Step 3: the site is not LOADING and the requesting slot is not VACANT (R193). -/
def State.standing (s : State) (k : Slot) : Bool := decide (s.scu.site ≠ .loading) && !s.slotVacant k

/-- A request through steps 3, 4 and 5 to its owner (R192). -/
def serve (k : Slot) (tag : Byte) (permitted frozen : Bool) (owner : Verdict) (s : State) : State :=
  if !s.standing k then answer k tag .wrongState [] s
  else if !permitted then answer k tag .denied [] s
  else if frozen && s.sli.lock then answer k tag .locked [] s
  else conclude k tag owner s

/-- A request that needs one class (R195). -/
def State.holds (s : State) (k : Slot) (c : PermClass) : Bool := (s.classes k).has c

/-- The slot that the first parameter byte of a request names, where it names one (R195). -/
def targetOf (ps : List Byte) : Option Slot := ps.head?.bind fun b => slotOf b.toNat

/-- Whether a request names the requesting slot; a missing or out-of-range target is judged as another slot (R195). -/
def namesOwn (k : Slot) (ps : List Byte) : Bool := decide (targetOf ps = some k)

/-- A request open to the slot it names and needing a class to name another (R195). -/
def State.ownOr (s : State) (k : Slot) (c : PermClass) (ps : List Byte) : Bool := namesOwn k ps || s.holds k c

/-- The class of a change of slot state (R84): SITE_CONTROL into or out of VACANT, and to VACANT from VACANT; otherwise SHARE_CONTROL.
The slot and the state are read as the list begins, bytes after them being judged at step 7 (R192, R219); without a valid slot or state
the class is SHARE_CONTROL (R195; for the state, assumption 10). -/
def State.slotStateClass (s : State) (ps : List Byte) : PermClass :=
  match targetOf ps, takeSlotState ps with
  | some k, some ((_, new), _) => if new = .vacant ∨ s.slotVacant k = true then .siteControl else .shareControl
  | _, _ => .shareControl

/-- Whether an ORDER_TEST is of a PORT_LOOP on the requesting slot (R163, R195), as far as step 4 reads its kind and slot. -/
def ordersOwnLoop (k : Slot) (ps : List Byte) : Bool :=
  match takeNamed kindOfText ps with
  | some (0, b :: _) => decide (slotOf b.toNat = some k)
  | _ => false

/-- Either test class (R195). -/
def State.holdsTest (s : State) (k : Slot) : Bool := s.holds k .testOwn || s.holds k .testShared

/-- A parameter reader's result handed to the owner; a list that does not read is refused BAD_VALUE (R219). -/
def withParams {α : Type} (o : Option α) (f : α → Verdict) : Verdict :=
  match o with
  | some a => f a
  | none => refuse .badValue

/-- A request with no parameters that returns data and changes nothing. -/
def reads (ps : List Byte) (data : List Field) (s : State) : Verdict := withParams (noParams ps) fun _ => taken data s

/-- A request that names one slot and returns its data, changing nothing. -/
def readsSlot (ps : List Byte) (data : Slot → List Field) (s : State) : Verdict :=
  withParams (slotParam ps) fun n => withParams (slotOf n) fun k => taken (data k) s

end Sys2Proof.Machine
end

