-- ==== Sys2Proof/Machine/LinkCommands.lean ====
section
/-! DEFINITION. The link controller's commands (chapters 2 and 3): its requests, the ODU's replies and their limits, the hold, the reports
and frames that arrive, and the frames filled and sent. -/

namespace Sys2Proof.Machine

open Sys2Proof

/-! ## Requests -/

/-- One rung's fields (R20). -/
def rungFields (r : Rung) : List Field := [.num 2 r.capacity, .num 2 r.up, .num 2 r.down]

/-- A ladder's fields (R20, R30). -/
def ladderFields (l : Ladder) : List Field := listField l.rungs rungFields ++ [.text (setText l.loop), .num 2 l.asymmetry]

/-- The text of a notice's stage (R56). -/
def stageText (st : NoticeStage) : Text :=
  match st with
  | .decided => txt "DECIDED"
  | .announced .. => txt "ANNOUNCED"

/-- The announcement frame of an ANNOUNCED notice. -/
def Notice.announcementFrame (n : Notice) : Option Nat :=
  match n.stage with
  | .announced a _ => some a
  | .decided => none

/-- A notice's fields (R56). The announcement frame and the effective frame, present in ANNOUNCED alone, carry a presence byte each
(assumption 34). -/
def noticeFields (n : Notice) : List Field :=
  [.num 1 n.target, .text n.cause.text, .text (stageText n.stage)] ++ optField n.announcementFrame (fun a => [.num 2 a])
    ++ optField n.effectiveFrame (fun e => [.num 2 e])

/-- The fields present in one link state alone (R20, R47). -/
def LinkState.offReason (l : LinkState) : Option OffReason :=
  match l with
  | .off r => some r
  | _ => none

def LinkState.step (l : LinkState) : Option (DiscoveryStep × Nat) :=
  match l with
  | .discovery st n => some (st, n)
  | _ => none

def LinkState.backoff (l : LinkState) : Option Nat :=
  match l with
  | .lost n => some n
  | _ => none

def LinkState.phase (l : LinkState) : Option LoopPhase :=
  match l with
  | .held p => some p
  | _ => none

/-- What LINK_STATUS returns (R47). -/
def linkData (s : State) : List Field :=
  let l := s.lkc
  [.text l.state.text] ++ optField l.state.offReason (fun r => [.text r.text])
    ++ optField l.state.step (fun d => [.text d.1.text, .num 1 d.2]) ++ optField l.state.backoff (fun n => [.num 2 n])
    ++ optField l.state.phase (fun p => [.text p.text]) ++ optField l.odu (fun o => [.num 2 o.maker, .num 2 o.model])
    ++ optField l.ladder ladderFields
    ++ optField l.source (fun x => [.text x.capacities.text, .text x.thresholds.text, .text x.asymmetry.text])
    ++ [.num 1 l.rung] ++ optField s.ceilingInForce (fun c => [.num 1 c]) ++ optField l.notice noticeFields ++ [.num 1 l.upCount]
    ++ optField l.far (fun f => [.num 2 f.value, .num 1 f.age]) ++ optField l.near (fun m => [.num 2 m])
    ++ optField l.effective (fun m => [.num 2 m]) ++ [.num 2 l.frame, .num 1 l.syncMiss, .num 2 l.lowRun]
    ++ [.num 4 l.losses.noOdu, .num 4 l.losses.noProfile, .num 4 l.losses.sync, .num 4 l.losses.margin, .num 4 l.losses.unsynced,
        .num 4 l.losses.holdExit]

/-- LINK_STATUS (R47). -/
def execLinkStatus (k : Slot) (tag : Byte) (ps : List Byte) (s : State) : Result :=
  .next (serve k tag true false (reads ps (linkData s) s) s)

/-- What READ_PROFILES returns (R32). -/
def profilesData (s : State) : List Field :=
  listField s.lkc.profiles fun p => [.num 2 p.key.maker, .num 2 p.key.model] ++ ladderFields p.ladder

/-- READ_PROFILES (R32). -/
def execReadProfiles (k : Slot) (tag : Byte) (ps : List Byte) (s : State) : Result :=
  .next (serve k tag true false (reads ps (profilesData s) s) s)

/-- LKC's judgement of LINK_RESTART (R43). -/
def judgeLinkRestart (ps : List Byte) (s : State) : Verdict :=
  if s.lkc.state.isHeld then refuse .wrongState else withParams (noParams ps) fun _ => taken [] (enterDiscovery s)

/-- LINK_RESTART (R43). -/
def execLinkRestart (k : Slot) (tag : Byte) (ps : List Byte) (s : State) : Result :=
  .next (serve k tag (s.holds k .linkControl) false (judgeLinkRestart ps s) s)

/-- LKC's judgement of SET_RUNG_LIMITS (R61): answered with the ceiling as written and the ceiling in force. -/
def judgeSetRungLimits (ps : List Byte) (s : State) : Verdict :=
  withParams (numParam 1 ps) fun n =>
    if 7 < n then refuse .badValue
    else
      let s' := s.updLkc fun l => { l with ceiling := n }
      taken ([.num 1 n] ++ optField s'.ceilingInForce (fun c => [.num 1 c])) s'

/-- SET_RUNG_LIMITS (R61). -/
def execSetRungLimits (k : Slot) (tag : Byte) (ps : List Byte) (s : State) : Result :=
  .next (serve k tag (s.holds k .linkControl) false (judgeSetRungLimits ps s) s)

/-- The profile table with an entry added, or put in place of the one of its key (R31). -/
def putProfile (ps : List Profile) (p : Profile) : List Profile :=
  if ps.any (fun x => decide (x.key = p.key)) then ps.map (fun x => if x.key = p.key then p else x) else ps ++ [p]

/-- LKC's judgement of WRITE_PROFILE, its checks in the order of R31. -/
def judgeWriteProfile (ps : List Byte) (s : State) : Verdict :=
  withParams (profileParams ps) fun w =>
    let held := s.lkc.profiles.any (fun x => decide (x.key = w.1))
    match w.2 with
    | some l =>
      if (Profile.inRange ⟨w.1, l⟩ && l.consistent) = false then refuse .badValue
      else if !held && decide (Config.maxProfiles ≤ s.lkc.profiles.length) then refuse .full
      else taken [] (s.updLkc fun c => { c with profiles := putProfile c.profiles ⟨w.1, l⟩ })
    | none =>
      if held then taken [] (s.updLkc fun c => { c with profiles := c.profiles.filter (fun x => decide (x.key ≠ w.1)) })
      else refuse .notFound

/-- WRITE_PROFILE (R31). -/
def execWriteProfile (k : Slot) (tag : Byte) (ps : List Byte) (s : State) : Result :=
  .next (serve k tag (s.holds k .siteControl) true (judgeWriteProfile ps s) s)

/-- LKC's judgement of SET_LINK_LIMITS (R203). -/
def judgeSetLinkLimits (ps : List Byte) (s : State) : Verdict :=
  withParams (linkLimitParams ps) fun p =>
    if (p.1.isSome || p.2.1.isSome || p.2.2.isSome) && p.1.all (fun u => decide (1 ≤ u ∧ u ≤ 255))
        && p.2.1.all (fun l => decide (1 ≤ l ∧ l ≤ 1000)) && p.2.2.all (fun c => decide (1 ≤ c ∧ c ≤ 255)) then
      taken [] (s.updLkc fun l =>
        { l with upLimit := p.1.getD l.upLimit, lossLimit := p.2.1.getD l.lossLimit, confirmLimit := p.2.2.getD l.confirmLimit })
    else refuse .badValue

/-- SET_LINK_LIMITS (R203). -/
def execSetLinkLimits (k : Slot) (tag : Byte) (ps : List Byte) (s : State) : Result :=
  .next (serve k tag (s.holds k .siteControl) false (judgeSetLinkLimits ps s) s)

/-! ## Discovery (R25, R26) -/

/-- ODU_IDENTIFY_REPLY (R25): a reply that does not answer the IDENTIFY outstanding is discarded (R22). -/
def execOduIdentifyReply (number : Nat) (id : OduId) (s : State) : Result :=
  if s.answers .identify number then
    .next (sendOdu .readPage Config.discoveryLimit
      (s.updLkc fun l => { l with odu := some id, state := .discovery .readPage 1 }))
  else .next s

/-- An attempt of discovery ended unanswered: the next one, or after attempt 3 what follows it (R25, R26). -/
def retryDiscovery (step : DiscoveryStep) (c : OduCommand) (last : State → State) (s : State) : State :=
  match s.lkc.state with
  | .discovery _ n =>
    if n < 3 then sendOdu c Config.discoveryLimit (s.updLkc fun l => { l with state := .discovery step (n + 1) })
    else last (endCommand s)
  | _ => s

/-- IDENTIFY_REPLY_LIMIT (R25): a limit not reached has not run out, and nothing happens. -/
def execIdentifyReplyLimit (s : State) : Result :=
  if s.commandDue .identify then .next (retryDiscovery .identify .identify (failDiscovery .noOdu) s) else .next s

/-- READ_PAGE_REPLY (R26 to R29): a reply that does not answer the READ_PAGE outstanding is discarded (R22). -/
def execReadPageReply (page : PageReply) (s : State) : Result :=
  if s.answers .readPage page.number then .next (buildLadder (readPage page.page) (endCommand s)) else .next s

/-- READ_PAGE_REPLY_LIMIT (R26, R28): a limit not reached has not run out, and nothing happens. -/
def execReadPageReplyLimit (s : State) : Result :=
  if s.commandDue .readPage then .next (retryDiscovery .readPage .readPage (buildLadder none) s) else .next s

/-! ## The hold (R41, R42) -/

/-- LOOP_ON_CONFIRMED (R41): a confirmation that does not answer the LOOP_ON outstanding is discarded (R22). -/
def execLoopOnConfirmed (s : State) : Result :=
  .next (takeConfirm .loopOn (fun t => (endCommand t).updLkc fun l => { l with state := .held .looping }) s)

/-- LOOP_ON_LIMIT (R41, R175): a limit not reached has not run out, and nothing happens. -/
def execLoopOnLimit (s : State) : Result :=
  if s.commandDue .loopOn then .next (enterLoopExit (decideLoop .timeout s)) else .next s

/-- LOOP_OFF_CONFIRMED (R42): a confirmation that does not answer the LOOP_OFF outstanding is discarded (R22). -/
def execLoopOffConfirmed (s : State) : Result := .next (takeConfirm .loopOff endHold s)

/-- LOOP_OFF_LIMIT (R42): a limit not reached has not run out, and nothing happens. -/
def execLoopOffLimit (s : State) : Result :=
  if s.commandDue .loopOff then .next (enterLost .holdExit (judgeLooped (s.updLkc Lkc.abandon))) else .next s

/-- LOOPED_FRAME_RETURN (R41). -/
def execLoopedFrameReturn (frame errored : Nat) (s : State) : Result := .next (returnLooped frame errored s)

/-! ## Reports, far frames and the backoff -/

/-- STATUS_REPORT (R50): discarded outside UP (R23). -/
def execStatusReport (margin : Int) (s : State) : Result := .next (takeReport margin s)

/-- MISSING_STATUS_REPORT (R23): counted in UP as a report of −400. -/
def execMissingStatusReport (s : State) : Result := .next (takeReport (-400) s)

/-- FAR_FRAME (R33, R36). -/
def execFarFrame (f : FarFrame) (s : State) : Result := .next (takeFarFrame f s)

/-- MISSING_FAR_FRAME (R36): counted in UP alone. -/
def execMissingFarFrame (s : State) : Result := if s.lkc.state = .up then .next (missFrame s) else .next s

/-- BACKOFF_EXPIRY (R39): where the timer does not stand at its limit nothing happens. -/
def execBackoffExpiry (s : State) : Result :=
  if s.lkc.state.backoffDue then .next (enterAcquiring s) else .next s

/-! ## Frames -/

/-- FRAME_FILL (R34). -/
def execFrameFill (s : State) : Result := .next (fillFrame s)

/-- FRAME_LEAVES_RADIO_PORT (R140): the oldest frame filled and not yet sent. -/
def execFrameLeavesRadioPort (s : State) : Result := .next (sendFrame s)

end Sys2Proof.Machine
end

