-- ==== Sys2Proof/Machine/ScuCommands.lean ====
section
/-! DEFINITION. The site controller's requests over the site record (chapter 1, R83) and the two resets by request (R14, R94), with the
power-on reset (R2). -/

namespace Sys2Proof.Machine

open Sys2Proof

/-! ## Reading the site -/

/-- The bring-up wait's items (R1). -/
def waitFields (w : BringupWait) : List Field :=
  match w with
  | .linkNotUp => [.count 1, .text (txt "LINK_NOT_UP")]
  | .timeClass => [.count 1, .text (txt "TIME_CLASS")]
  | .linkAndTime => [.count 2, .text (txt "LINK_NOT_UP"), .text (txt "TIME_CLASS")]
  | .queueFull needed free => [.count 1, .text (txt "QUEUE_FULL"), .num 1 needed, .num 1 free]

/-- The acceptance failure's fields (R1). -/
def failureFields (f : AcceptFailure) : List Field :=
  [.num 1 f.template, .num 1 f.order, .text (kindText f.test.code)] ++ outcomeFields f.outcome

/-- The descriptor at load, VALID or DEFAULTS (R1). -/
def loadText (o : LoadOutcome) : Text :=
  match o with
  | .valid => txt "VALID"
  | .defaults _ => txt "DEFAULTS"

/-- What SITE_STATUS returns (R15). -/
def siteData (s : State) : List Field :=
  [.text s.scu.site.text] ++ optField s.dsu.load (fun o => [.text (loadText o)]) ++ optField s.scu.wait waitFields
    ++ listField s.scu.tracking (fun t => [.num 1 t.template, .num 1 t.order]) ++ optField s.scu.failure failureFields
    ++ optField s.scu.entry (fun e => [.text e.text]) ++ [.num 1 s.scu.acceptanceSet.length, .text s.scu.siteClass.text]
    ++ s.scu.inhibit.toList.map (fun b => .text (lineText b))

/-- SITE_STATUS (R15). -/
def execSiteStatus (k : Slot) (tag : Byte) (ps : List Byte) (s : State) : Result :=
  .next (serve k tag true false (reads ps (siteData s) s) s)

/-! ## Bring-up and acceptance -/

/-- Whether a template is a PORT_LOOP on a VACANT slot (R11, check 1). -/
def State.loopsVacant (s : State) (t : Test) : Bool :=
  match t with
  | .portLoop k _ _ => s.slotVacant k
  | _ => false

/-- Whether a template is a TIME_COMPARE (R11, check 3). -/
def Test.isCompare (t : Test) : Bool :=
  match t with
  | .timeCompare .. => true
  | _ => false

/-- The first failing check of BEGIN_BRINGUP, as its response data, with the index of the first template concerned for checks 1 and 3
(R11). -/
def State.bringupFault (s : State) : Option (List Field) :=
  let p := s.tmu.params
  match s.scu.acceptanceSet.findIdx? s.loopsVacant with
  | some i => some [.num 1 1, .num 1 i]
  | none =>
    if s.scu.siteClass ≠ .none ∧ p.gnssPriority = 0 ∧ p.linkPriority = 0 then some [.num 1 2]
    else
      match s.scu.acceptanceSet.findIdx? Test.isCompare with
      | some i => if p.gnssPriority = 0 ∨ p.linkPriority = 0 then some [.num 1 3, .num 1 i] else none
      | none => none

/-- SCU's judgement of BEGIN_BRINGUP (R11). -/
def judgeBeginBringup (ps : List Byte) (s : State) : Verdict :=
  if s.scu.site ≠ .unconfigured then refuse .wrongState
  else
    withParams (noParams ps) fun _ =>
      match s.bringupFault with
      | some data => .error (.badValue, data)
      | none => taken [] (enterDiscovery (setSiteState .bringup s))

/-- BEGIN_BRINGUP (R11). -/
def execBeginBringup (k : Slot) (tag : Byte) (ps : List Byte) (s : State) : Result :=
  .next (serve k tag (s.holds k .siteControl) false (judgeBeginBringup ps s) s)

/-- The acceptance failure made absent. -/
def clearFailure (s : State) : State := s.updScu fun c => { c with failure := none }

/-- SCU's judgement of RETRY_ACCEPTANCE (R12). -/
def judgeRetryAcceptance (ps : List Byte) (s : State) : Verdict :=
  if s.scu.site ≠ .acceptFailed then refuse .wrongState
  else
    withParams (noParams ps) fun _ =>
      if s.scu.acceptanceSet = [] then taken [] (enterService .emptySet (clearFailure s))
      else if s.scu.acceptanceSet.length ≤ s.tsu.room then
        taken [] (settle (setSiteState .acceptance (clearFailure (queueAcceptance s))))
      else refuse .full

/-- RETRY_ACCEPTANCE (R12). -/
def execRetryAcceptance (k : Slot) (tag : Byte) (ps : List Byte) (s : State) : Result :=
  .next (serve k tag (s.holds k .siteControl) false (judgeRetryAcceptance ps s) s)

/-- SCU's judgement of FORCE_SERVICE (R13). -/
def judgeForceService (ps : List Byte) (s : State) : Verdict :=
  if s.scu.site ≠ .acceptance ∧ s.scu.site ≠ .acceptFailed then refuse .wrongState
  else
    withParams (noParams ps) fun _ => taken [] (enterService .forced (s.updScu fun c => { c with tracking := [] }))

/-- FORCE_SERVICE (R13). -/
def execForceService (k : Slot) (tag : Byte) (ps : List Byte) (s : State) : Result :=
  .next (serve k tag (s.holds k .siteControl) false (judgeForceService ps s) s)

/-- SCU's judgement of SET_ACCEPTANCE_SET (R9). -/
def judgeSetAcceptanceSet (ps : List Byte) (s : State) : Verdict :=
  withParams (templateParams ps) fun ts =>
    if Config.maxTemplates < ts.length then refuse .badValue
    else taken [] (bringup (s.updScu fun c => { c with acceptanceSet := ts }))

/-- SET_ACCEPTANCE_SET (R9). -/
def execSetAcceptanceSet (k : Slot) (tag : Byte) (ps : List Byte) (s : State) : Result :=
  .next (serve k tag (s.holds k .siteControl) true (judgeSetAcceptanceSet ps s) s)

/-- SET_SITE_CLASS (R10). -/
def execSetSiteClass (k : Slot) (tag : Byte) (ps : List Byte) (s : State) : Result :=
  .next (serve k tag (s.holds k .siteControl) false
    (withParams (classParam ps) fun c => taken [] (bringup (s.updScu fun x => { x with siteClass := c }))) s)

/-- The sum of committed values of the records installed (R82); 0 while none is. -/
def State.committedSum (s : State) : Nat := (s.scu.tenants.map commitSum).getD 0

/-- SCU's judgement of SET_COMMIT_CEILING (R83). -/
def judgeSetCommitCeiling (ps : List Byte) (s : State) : Verdict :=
  withParams (numParam 2 ps) fun n =>
    if 4095 < n then refuse .badValue
    else if n < s.committedSum then refuse .overcommit
    else taken [] (s.updScu fun c => { c with ceiling := n })

/-- SET_COMMIT_CEILING (R83). -/
def execSetCommitCeiling (k : Slot) (tag : Byte) (ps : List Byte) (s : State) : Result :=
  .next (serve k tag (s.holds k .siteControl) true (judgeSetCommitCeiling ps s) s)

/-! ## Resets -/

/-- SLI's first part of a site reset: every pending set emptied (R209). -/
def emptyPending (s : State) : State :=
  s.updSli fun x => { x with events := x.events.map (fun r => { r with pending := {} }.drive) }

/-- SCU's part of a site reset (R14, R17, R19). -/
def siteResetSite (s : State) : State :=
  setSiteState (if s.scu.site = .unconfigured then .unconfigured else .bringup)
    (s.updScu fun c => { c with tracking := [], failure := none, entry := none, wait := none })

/-- A site reset across the blocks (R14, R45, R79, R118, R180, R209). An exchange in flight is discarded as the link departs and its
missing outcome counts at once (R142): where it is LINK's third, LINK disqualifies and a class may be published within the reset, where
R134 speaks of what is not done by the reset itself (assumption 30). -/
def siteReset (s : State) : State :=
  let s1 := siteResetSite (emptyPending s)
  let s2 := (s1.updTqm fun t => t.map Traffic.resetSite).updGre fun g => { g with slots := g.slots.map GrantRec.clear }
  bringup (departQueues s.lkc.state (tsuSiteReset (siteResetLink s2)))

/-- SITE_RESET (R14). -/
def execSiteReset (k : Slot) (tag : Byte) (ps : List Byte) (s : State) : Result :=
  .next (serve k tag (s.holds k .siteControl) false (withParams (noParams ps) fun _ => taken [] (siteReset s)) s)

/-- TSU's part of a slot reset upon the RUNNING order (R181). -/
def tenantResetRunning (t : Slot) (s : State) : State :=
  match s.tsu.running with
  | none => s
  | some r =>
    if r.order.requester = .slot t then
      match r.progress with
      | .linkLoop _ => abortLoop .tenantReset s
      | _ => endRunning (.aborted .tenantReset) s
    else if s.loopSubject = some t then endRunning (.aborted .tenantReset) s
    else s

/-- A slot reset across the blocks (R94, R79, R119, R181, R209). -/
def tenantReset (t : Slot) (s : State) : State :=
  let s1 := s.updSli fun x => { x with events := x.events.set t {} }
  let s2 := s1.updTqm fun q => q.modify t (fun r => r.resetSite.clearCounters)
  let s3 := s2.updGre fun g => { g with slots := g.slots.set t {} }
  settle (tenantResetRunning t (removeQueued t s3))

/-- TENANT_RESET (R94). -/
def execTenantReset (k : Slot) (tag : Byte) (ps : List Byte) (s : State) : Result :=
  .next (serve k tag (s.ownOr k .siteControl ps) false
    (withParams (slotParam ps) fun n => withParams (slotOf n) fun t => taken [] (tenantReset t s)) s)

/-- POWER_ON_RESET (R2, R198): every block at its reset values with the strap sampled. The commands still waiting, and the model's own
record of what was driven and counts of the commands sent to the ODU and of those that ended unanswered, stand (assumption 21). -/
def execPowerOnReset (strap : Bool) (s : State) : Result :=
  .next { State.reset with
    sli := { State.reset.sli with strap := strap }
    lkc := { Lkc.reset with sent := s.lkc.sent, late := s.lkc.abandon.late }
    pending := s.pending
    freeBytes := s.freeBytes
    emitted := s.emitted }

end Sys2Proof.Machine
end

