-- ==== Sys2Proof/Machine/SliCommands.lean ====
section
/-! DEFINITION. The commands of the slot interface (chapter 10): the management link itself, and SLI's own requests. -/

namespace Sys2Proof.Machine

open Sys2Proof

/-! ## The management link -/

/-- REQUEST_WRITE_BEGIN (R188, R191): a waiting response is discarded and the ready line deasserted. -/
def execRequestWriteBegin (k : Slot) (s : State) : Result :=
  .next (s.updSli fun x => { x with links := x.links.set k { receiving := true, waiting := none, ready := false } })

/-- CORRUPT_FRAME (R189): the answer echoes the tag as it stood in the received bytes. A write of no byte after the marking byte is no
frame: it is ignored, and a response waiting stays (R188). Bytes that pass the form checks are no such command. -/
def execCorruptFrame (k : Slot) (frame : List Byte) (s : State) : Result :=
  if frame = [] then .next s
  else
    match judgeFrame frame with
    | .corrupt tag => .next (answer k tag .corrupt [] s)
    | .formed .. => .refused .frameOfAnotherCommand

/-- UNKNOWN_NAME (R192, R219). The name of a request is no such command. -/
def execUnknownName (k : Slot) (name : List Byte) (tag : Byte) (_params : List Byte) (s : State) : Result :=
  if (requestNamed name).isSome then .refused .frameOfAnotherCommand else .next (answer k tag .unknown [] s)

/-- The bytes of a read of `n` bytes past the end of a response of `m` bytes: nothing is known of them (assumption 3). -/
def pastEnd (from_ : Nat) (n : Nat) : List Byte := (List.range n).map fun i => Config.pastEndByte (from_ + i)

/-- RESPONSE_READ (R190, R219): `n` bytes are read. A read through the check value removes the response and deasserts the ready line; with
no response waiting it returns idle fill. -/
def execResponseRead (k : Slot) (n : Nat) (s : State) : Result :=
  match (s.sli.links.get k).waiting with
  | none => .next (s.emit (.linkBytes k (List.replicate n 0xFF)))
  | some r =>
    let bytes := responseBytes r
    if n < bytes.length then .next (s.emit (.linkBytes k (bytes.take n)))
    else
      .next ((({ s with freeBytes := s.freeBytes + (n - bytes.length) }).updSli fun x =>
        { x with links := x.links.modify k (fun l => { l with waiting := none, ready := false }) }).emit
          (.linkBytes k (bytes ++ pastEnd s.freeBytes (n - bytes.length))))

/-! ## SLI's own requests -/

/-- What IDENTIFY returns (R201). -/
def identifyData (k : Slot) (s : State) : List Field :=
  [.text (txt "PAZWEL 320"), .num 1 Config.designRevision, .num 1 k.val, .text s.scu.site.text]
    ++ optField (s.slotState k) (fun st => [.text st.text])
    ++ [.text (setText s.sli.strap), .text (setText s.sli.lock)] ++ classFields (s.classes k)

/-- IDENTIFY (R201): answered in every state. -/
def execIdentify (k : Slot) (tag : Byte) (ps : List Byte) (s : State) : Result :=
  .next (conclude k tag (reads ps (identifyData k s) s) s)

/-- What READ_ACCESS returns (R197). -/
def accessData (k : Slot) (s : State) : List Field :=
  (s.sli.access.toList.map classFields).flatten ++ [.text (setText s.sli.strap), .text (setText s.sli.lock)]
    ++ classFields (s.classes k)

/-- READ_ACCESS (R197). -/
def execReadAccess (k : Slot) (tag : Byte) (ps : List Byte) (s : State) : Result :=
  .next (serve k tag true false (reads ps (accessData k s) s) s)

/-- A row of the matrix replaced (R196). -/
def writeRow (t : Slot) (row : ClassSet) (s : State) : State := s.updSli fun x => { x with access := x.access.set t row }

/-- SLI's judgement of WRITE_ACCESS (R196). -/
def judgeWriteAccess (ps : List Byte) (s : State) : Verdict :=
  withParams (accessParams ps) fun p => withParams (slotOf p.1) fun t =>
    if !decide p.2.Nodup || decide (t = 0 ∧ PermClass.siteControl ∉ p.2) then refuse .badValue
    else taken [] (writeRow t (ClassSet.ofList p.2) s)

/-- WRITE_ACCESS (R196). -/
def execWriteAccess (k : Slot) (tag : Byte) (ps : List Byte) (s : State) : Result :=
  .next (serve k tag (s.holds k .siteControl) true (judgeWriteAccess ps s) s)

/-- The configuration lock set (R200). -/
def setLockState (s : State) : State := s.updSli fun x => { x with lock := true }

/-- SET_LOCK (R200). -/
def execSetLock (k : Slot) (tag : Byte) (ps : List Byte) (s : State) : Result :=
  .next (serve k tag (s.holds k .siteControl) false (withParams (noParams ps) fun _ => taken [] (setLockState s)) s)

/-- The text of an attention line's level (assumption 4). -/
def attentionText (b : Bool) : Text := if b then txt "asserted" else txt "deasserted"

/-- What READ_EVENTS returns (R206). -/
def eventsData (k : Slot) (s : State) : List Field :=
  let r := s.sli.events.get k
  kindFields r.pending ++ kindFields r.enabled ++ [.text (attentionText r.attention)]

/-- READ_EVENTS (R206). -/
def execReadEvents (k : Slot) (tag : Byte) (ps : List Byte) (s : State) : Result :=
  .next (serve k tag true false (reads ps (eventsData k s) s) s)

/-- One slot's event record changed, its line driven (R205). -/
def updEvents (k : Slot) (f : EventRec → EventRec) (s : State) : State :=
  s.updSli fun x => { x with events := x.events.modify k (fun r => (f r).drive) }

/-- SLI's judgement of ACK_EVENTS (R207). -/
def judgeAckEvents (k : Slot) (ps : List Byte) (s : State) : Verdict :=
  withParams (kindParams ps) fun es =>
    if es.length = 0 ∨ 12 < es.length then refuse .badValue
    else taken (kindFields (s.sli.events.get k).pending) (updEvents k (fun r => { r with pending := r.pending.without es }) s)

/-- ACK_EVENTS (R207). -/
def execAckEvents (k : Slot) (tag : Byte) (ps : List Byte) (s : State) : Result :=
  .next (serve k tag true false (judgeAckEvents k ps s) s)

/-- SLI's judgement of SET_EVENT_ENABLES (R208). -/
def judgeSetEventEnables (k : Slot) (ps : List Byte) (s : State) : Verdict :=
  withParams (kindParams ps) fun es =>
    if es.Nodup then taken [] (updEvents k (fun r => { r with enabled := EventSet.ofList es }) s) else refuse .badValue

/-- SET_EVENT_ENABLES (R208). -/
def execSetEventEnables (k : Slot) (tag : Byte) (ps : List Byte) (s : State) : Result :=
  .next (serve k tag true false (judgeSetEventEnables k ps s) s)

end Sys2Proof.Machine
end

