-- ==== Sys2Proof/Machine/StoreCommands.lean ====
section
/-! DEFINITION. The descriptor store's commands (chapter 11): the end of the load, SAVE_DESCRIPTOR, DESCRIPTOR_STATUS and the flash's
reports. -/

namespace Sys2Proof.Machine

open Sys2Proof

/-! ## The load (R2, R90, R160, R210, R211) -/

/-- A source's record at the end of the load: DISABLED where its priority is 0 (R160). -/
def SourceRec.atLoad (r : SourceRec) (prio : Nat) : SourceRec := { r with qual := if prio = 0 then .disabled else .unqualified }

/-- The tables installed in their owners (R210): the time parameters with the sources they disable, and the pulse timer started. -/
def installTables (t : Tables) (s : State) : State :=
  let s1 := s.updScu fun c =>
    { c with ceiling := t.ceiling, siteClass := t.siteClass, acceptanceSet := t.acceptanceSet, tenants := some t.tenants,
             fit := t.tenants.map (fun r => decide (r.state = .vacant) || s.tmu.cls.meets r.required) }
  let s2 := s1.updLkc fun l =>
    { l with ceiling := t.rungCeiling, upLimit := t.upLimit, lossLimit := t.lossLimit, confirmLimit := t.confirmLimit,
             profiles := t.profiles }
  let s3 := s2.updGre fun g => { g with metLimit := t.metLimit, agingLimit := t.agingLimit }
  let s4 := s3.updSli fun x => { x with access := t.access }
  s4.updTmu fun u =>
    { u with params := t.time, gnss := u.gnss.atLoad t.time.gnssPriority, link := u.link.atLoad t.time.linkPriority,
             pulseTimer := some 0 }

/-- The load completes (R2, R21, R211). -/
def completeLoad (flash : List Byte) (s : State) : State :=
  match judgeDescriptor flash with
  | .ok t =>
    enterDiscovery (setSiteState .bringup (installTables t (s.updDsu fun d => { d with load := some .valid })))
  | .error f =>
    (setSiteState .unconfigured (installTables defaultTables (s.updDsu fun d => { d with load := some (.defaults f) }))).updLkc
      fun l => { l with state := .off .unconfigured }

/-- DESCRIPTOR_LOAD (R211): the load completes once for each power-on reset. -/
def execDescriptorLoad (flash : List Byte) (s : State) : Result :=
  if s.scu.site = .loading then .next (completeLoad flash s) else .next s

/-! ## Saving (R213 to R215) -/

/-- SAVE_DESCRIPTOR's effect (R214): the snapshot with its commit mark erased, and the erase begun. -/
def beginSave (k : Slot) (s : State) : State :=
  (s.updDsu fun d => { d with save := some ⟨.erasing, k, descriptorImage markErased s.tables, 0⟩ }).emit (.flash .erase)

/-- DSU's judgement of SAVE_DESCRIPTOR (R214). -/
def judgeSaveDescriptor (k : Slot) (ps : List Byte) (s : State) : Verdict :=
  withParams (noParams ps) fun _ => if s.dsu.save.isSome then refuse .busy else taken [] (beginSave k s)

/-- SAVE_DESCRIPTOR (R214). -/
def execSaveDescriptor (k : Slot) (tag : Byte) (ps : List Byte) (s : State) : Result :=
  .next (serve k tag (s.holds k .siteControl) true (judgeSaveDescriptor k ps s) s)

/-- The save ends (R215): the last save, IDLE, and SAVE_DONE in the requester's slot alone. -/
def endSave (v : Save) (good : Bool) (s : State) : State :=
  raiseIn .saveDone v.requester (s.updDsu fun d => { d with save := none, last := some ⟨v.requester, good, s.tmu.site⟩ })

/-- The save enters a phase, with what it asks of the flash. -/
def enterPhase (v : Save) (p : SavePhase) (c : FlashCommand) (s : State) : State :=
  (s.updDsu fun d => { d with save := some { v with phase := p } }).emit (.flash c)

/-- The save in flight in a phase; a report for another phase is discarded. A report of this phase is taken as the save's own, whatever save
came before (assumption 39). -/
def inPhase (p : SavePhase) (s : State) (f : Save → State) : State :=
  match s.dsu.save with
  | some v => if v.phase = p then f v else s
  | none => s

/-- ERASE_COMPLETE (R215): the body is programmed, then the header. -/
def execEraseComplete (s : State) : Result :=
  .next (inPhase .erasing s fun v => enterPhase v .programming (.program (v.snapshot.drop 12) (v.snapshot.take 12)) s)

/-- PROGRAM_COMPLETE (R215). -/
def execProgramComplete (s : State) : Result := .next (inPhase .programming s fun v => enterPhase v .verifying .readBack s)

/-- VERIFY_COMPLETE (R215): header and body read back are compared with the snapshot. -/
def execVerifyComplete (readBack : List Byte) (s : State) : Result :=
  .next (inPhase .verifying s fun v =>
    if readBack = v.snapshot then enterPhase v .committing .programMark s else endSave v false s)

/-- COMMIT_COMPLETE (R215): the commit mark is read back. -/
def execCommitComplete (mark : Byte) (s : State) : Result :=
  .next (inPhase .committing s fun v => endSave v (decide (mark = markCommitted)) s)

/-- SAVE_TIMER_EXPIRY (R215): where the timer does not stand at its limit nothing happens. -/
def execSaveTimerExpiry (s : State) : Result :=
  match s.dsu.save with
  | some v => if s.dsu.saveDue then .next (endSave v false s) else .next s
  | none => .next s

/-! ## Reading -/

/-- A load failure's fields, with the section of BAD_CONTENT (R211). -/
def failureText (f : LoadFailure) : List Field :=
  [.text f.text] ++ optField (match f with
    | .badContent x => some x
    | _ => none) (fun x => [.text x.text])

/-- A load outcome's fields (R211, R216). -/
def loadFields (o : LoadOutcome) : List Field :=
  match o with
  | .valid => [.text (txt "VALID")] ++ optField (none : Option LoadFailure) failureText
  | .defaults f => [.text (txt "DEFAULTS")] ++ optField (some f) failureText

/-- A last save's fields (R213). -/
def lastSaveFields (l : LastSave) : List Field :=
  [.num 1 l.requester.val, .text (if l.good then txt "OK" else txt "FLASH_ERROR"), .time l.time]

/-- What DESCRIPTOR_STATUS returns (R216). The requester and the save timer, which are present together while a save is in flight, stand
behind one presence byte (assumption 34). -/
def storeData (s : State) : List Field :=
  optField s.dsu.load loadFields ++ [.text ((s.dsu.save.map (fun v => v.phase.text)).getD (txt "IDLE"))]
    ++ optField s.dsu.save (fun v => [.num 1 v.requester.val, .num 2 v.timer]) ++ optField s.dsu.last lastSaveFields
    ++ listField s.scu.acceptanceSet testFields

/-- DESCRIPTOR_STATUS (R216). -/
def execDescriptorStatus (k : Slot) (tag : Byte) (ps : List Byte) (s : State) : Result :=
  .next (serve k tag true false (reads ps (storeData s) s) s)

end Sys2Proof.Machine
end

