-- ==== Sys2Proof/Machine/TenantCommands.lean ====
section
/-! DEFINITION. The requests over the tenant records (chapter 5) and over the traffic and grant records (R78, R115, R116), with the
arrival of a packet (R65). -/

namespace Sys2Proof.Machine

open Sys2Proof

/-- RECORD_CHANGED in slot `t`, where another slot wrote its record (R89). -/
def recordChanged (k t : Slot) (s : State) : State := if k = t then s else raiseIn .recordChanged t s

/-- The table with slot `t`'s record changed keeps the commitment ceiling (R82). -/
def State.withinCeiling (s : State) (t : Slot) (f : TenantRec → TenantRec) : Bool :=
  match s.scu.tenants with
  | some ts => decide (commitSum (ts.modify t f) ≤ s.scu.ceiling)
  | none => true

/-! ## SET_SLOT_STATE -/

/-- The effects of a change of slot state (R85, R90, R127). -/
def changeSlotState (t : Slot) (old new : SlotState) (s : State) : State :=
  let s1 := tqmSlotState t new (s.updTenant t fun r => { r with state := new })
  let s2 :=
    if new = .vacant then s1.updScu fun c => { c with fit := c.fit.set t true }
    else if old = .vacant then judgeFitness s1 t
    else s1
  ppsFollow t (recomputeInhibit s2)

/-- SCU's judgement of SET_SLOT_STATE (R84, R85). -/
def judgeSetSlotState (k : Slot) (ps : List Byte) (s : State) : Verdict :=
  withParams (slotStateParams ps) fun p => withParams (slotOf p.1) fun t =>
    if t = 0 then refuse .badValue
    else
      withParams (s.slotState t) fun old =>
        if old = p.2 then taken [] (recordChanged k t s)
        else if old = .vacant ∧ s.withinCeiling t (fun r => { r with state := p.2 }) = false then refuse .overcommit
        else taken [] (recordChanged k t (changeSlotState t old p.2 s))

/-- SET_SLOT_STATE (R84). -/
def execSetSlotState (k : Slot) (tag : Byte) (ps : List Byte) (s : State) : Result :=
  .next (serve k tag (s.holds k (s.slotStateClass ps)) false (judgeSetSlotState k ps s) s)

/-! ## WRITE_SHARE and WRITE_TUNING -/

/-- The record a WRITE_SHARE would leave (R86). -/
def ShareWrite.into (w : ShareWrite) (r : TenantRec) : TenantRec :=
  { r with committed := w.q.getD r.committed, peak := w.p.getD r.peak, weight := w.w.getD r.weight,
           priority := w.prio.getD r.priority }

/-- Step 2 of R86: a field is named, and the record left is in range with q at or below p. -/
def ShareWrite.valid (w : ShareWrite) (r : TenantRec) : Bool :=
  (w.q.isSome || w.p.isSome || w.w.isSome || w.prio.isSome) && w.q.all (fun q => decide (q ≤ 4095))
    && w.p.all (fun p => decide (p ≤ 4095)) && w.w.all (fun x => decide (1 ≤ x ∧ x ≤ 15)) && w.prio.all (fun x => decide (x ≤ 3))
    && decide ((w.into r).committed ≤ (w.into r).peak)

/-- SCU's judgement of WRITE_SHARE (R86). A write that raises no committed value cannot fail the sum (R82). -/
def judgeWriteShare (k : Slot) (ps : List Byte) (s : State) : Verdict :=
  withParams (shareParams ps) fun w => withParams (slotOf w.target) fun t => withParams (s.tenant t) fun r =>
    if w.valid r = false then refuse .badValue
    else if r.state ≠ .vacant ∧ s.withinCeiling t w.into = false then refuse .overcommit
    else taken [] (recordChanged k t (s.updTenant t w.into))

/-- WRITE_SHARE (R86); the lock freezes one that names q or p (R199). -/
def execWriteShare (k : Slot) (tag : Byte) (ps : List Byte) (s : State) : Result :=
  .next (serve k tag (s.holds k .shareControl) (shareNamesContract ps) (judgeWriteShare k ps s) s)

/-- The record a WRITE_TUNING would leave; a label of no characters makes the label absent (R87). -/
def TuningWrite.into (w : TuningWrite) (r : TenantRec) : TenantRec :=
  { r with weight := w.w.getD r.weight, priority := w.prio.getD r.priority, required := w.cls.getD r.required,
           ppsOn := w.on.getD r.ppsOn, ppsOffset := w.offset.getD r.ppsOffset,
           label := match w.label with
             | none => r.label
             | some t => if t = [] then none else some t }

/-- A WRITE_TUNING's fields in range (R87). -/
def TuningWrite.valid (w : TuningWrite) : Bool :=
  (w.w.isSome || w.prio.isSome || w.cls.isSome || w.on.isSome || w.offset.isSome || w.label.isSome)
    && w.w.all (fun x => decide (1 ≤ x ∧ x ≤ 15)) && w.prio.all (fun x => decide (x ≤ 3))
    && w.offset.all (fun x => decide (-1000 ≤ x ∧ x ≤ 1000)) && w.label.all (fun t => decide (t.length ≤ 16))

/-- The effects of a taken WRITE_TUNING (R87, R90, R126, R127). A write of the offset acts as a step of the slot's shifted time: a crossing
of the advance due at the same moment that has not been taken emits nothing (R126). -/
def tune (t : Slot) (w : TuningWrite) (s : State) : State :=
  let s0 := s.updTenant t w.into
  let s1 := if w.offset.isSome then s0.updTmu (fun u => u.takePulse t) else s0
  ppsFollow t (if w.cls.isSome then recomputeInhibit (judgeFitness s1 t) else s1)

/-- SCU's judgement of WRITE_TUNING (R87). -/
def judgeWriteTuning (k : Slot) (ps : List Byte) (s : State) : Verdict :=
  withParams (tuningParams ps) fun w => withParams (slotOf w.target) fun t =>
    if w.valid = false then refuse .badValue else taken [] (recordChanged k t (tune t w s))

/-- WRITE_TUNING (R87). -/
def execWriteTuning (k : Slot) (tag : Byte) (ps : List Byte) (s : State) : Result :=
  .next (serve k tag (s.holds k .shareControl || (namesOwn k ps && s.holds k .ownTuning)) false (judgeWriteTuning k ps s) s)

/-! ## Reading and clearing -/

/-- The four counters of TQM and the three of GRE (R76, R96). -/
def counterFields (t : Traffic) (g : GrantRec) : List Field :=
  [.num 4 t.accepted, .num 4 t.droppedFull, .num 4 t.malformed, .num 4 t.egressDiscarded, .num 4 g.committed, .num 4 g.surplus,
   .num 4 g.shortFrames]

/-- The fields of a tenant record (R80). -/
def recordFields (r : TenantRec) : List Field :=
  [.text r.state.text] ++ optField r.label (fun t => [.text t])
    ++ [.num 2 r.committed, .num 2 r.peak, .num 1 r.weight, .num 1 r.priority, .text r.required.text, .text (onText r.ppsOn),
        .num 2 r.ppsOffset]

/-- The text of a time fitness (assumption 4). -/
def fitText (b : Bool) : Text := if b then txt "fit" else txt "unfit"

/-- What READ_TENANT returns (R92). -/
def tenantData (s : State) (t : Slot) : List Field :=
  ((s.tenant t).map recordFields).getD [] ++ [.text (fitText (s.scu.fit.get t))] ++ counterFields (s.tqm.get t) (s.gre.slots.get t)

/-- READ_TENANT (R92). -/
def execReadTenant (k : Slot) (tag : Byte) (ps : List Byte) (s : State) : Result :=
  .next (serve k tag (s.ownOr k .observeAll ps) false (readsSlot ps (tenantData s) s) s)

/-- A slot's seven traffic counters cleared (R93). -/
def clearCounters (t : Slot) (s : State) : State :=
  (s.updTqm fun q => q.modify t Traffic.clearCounters).updGre fun g => { g with slots := g.slots.modify t GrantRec.clearCounters }

/-- CLEAR_COUNTERS (R93). -/
def execClearCounters (k : Slot) (tag : Byte) (ps : List Byte) (s : State) : Result :=
  .next (serve k tag (s.ownOr k .shareControl ps) false
    (withParams (slotParam ps) fun n => withParams (slotOf n) fun t => taken [] (clearCounters t s)) s)

/-! ## Traffic and grants -/

/-- A class queue's fields (R78); what is told of the head record stands behind one presence byte (assumption 34). -/
def queueFields (q : List Packet) : List Field :=
  [.num 2 q.length, .num 2 (queuedPB q)] ++ optField q.head? (fun p => [.num 2 p.seq, .num 1 p.total, .num 1 p.remaining])

/-- What QUEUE_STATUS returns (R78). -/
def queueData (s : State) (t : Slot) : List Field :=
  let r := s.tqm.get t
  queueFields r.express ++ queueFields r.bulk ++ [.num 2 r.backlog, .num 2 r.nextSeq]
    ++ optField r.egress (fun e => [.num 2 e.seq, .num 1 e.held])
    ++ [.num 4 r.accepted, .num 4 r.droppedFull, .num 4 r.malformed, .num 4 r.egressDiscarded]

/-- QUEUE_STATUS (R78). -/
def execQueueStatus (k : Slot) (tag : Byte) (ps : List Byte) (s : State) : Result :=
  .next (serve k tag (s.ownOr k .observeAll ps) false (readsSlot ps (queueData s) s) s)

/-- An eligible slot's figures in a pass (R116). -/
def figureFields (f : PassFigures) : List Field :=
  [.num 1 f.effPriority, .num 2 f.q, .num 2 f.b, .num 2 f.e, .num 2 f.g, .num 2 f.s, .num 3 f.o, .num 2 f.m, .num 2 f.x, .num 2 f.r,
   .num 2 f.f, .num 2 f.r2, .num 2 f.grant]

/-- A last pass's fields (R116). -/
def passFields (p : LastPass) : List Field :=
  [.num 2 p.frame, .num 1 p.rung, .num 2 p.capacity, .num 2 p.borrow, .num 2 p.room, .text (yesText p.shortage),
   .text (yesText p.figures.isSome)] ++ optField p.figures figureFields

/-- The texts of a met flag, of the shortfall condition and of the aging raise (assumption 4). -/
def metText (b : Bool) : Text := if b then txt "MET" else txt "UNMET"
def shortfallText (b : Bool) : Text := if b then txt "IN" else txt "OUT"
def dueText (b : Bool) : Text := if b then txt "DUE" else txt "NOT_DUE"

/-- What GRANT_STATUS returns (R116). -/
def grantData (s : State) (t : Slot) : List Field :=
  let r := s.gre.slots.get t
  [.num 2 r.deficit, .text (setText r.saturated)] ++ listField r.history (fun b => [.text (metText b)])
    ++ [.text (shortfallText r.shortfall), .num 1 r.aging, .text (dueText r.due), .num 4 r.committed, .num 4 r.surplus,
        .num 4 r.shortFrames, .num 1 s.gre.metLimit, .num 1 s.gre.agingLimit]
    ++ optField r.last passFields

/-- GRANT_STATUS (R116). -/
def execGrantStatus (k : Slot) (tag : Byte) (ps : List Byte) (s : State) : Result :=
  .next (serve k tag (s.ownOr k .observeAll ps) false (readsSlot ps (grantData s) s) s)

/-- GRE's judgement of SET_GRANT_LIMITS (R115). -/
def judgeSetGrantLimits (ps : List Byte) (s : State) : Verdict :=
  withParams (grantLimitParams ps) fun p =>
    if (p.1.isSome || p.2.isSome) && p.1.all (fun m => decide (1 ≤ m ∧ m ≤ 8)) && p.2.all (fun k => decide (1 ≤ k ∧ k ≤ 255)) then
      taken [] (s.updGre fun g => { g with metLimit := p.1.getD g.metLimit, agingLimit := p.2.getD g.agingLimit })
    else refuse .badValue

/-- SET_GRANT_LIMITS (R115). -/
def execSetGrantLimits (k : Slot) (tag : Byte) (ps : List Byte) (s : State) : Result :=
  .next (serve k tag (s.holds k .siteControl) false (judgeSetGrantLimits ps s) s)

/-- PACKET_ARRIVAL (R65 to R68). -/
def execPacketArrival (k : Slot) (bytes : List Byte) (cutShort : Bool) (s : State) : Result := .next (arrive k bytes cutShort s)

end Sys2Proof.Machine
end

