-- ==== Sys2Proof/Machine/TestCommands.lean ====
section
/-! DEFINITION. The test unit's commands (chapter 9): its requests, and the packets and timer of a PORT_LOOP. -/

namespace Sys2Proof.Machine

open Sys2Proof

/-! ## Placing and withdrawing -/

/-- TSU's judgement of ORDER_TEST (R163): answered with the order id given and the number of orders ahead. -/
def judgeOrderTest (k : Slot) (ps : List Byte) (s : State) : Verdict :=
  withParams (testParams ps) fun t =>
    if Config.maxOrders ≤ s.tsu.orders.length then refuse .full
    else taken [.num 1 s.tsu.newId, .num 1 s.tsu.orders.length] (settle (s.updTsu fun u => u.place (.slot k) t))

/-- ORDER_TEST (R163). -/
def execOrderTest (k : Slot) (tag : Byte) (ps : List Byte) (s : State) : Result :=
  .next (serve k tag (s.holds k .testShared || (ordersOwnLoop k ps && s.holds k .testOwn)) false (judgeOrderTest k ps s) s)

/-- The outcome already decided of the RUNNING order (R162, R176). -/
def State.decided (s : State) : Option TestOutcome := s.loopProgress.bind LoopProgress.decided

/-- Whether the RUNNING order has an id. -/
def State.runs (s : State) (id : Nat) : Bool := decide (s.tsu.running.map (fun r => r.order.id) = some id)

/-- A cancelled order's end (R165): a RUNNING LINK_LOOP's abort is decided, another RUNNING order ends, a QUEUED one leaves the queue. -/
def cancelOrder (o : Order) (s : State) : State :=
  if s.runs o.id then
    match s.loopProgress with
    | some _ => abortLoop .cancel s
    | none => endRunning (.aborted .cancel) s
  else
    settle (completeOrder o .cancelled {} (s.updTsu fun t => { t with queued := t.queued.filter (fun x => decide (x.id ≠ o.id)) }))

/-- TSU's judgement of CANCEL_TEST, in the order of R164. -/
def judgeCancelTest (k : Slot) (ps : List Byte) (s : State) : Verdict :=
  withParams (numParam 1 ps) fun id =>
    if id = 0 then refuse .badValue
    else
      match s.tsu.orders.find? (fun o => decide (o.id = id)) with
      | none => refuse .notFound
      | some o =>
        if !s.holds k .testShared && decide (o.requester ≠ .slot k) then refuse .denied
        else if s.runs id && s.decided.isSome then refuse .busy
        else taken [] (cancelOrder o s)

/-- CANCEL_TEST (R164, R165). -/
def execCancelTest (k : Slot) (tag : Byte) (ps : List Byte) (s : State) : Result :=
  .next (serve k tag (s.holdsTest k) false (judgeCancelTest k ps s) s)

/-! ## Reading -/

/-- An order's fields (R162, R187). -/
def orderFields (o : Order) (state : Text) (decided : Option TestOutcome) : List Field :=
  [.num 1 o.id, .text o.requester.text] ++ testFields o.test ++ [.text state] ++ optField decided outcomeFields

/-- The progress fields of the RUNNING order (R187). A LINK_LOOP's PB errored is sent in the 4 bytes of an AIR_PATTERN's: no rule gives its
range (assumption 40). A TIME_COMPARE's maximum |difference| carries no presence byte, and is sent as 0 before the first comparison
(assumption 41). -/
def progressFields (s : State) (p : Progress) : List Field :=
  match p with
  | .portLoop p => [.num 2 p.sent, .num 2 p.returned, .num 1 p.mismatched, .num 2 p.timer]
  | .airPattern p =>
    [.num 3 p.sent, .num 4 p.errored, .num 2 p.used]
      ++ listField p.awaiting (fun a => [.num 2 a.frame, .num 2 a.pb, .num 1 a.fills])
  | .linkLoop p =>
    optField (match s.lkc.state with
      | .held ph => some ph
      | _ => none) (fun ph => [.text ph.text]) ++ [.num 1 p.looped, .num 3 p.sent, .num 4 p.errored]
  | .timeCompare p => [.num 1 p.made, .num 10 p.maxDiff, .num 1 p.boundaries]

/-- What TEST_STATUS returns (R187). -/
def testData (s : State) : List Field :=
  [.count s.tsu.orders.length]
    ++ ((s.tsu.running.map (fun r => orderFields r.order (txt "RUNNING") s.decided)).getD [])
    ++ (s.tsu.queued.map (fun o => orderFields o (txt "QUEUED") none)).flatten
    ++ [.num 1 s.tsu.room, .num 1 s.tsu.nextId] ++ optField s.tsu.nextSeq (fun n => [.num 4 n])
    ++ optField s.tsu.running (fun r => progressFields s r.progress)

/-- TEST_STATUS (R187). -/
def execTestStatus (k : Slot) (tag : Byte) (ps : List Byte) (s : State) : Result :=
  .next (serve k tag true false (reads ps (testData s) s) s)

/-- A log entry's fields (R183, R184). The measures carry a presence byte each, and there is none for them as a whole (assumption 34). -/
def entryFields (e : LogEntry) : List Field :=
  [.num 4 e.seq, .num 1 e.order.id, .text e.order.requester.text, .text (kindText e.order.test.code)] ++ outcomeFields e.outcome
    ++ optField e.measures.pbSent (fun n => [.num 3 n]) ++ optField e.measures.pbErrored (fun n => [.num 4 n])
    ++ optField e.measures.mismatched (fun n => [.num 1 n]) ++ optField e.measures.maxDiff (fun n => [.num 10 n])
    ++ optField e.measures.framesUsed (fun n => [.num 2 n]) ++ [.time e.time, .text e.cls.text]

/-- Whether entries from a starting number on have been overwritten (R185). -/
def lostFlag (from_ : Nat) (log : List LogEntry) : Bool :=
  match log.head? with
  | some e => decide (0 < from_ ∧ from_ < e.seq)
  | none => false

/-- What READ_RESULTS returns (R185). -/
def resultsData (from_ : Nat) (s : State) : List Field :=
  optField s.tsu.log.head? (fun e => [.num 4 e.seq]) ++ optField s.tsu.log.getLast? (fun e => [.num 4 e.seq])
    ++ [.text (setText (lostFlag from_ s.tsu.log))]
    ++ listField ((s.tsu.log.filter (fun e => decide (from_ ≤ e.seq))).take 4) entryFields

/-- READ_RESULTS (R185). -/
def execReadResults (k : Slot) (tag : Byte) (ps : List Byte) (s : State) : Result :=
  .next (serve k tag true false (withParams (numParam 4 ps) fun n => taken (resultsData n s) s) s)

/-! ## PORT_LOOP -/

/-- PORT_LOOP_PACKET_SEND (R168). -/
def execPortLoopPacketSend (s : State) : Result := .next (sendTestPacket s)

/-- PORT_LOOP_RETURN (R169): a return while no PORT_LOOP runs is discarded. -/
def execPortLoopReturn (p : TestPacket) (s : State) : Result := .next (returnTestPacket p s)

/-- LOOP_TIMER_EXPIRY (R169). -/
def execLoopTimerExpiry (s : State) : Result := .next (expireLoopTimer s)

end Sys2Proof.Machine
end

