-- ==== Sys2Proof/Machine/TimeCommands.lean ====
section
/-! DEFINITION. The time unit's commands (chapters 7 and 8): its requests, the GNSS port, the boundaries, the exchange's reply timer and the
PPS generators. -/

namespace Sys2Proof.Machine

open Sys2Proof

/-! ## Reading -/

/-- The selected source (R130, R131). -/
def selectedFields (t : Tmu) : List Field := optField t.selected (fun x => [.text x.text])

/-- What TIME_READ returns (R130). -/
def timeData (s : State) : List Field :=
  [.time s.tmu.site, .text s.tmu.timing.text, .text s.tmu.cls.text] ++ selectedFields s.tmu ++ stickyFields s.tmu.sticky

/-- TIME_READ (R130). -/
def execTimeRead (k : Slot) (tag : Byte) (ps : List Byte) (s : State) : Result :=
  .next (serve k tag true false (reads ps (timeData s) s) s)

/-- A source's state, priority and runs (R131). -/
def sourceFields (prio : Nat) (r : SourceRec) : List Field :=
  [.text r.qual.text, .num 1 prio, .num 1 r.validRun, .num 1 r.invalidRun]

/-- A source's last sample error (R131); `w` is the width that holds it (assumption 4). -/
def errorField (w : Nat) (r : SourceRec) : List Field := optField r.last (fun x => [.num w x.error])

/-- The loop bank in force (R147): true is ACQUIRE. -/
def Tmu.bankInForce (t : Tmu) : Option Bool :=
  match t.timing with
  | .acquiring => some true
  | .locked => some false
  | _ => none

/-- The text of an output level (R124). -/
def levelText (b : Bool) : Text := if b then txt "high" else txt "low"

/-- One slot's PPS fields (R131). -/
def ppsFields (s : State) (k : Slot) : List Field :=
  [.text (onText (((s.tenant k).map TenantRec.ppsOn).getD false)), .num 2 (s.ppsOffset k)]
    ++ optField (s.tmu.pps.get k).lastEmitted (fun n => [.num 7 n]) ++ [.text (levelText (s.tmu.pps.get k).high)]

/-- What TIME_STATUS returns (R131); of the sources GNSS first, and of a source's runs the valid one (assumption 4). -/
def timeUnitData (s : State) : List Field :=
  let t := s.tmu
  let p := t.params
  [.time t.site] ++ optField t.lastSecond (fun n => [.num 6 n]) ++ [.num 4 t.y, .text t.timing.text, .text (setText t.everLocked),
    .num 4 t.holdover, .num 3 p.hPhase, .num 3 p.hFreq, .text t.cls.text] ++ selectedFields t
    ++ sourceFields p.gnssPriority t.gnss ++ sourceFields p.linkPriority t.link ++ errorField 4 t.gnss ++ errorField 10 t.link
    ++ optField t.pathDelay (fun d => [.num 10 d])
    ++ optField t.bankInForce (fun b => [.text (bankText b)])
    ++ [.num 1 p.acquire.a, .num 1 p.acquire.b, .num 1 p.track.a, .num 1 p.track.b, .text p.rounding.text, .num 4 t.integ,
        .num 2 p.lockWindow, .num 3 p.outlierLimit, .num 4 p.stepLimit]
    ++ listField t.history (fun m => [.text m.text]) ++ stickyFields t.sticky ++ (allSlots.map (ppsFields s)).flatten

/-- TIME_STATUS (R131). -/
def execTimeStatus (k : Slot) (tag : Byte) (ps : List Byte) (s : State) : Result :=
  .next (serve k tag true false (reads ps (timeUnitData s) s) s)

/-! ## Requests that write -/

/-- TMU's judgement of SET_TIME (R132): the timing state first. -/
def judgeSetTime (ps : List Byte) (s : State) : Verdict :=
  if s.tmu.timing ≠ .freerun then refuse .wrongState
  else
    withParams (timeParam ps) fun t =>
      if t.ns < Config.nsPerSecond ∧ t.sec < Config.secondsModulus then taken [] (stepTime t s) else refuse .badValue

/-- SET_TIME (R132). -/
def execSetTime (k : Slot) (tag : Byte) (ps : List Byte) (s : State) : Result :=
  .next (serve k tag (s.holds k .timeControl) false (judgeSetTime ps s) s)

/-- A source's priority replaced. -/
def TimeParams.setPriority (p : TimeParams) (src : Source) (n : Nat) : TimeParams :=
  match src with
  | .gnss => { p with gnssPriority := n }
  | .link => { p with linkPriority := n }

/-- A source's record at a write of its priority (R144). -/
def SourceRec.atPriority (r : SourceRec) (n : Nat) : SourceRec :=
  if n = 0 then { r with qual := .disabled, validRun := 0, invalidRun := 0 }
  else if r.qual = .disabled then { r with qual := .unqualified, validRun := 0, invalidRun := 0 }
  else r

/-- A taken SET_SOURCE_PRIORITY (R144 to R146, R179). -/
def writePriority (src : Source) (n : Nat) (s : State) : State :=
  let s1 := s.updTmu fun t => { t.updSource src (fun r => r.atPriority n) with params := t.params.setPriority src n }
  judgeSelection (if s.tmu.qualified src && decide (n = 0) then tsuSourceLeft s1 else s1)

/-- SET_SOURCE_PRIORITY (R146). -/
def execSetSourcePriority (k : Slot) (tag : Byte) (ps : List Byte) (s : State) : Result :=
  .next (serve k tag (s.holds k .timeControl) false
    (withParams (priorityParams ps) fun p =>
      if 7 < p.2 then refuse .badValue else taken [] (writePriority p.1 p.2 s)) s)

/-- The integrator preset (R157): in FREERUN and HOLDOVER y follows at once. -/
def Tmu.preset (t : Tmu) (v : Int) : Tmu :=
  match t.timing with
  | .freerun => { t with integ := v, y := v }
  | .holdover => { t with integ := v, y := v }
  | _ => { t with integ := v }

/-- PRESET_INTEGRATOR (R157). -/
def execPresetIntegrator (k : Slot) (tag : Byte) (ps : List Byte) (s : State) : Result :=
  .next (serve k tag (s.holds k .timeControl) false
    (withParams (integratorParam ps) fun v =>
      if v < -Config.maxCorrection ∨ Config.maxCorrection < v then refuse .badValue
      else taken [] (s.updTmu fun t => t.preset v)) s)

/-- A bank with its named shifts replaced. -/
def LoopBank.write (b : LoopBank) (a? b? : Option Nat) : LoopBank := ⟨a?.getD b.a, b?.getD b.b⟩

/-- TMU's judgement of SET_LOOP_BANK (R158). -/
def judgeSetLoopBank (ps : List Byte) (s : State) : Verdict :=
  withParams (bankParams ps) fun w =>
    if (w.2.1.isSome || w.2.2.isSome) && w.2.1.all (fun a => decide (a ≤ 15)) && w.2.2.all (fun b => decide (b ≤ 23)) then
      taken [] (s.updTmu fun t =>
        { t with params :=
            if w.1 then { t.params with acquire := t.params.acquire.write w.2.1 w.2.2 }
            else { t.params with track := t.params.track.write w.2.1 w.2.2 } })
    else refuse .badValue

/-- SET_LOOP_BANK (R158). -/
def execSetLoopBank (k : Slot) (tag : Byte) (ps : List Byte) (s : State) : Result :=
  .next (serve k tag (s.holds k .timeControl) false (judgeSetLoopBank ps s) s)

/-- The time parameters a SET_TIME_LIMITS would leave (R159). -/
def LimitWrite.into (w : LimitWrite) (p : TimeParams) : TimeParams :=
  { p with lockWindow := w.lockWindow.getD p.lockWindow, outlierLimit := w.outlier.getD p.outlierLimit,
           stepLimit := w.step.getD p.stepLimit, hPhase := w.hPhase.getD p.hPhase, hFreq := w.hFreq.getD p.hFreq,
           rounding := w.rounding.getD p.rounding }

/-- Whether a SET_TIME_LIMITS names anything. -/
def LimitWrite.names (w : LimitWrite) : Bool :=
  w.lockWindow.isSome || w.outlier.isSome || w.step.isSome || w.hPhase.isSome || w.hFreq.isSome || w.rounding.isSome

/-- Each named value within its own range (R159); the pairings are judged on the limits as the request would leave them. -/
def LimitWrite.inRange (w : LimitWrite) : Bool :=
  w.lockWindow.all (fun x => decide (1 ≤ x ∧ x ≤ 10000)) && w.outlier.all (fun x => decide (x ≤ 100000))
    && w.step.all (fun x => decide (100 ≤ x ∧ x ≤ 500000000)) && w.hPhase.all (fun x => decide (60 ≤ x ∧ x ≤ 86400))
    && w.hFreq.all (fun x => decide (x ≤ 2592000))

/-- The pairings of R159 on the parameters left. -/
def TimeParams.paired (p : TimeParams) : Bool := decide (p.lockWindow ≤ p.outlierLimit ∧ p.hPhase ≤ p.hFreq)

/-- A taken SET_TIME_LIMITS (R159, R129). -/
def writeLimits (w : LimitWrite) (s : State) : State :=
  let s1 := s.updTmu fun t => { t with params := w.into t.params }
  if w.hPhase.isSome || w.hFreq.isSome then deriveClass s1 else s1

/-- TMU's judgement of SET_TIME_LIMITS (R159). -/
def judgeSetTimeLimits (ps : List Byte) (s : State) : Verdict :=
  withParams (timeLimitParams ps) fun w =>
    if w.names && w.inRange && (w.into s.tmu.params).paired then taken [] (writeLimits w s) else refuse .badValue

/-- SET_TIME_LIMITS (R159). -/
def execSetTimeLimits (k : Slot) (tag : Byte) (ps : List Byte) (s : State) : Result :=
  .next (serve k tag (s.holds k .timeControl) false (judgeSetTimeLimits ps s) s)

/-- One sticky flag cleared. -/
def StickyFlags.clear (f : StickyFlags) (x : StickyFlag) : StickyFlags :=
  match x with
  | .stepped => { f with stepped := false }
  | .outlierSeen => { f with outlierSeen := false }
  | .integratorSaturated => { f with integratorSaturated := false }
  | .correctionSaturated => { f with correctionSaturated := false }

/-- TMU's judgement of CLEAR_TIME_STICKY (R156): answered with the flags as they stood. -/
def judgeClearTimeSticky (ps : List Byte) (s : State) : Verdict :=
  withParams (stickyParams ps) fun fs =>
    if fs = [] then refuse .badValue
    else taken (stickyFields s.tmu.sticky) (s.updTmu fun t => { t with sticky := fs.foldl StickyFlags.clear t.sticky })

/-- CLEAR_TIME_STICKY (R156). -/
def execClearTimeSticky (k : Slot) (tag : Byte) (ps : List Byte) (s : State) : Result :=
  .next (serve k tag (s.holds k .timeControl) false (judgeClearTimeSticky ps s) s)

/-! ## The sources and the clock -/

/-- GNSS_TIME_MESSAGE (R137): one that is not well formed is discarded. -/
def execGnssTimeMessage (bytes : List Byte) (s : State) : Result :=
  match readGnssMessage bytes with
  | some m => .next (s.updTmu fun t => { t with message := some m })
  | none => .next s

/-- GNSS_PULSE (R138). -/
def execGnssPulse (s : State) : Result := .next (gnssPulse s)

/-- PULSE_TIMER_EXPIRY (R139). -/
def execPulseTimerExpiry (s : State) : Result := .next (pulseTimerExpiry s)

/-- SITE_SECOND_BOUNDARY (R122). -/
def execSiteSecondBoundary (n : Nat) (s : State) : Result := .next (siteSecond n s)

/-- REPLY_TIMER_EXPIRY (R141). -/
def execReplyTimerExpiry (s : State) : Result := .next (replyTimerExpiry s)

/-- PPS_EMISSION (R125). -/
def execPpsEmission (k : Slot) (n : Int) (s : State) : Result := .next (ppsCrossing k n s)

/-- PPS_DELAYED_EMISSION (R125). -/
def execPpsDelayedEmission (k : Slot) (s : State) : Result :=
  .next (s.updTmu fun t => { t with pps := t.pps.modify k PpsGen.delayedPulse })

/-- PPS_PULSE_END (R125). -/
def execPpsPulseEnd (k : Slot) (s : State) : Result := .next (s.updTmu fun t => { t with pps := t.pps.modify k PpsGen.endPulse })

end Sys2Proof.Machine
end

