-- ==== Sys2Proof/Machine/Dispatch.lean ====
section
/-! DEFINITION. The one dispatch from a command to its meaning. -/

namespace Sys2Proof.Machine

open Sys2Proof

/-- A command's effect on everything but the queue of waiting commands. -/
def exec (i : Instr) (s : State) : Host.Outcome State Fault Refusal :=
  match i with
  | .powerOnReset strap => Sys2Proof.Machine.execPowerOnReset strap s
  | .descriptorLoad flash => Sys2Proof.Machine.execDescriptorLoad flash s
  | .requestWriteBegin k => Sys2Proof.Machine.execRequestWriteBegin k s
  | .corruptFrame k frame => Sys2Proof.Machine.execCorruptFrame k frame s
  | .unknownName k name tag params => Sys2Proof.Machine.execUnknownName k name tag params s
  | .responseRead k n => Sys2Proof.Machine.execResponseRead k n s
  | .identify k tag params => Sys2Proof.Machine.execIdentify k tag params s
  | .readAccess k tag params => Sys2Proof.Machine.execReadAccess k tag params s
  | .writeAccess k tag params => Sys2Proof.Machine.execWriteAccess k tag params s
  | .setLock k tag params => Sys2Proof.Machine.execSetLock k tag params s
  | .readEvents k tag params => Sys2Proof.Machine.execReadEvents k tag params s
  | .ackEvents k tag params => Sys2Proof.Machine.execAckEvents k tag params s
  | .setEventEnables k tag params => Sys2Proof.Machine.execSetEventEnables k tag params s
  | .siteStatus k tag params => Sys2Proof.Machine.execSiteStatus k tag params s
  | .beginBringup k tag params => Sys2Proof.Machine.execBeginBringup k tag params s
  | .retryAcceptance k tag params => Sys2Proof.Machine.execRetryAcceptance k tag params s
  | .forceService k tag params => Sys2Proof.Machine.execForceService k tag params s
  | .siteReset k tag params => Sys2Proof.Machine.execSiteReset k tag params s
  | .setAcceptanceSet k tag params => Sys2Proof.Machine.execSetAcceptanceSet k tag params s
  | .setSiteClass k tag params => Sys2Proof.Machine.execSetSiteClass k tag params s
  | .setCommitCeiling k tag params => Sys2Proof.Machine.execSetCommitCeiling k tag params s
  | .setSlotState k tag params => Sys2Proof.Machine.execSetSlotState k tag params s
  | .writeShare k tag params => Sys2Proof.Machine.execWriteShare k tag params s
  | .writeTuning k tag params => Sys2Proof.Machine.execWriteTuning k tag params s
  | .readTenant k tag params => Sys2Proof.Machine.execReadTenant k tag params s
  | .clearCounters k tag params => Sys2Proof.Machine.execClearCounters k tag params s
  | .tenantReset k tag params => Sys2Proof.Machine.execTenantReset k tag params s
  | .linkStatus k tag params => Sys2Proof.Machine.execLinkStatus k tag params s
  | .readProfiles k tag params => Sys2Proof.Machine.execReadProfiles k tag params s
  | .linkRestart k tag params => Sys2Proof.Machine.execLinkRestart k tag params s
  | .setRungLimits k tag params => Sys2Proof.Machine.execSetRungLimits k tag params s
  | .writeProfile k tag params => Sys2Proof.Machine.execWriteProfile k tag params s
  | .setLinkLimits k tag params => Sys2Proof.Machine.execSetLinkLimits k tag params s
  | .queueStatus k tag params => Sys2Proof.Machine.execQueueStatus k tag params s
  | .grantStatus k tag params => Sys2Proof.Machine.execGrantStatus k tag params s
  | .setGrantLimits k tag params => Sys2Proof.Machine.execSetGrantLimits k tag params s
  | .timeRead k tag params => Sys2Proof.Machine.execTimeRead k tag params s
  | .timeStatus k tag params => Sys2Proof.Machine.execTimeStatus k tag params s
  | .setTime k tag params => Sys2Proof.Machine.execSetTime k tag params s
  | .setSourcePriority k tag params => Sys2Proof.Machine.execSetSourcePriority k tag params s
  | .presetIntegrator k tag params => Sys2Proof.Machine.execPresetIntegrator k tag params s
  | .setLoopBank k tag params => Sys2Proof.Machine.execSetLoopBank k tag params s
  | .setTimeLimits k tag params => Sys2Proof.Machine.execSetTimeLimits k tag params s
  | .clearTimeSticky k tag params => Sys2Proof.Machine.execClearTimeSticky k tag params s
  | .orderTest k tag params => Sys2Proof.Machine.execOrderTest k tag params s
  | .cancelTest k tag params => Sys2Proof.Machine.execCancelTest k tag params s
  | .testStatus k tag params => Sys2Proof.Machine.execTestStatus k tag params s
  | .readResults k tag params => Sys2Proof.Machine.execReadResults k tag params s
  | .saveDescriptor k tag params => Sys2Proof.Machine.execSaveDescriptor k tag params s
  | .descriptorStatus k tag params => Sys2Proof.Machine.execDescriptorStatus k tag params s
  | .oduIdentifyReply number id => Sys2Proof.Machine.execOduIdentifyReply number id s
  | .identifyReplyLimit => Sys2Proof.Machine.execIdentifyReplyLimit s
  | .readPageReply page => Sys2Proof.Machine.execReadPageReply page s
  | .readPageReplyLimit => Sys2Proof.Machine.execReadPageReplyLimit s
  | .loopOnConfirmed => Sys2Proof.Machine.execLoopOnConfirmed s
  | .loopOnLimit => Sys2Proof.Machine.execLoopOnLimit s
  | .loopOffConfirmed => Sys2Proof.Machine.execLoopOffConfirmed s
  | .loopOffLimit => Sys2Proof.Machine.execLoopOffLimit s
  | .loopedFrameReturn frame errored => Sys2Proof.Machine.execLoopedFrameReturn frame errored s
  | .statusReport margin => Sys2Proof.Machine.execStatusReport margin s
  | .missingStatusReport => Sys2Proof.Machine.execMissingStatusReport s
  | .farFrame f => Sys2Proof.Machine.execFarFrame f s
  | .missingFarFrame => Sys2Proof.Machine.execMissingFarFrame s
  | .backoffExpiry => Sys2Proof.Machine.execBackoffExpiry s
  | .frameFill => Sys2Proof.Machine.execFrameFill s
  | .frameLeavesRadioPort => Sys2Proof.Machine.execFrameLeavesRadioPort s
  | .packetArrival k bytes cutShort => Sys2Proof.Machine.execPacketArrival k bytes cutShort s
  | .gnssTimeMessage bytes => Sys2Proof.Machine.execGnssTimeMessage bytes s
  | .gnssPulse => Sys2Proof.Machine.execGnssPulse s
  | .pulseTimerExpiry => Sys2Proof.Machine.execPulseTimerExpiry s
  | .siteSecondBoundary n => Sys2Proof.Machine.execSiteSecondBoundary n s
  | .replyTimerExpiry => Sys2Proof.Machine.execReplyTimerExpiry s
  | .ppsEmission k n => Sys2Proof.Machine.execPpsEmission k n s
  | .ppsDelayedEmission k => Sys2Proof.Machine.execPpsDelayedEmission k s
  | .ppsPulseEnd k => Sys2Proof.Machine.execPpsPulseEnd k s
  | .portLoopPacketSend => Sys2Proof.Machine.execPortLoopPacketSend s
  | .portLoopReturn p => Sys2Proof.Machine.execPortLoopReturn p s
  | .loopTimerExpiry => Sys2Proof.Machine.execLoopTimerExpiry s
  | .eraseComplete => Sys2Proof.Machine.execEraseComplete s
  | .programComplete => Sys2Proof.Machine.execProgramComplete s
  | .verifyComplete readBack => Sys2Proof.Machine.execVerifyComplete readBack s
  | .commitComplete mark => Sys2Proof.Machine.execCommitComplete mark s
  | .saveTimerExpiry => Sys2Proof.Machine.execSaveTimerExpiry s

end Sys2Proof.Machine
end

