-- ==== Sys2Proof/Machine/Ticks.lean ====
section
/-! DEFINITION. What a local nanosecond brings when no command waits (assumption 1): the advance of site time (R121), with the boundary and
the pulses it crosses (R122, R125), and at each local millisecond the timers, with the expiries they reach. The commands that come about
join the queue of waiting commands. Air frames are not timed here: their fills, departures and expected arrivals come from outside. -/

namespace Sys2Proof.Machine

open Sys2Proof

/-- A command joins the waiting ones. -/
def State.enqueue (s : State) (c : Instr) : State := { s with pending := s.pending ++ [c] }

/-- A command joins the waiting ones where a condition holds. -/
def State.enqueueIf (s : State) (b : Bool) (c : Instr) : State := if b then s.enqueue c else s

/-! ## The advance (R121) -/

/-- The nanoseconds of site time in the next local nanosecond, and the correction residue after it. -/
def Tmu.nextNs (t : Tmu) : Int × Int :=
  let r := t.residue + t.y
  let whole := Int.tdiv r Config.residueUnit
  (1 - whole, r - whole * Config.residueUnit)

/-- Site time one local nanosecond on. -/
def Tmu.advance (t : Tmu) : Tmu := { t.carryTo (timeNs t.site + t.nextNs.1) with residue := t.nextNs.2 }

/-- Whether slot `k`'s shifted time enters a second in the next local nanosecond (R125), once tenant records are installed. -/
def State.pulseCrosses (s : State) (k : Slot) : Bool :=
  (s.tenant k).isSome &&
    decide (s.shiftedSecond k < (timeNs s.tmu.site + s.tmu.nextNs.1 + s.ppsOffset k) / 1000000000)

/-- The crossings of the next local nanosecond of the advance (R122, R125). -/
def State.nextCrossings (s : State) : Crossings :=
  let s1 := s.updTmu Tmu.advance
  { second := if s1.tmu.site.sec = s.tmu.site.sec then none else some s1.tmu.site.sec,
    pulses := PerSlot.ofFn fun k => if s.pulseCrosses k then some (s1.shiftedSecond k) else none }

/-- The commands that stand for crossings: the boundary, then each slot's. -/
def Crossings.commands (x : Crossings) : List Instr :=
  (x.second.map Instr.siteSecondBoundary).toList ++ allSlots.filterMap (fun k => (x.pulses.get k).map (Instr.ppsEmission k))

/-- The advance with its crossings, made and waiting to be taken (R121, R122, R125). -/
def advanceTime (s : State) : State :=
  let s1 := s.updTmu fun t => { t.advance with crossed := s.nextCrossings }
  { s1 with pending := s1.pending ++ s.nextCrossings.commands }

/-! ## The local millisecond -/

/-- A discovery command one local millisecond older (R22). -/
def Lkc.tickCommand (l : Lkc) : Lkc :=
  { l with outstanding := l.outstanding.map (fun o =>
      if o.cmd = .identify ∨ o.cmd = .readPage then { o with elapsed := min o.limit (o.elapsed + 1) } else o) }

/-- The backoff timer one local millisecond on (R39). -/
def Lkc.tickBackoff (l : Lkc) : Lkc :=
  match l.state with
  | .lost n => { l with state := .lost (min Config.backoffLimit (n + 1)) }
  | _ => l

/-- A PPS generator's timers one local millisecond on (R125). -/
def PpsGen.tick (g : PpsGen) : PpsGen :=
  { g with timer := g.timer.map (fun n => min Config.ppsWidth (n + 1)), delayed := g.delayed.map (fun n => min Config.ppsDelay (n + 1)) }

/-- TMU's timers one local millisecond on (R125, R139, R141). -/
def Tmu.tickMs (t : Tmu) : Tmu :=
  { t with pulseTimer := t.pulseTimer.map (fun n => min Config.pulseLimit (n + 1)),
           exchange := t.exchange.map (fun x =>
             { x with sent := x.sent.map (fun e => { e with timer := min Config.replyLimit (e.timer + 1) }) }),
           pps := t.pps.map PpsGen.tick }

/-- The loop timer one local millisecond on (R168). -/
def Tsu.tickMs (t : Tsu) : Tsu :=
  match t.running with
  | some ⟨o, .portLoop p⟩ => { t with running := some ⟨o, .portLoop { p with timer := min Config.portLoopLimit (p.timer + 1) }⟩ }
  | _ => t

/-- The save timer one local millisecond on (R213). -/
def Dsu.tickMs (d : Dsu) : Dsu := { d with save := d.save.map (fun v => { v with timer := min Config.saveLimit (v.timer + 1) }) }

/-- Slot `k`'s PPS timers that have run out (R125): its width, and the delay of each pulse that waits. -/
def ppsTimersDue (s : State) (k : Slot) : State :=
  let due := (s.tmu.pps.get k).delayed.filter fun n => decide (Config.ppsDelay ≤ n)
  due.foldl (fun t _ => t.enqueue (.ppsDelayedEmission k)) (s.enqueueIf (s.tmu.pps.get k).widthDue (.ppsPulseEnd k))

/-- Every timer one local millisecond on. -/
def countMs (s : State) : State :=
  (((s.updLkc (fun l => l.tickCommand.tickBackoff)).updTmu Tmu.tickMs).updTsu Tsu.tickMs).updDsu Dsu.tickMs

/-- The expiries the timers have reached, and a PORT_LOOP's next packet. -/
def expiriesDue (s : State) : State :=
  let s := s.enqueueIf (s.commandDue .identify) .identifyReplyLimit
  let s := s.enqueueIf (s.commandDue .readPage) .readPageReplyLimit
  let s := s.enqueueIf s.lkc.state.backoffDue .backoffExpiry
  let s := s.enqueueIf s.tmu.pulseDue .pulseTimerExpiry
  let s := s.enqueueIf s.tmu.replyDue .replyTimerExpiry
  let s := allSlots.foldl ppsTimersDue s
  let s := s.enqueueIf s.tsu.packetDue .portLoopPacketSend
  let s := s.enqueueIf s.tsu.loopTimerDue .loopTimerExpiry
  s.enqueueIf s.dsu.saveDue .saveTimerExpiry

/-- One local nanosecond (assumption 1): site time advances, each millionth one is a local millisecond, and a LOOP_ON or LOOP_OFF that has
waited its air frames has run out. -/
def tick (s : State) : State :=
  let s1 := advanceTime s
  let s2 := if Config.nsPerMs ≤ s.subMs + 1 then expiriesDue (countMs { s1 with subMs := 0 }) else { s1 with subMs := s.subMs + 1 }
  (s2.enqueueIf (s2.commandDue .loopOn) .loopOnLimit).enqueueIf (s2.commandDue .loopOff) .loopOffLimit

end Sys2Proof.Machine
end

