-- ==== Sys2Proof/Safety.lean ====
section
/-! DEFINITION. What the manual says always holds, as predicates of a state: the bolded or plain "never" and "always" sentences of the
rules, each with the clauses that the step needs to keep it from every state and not only from those a run reaches. -/

namespace Sys2Proof.Machine

open Sys2Proof

/-! ## The slot interface -/

/-- Every attention line stands at the level of its two sets (R205). -/
def State.linesDriven (s : State) : Prop :=
  ∀ k, (s.sli.events.get k).attention = attentionLevel (s.sli.events.get k).pending (s.sli.events.get k).enabled

/-! ## Tenant records -/

/-- A table of tenant records keeps its contracts under a ceiling (R82), and slot 0 is ENABLED (R80). -/
def contractsHold (ceiling : Nat) (t : PerSlot TenantRec) : Prop :=
  t.s0.state = .enabled ∧ commitSum t ≤ ceiling ∧ ∀ k, (t.get k).committed ≤ (t.get k).peak

/-- The table in force keeps its contracts (R82). -/
def State.contractsKept (s : State) : Prop := ∀ t, s.scu.tenants = some t → contractsHold s.scu.ceiling t

/-- Every inhibit line stands at the level R18 gives it. -/
def State.inhibitsRight (s : State) : Prop := ∀ k, s.scu.inhibit.get k = s.inhibitLevel k

/-- Each slot that is not VACANT is time-fit exactly while the published class meets its required class, and a VACANT slot is fit (R90). -/
def State.fitnessRight (s : State) : Prop :=
  ∀ ts, s.scu.tenants = some ts → ∀ k,
    s.scu.fit.get k = (decide ((ts.get k).state = .vacant) || s.tmu.cls.meets (ts.get k).required)

/-! ## Queues -/

/-- Each slot's queued PB stays within 256 EXPRESS and 3,840 BULK (R67). -/
def Traffic.bounded (t : Traffic) : Prop := queuedPB t.express ≤ 256 ∧ queuedPB t.bulk ≤ 3840

/-- The queues of every slot stay within their limits (R67). -/
def State.queuesBounded (s : State) : Prop := ∀ k, (s.tqm.get k).bounded

/-- Outside UP no slot holds an egress partial packet: the departure discarded it, and segments are taken in UP alone (R36, R72, R73). -/
def State.egressQuiet (s : State) : Prop := s.lkc.state ≠ .up → ∀ k, (s.tqm.get k).egress = none

/-- Every deficit stays within 0..65,535 and every met history within 8 flags (R96, R106, R111). -/
def State.grantsBounded (s : State) : Prop :=
  ∀ k, (s.gre.slots.get k).deficit ≤ 65535 ∧ (s.gre.slots.get k).history.length ≤ 8

/-! ## Time -/

/-- The rate correction and the integrator stay within F_max (R152). -/
def State.ratesBounded (s : State) : Prop :=
  -12800000 ≤ s.tmu.y ∧ s.tmu.y ≤ 12800000 ∧ -12800000 ≤ s.tmu.integ ∧ s.tmu.integ ≤ 12800000

/-! ## Test orders -/

/-- The test order queue holds at most 8 orders with distinct ids, the results log at most 16 entries (R161). -/
def State.ordersBounded (s : State) : Prop :=
  s.tsu.orders.length ≤ 8 ∧ (s.tsu.orders.map Order.id).Nodup ∧ s.tsu.log.length ≤ 16

/-! ## Who may ask -/

/-- A request on slot `k`'s link that needs class `c` passes steps 3 and 4 (R193, R195). -/
def State.mayAsk (s : State) (k : Slot) (c : PermClass) : Prop := s.standing k = true ∧ s.holds k c = true

/-- What the table of section 10.7 asks of a request at step 4 (R195), apart from what its owner judges; true for a command that is no
request. -/
def State.permits (s : State) (i : Instr) : Bool :=
  match i with
  | .writeAccess k _ _ | .setLock k _ _ | .beginBringup k _ _ | .retryAcceptance k _ _ | .forceService k _ _ | .siteReset k _ _
  | .setAcceptanceSet k _ _ | .setSiteClass k _ _ | .setCommitCeiling k _ _ | .writeProfile k _ _ | .setLinkLimits k _ _
  | .setGrantLimits k _ _ | .saveDescriptor k _ _ => s.holds k .siteControl
  | .linkRestart k _ _ | .setRungLimits k _ _ => s.holds k .linkControl
  | .setTime k _ _ | .setSourcePriority k _ _ | .presetIntegrator k _ _ | .setLoopBank k _ _ | .setTimeLimits k _ _
  | .clearTimeSticky k _ _ => s.holds k .timeControl
  | .writeShare k _ _ => s.holds k .shareControl
  | .setSlotState k _ ps => s.holds k (s.slotStateClass ps)
  | .readTenant k _ ps | .queueStatus k _ ps | .grantStatus k _ ps => namesOwn k ps || s.holds k .observeAll
  | .clearCounters k _ ps => namesOwn k ps || s.holds k .shareControl
  | .tenantReset k _ ps => namesOwn k ps || s.holds k .siteControl
  | .writeTuning k _ ps => s.holds k .shareControl || (namesOwn k ps && s.holds k .ownTuning)
  | .orderTest k _ ps => s.holds k .testShared || (ordersOwnLoop k ps && s.holds k .testOwn)
  | .cancelTest k _ _ => s.holds k .testOwn || s.holds k .testShared
  | _ => true

/-- The requests that the configuration lock freezes (R199). -/
def frozen (i : Instr) : Bool :=
  match i with
  | .writeAccess .. | .setAcceptanceSet .. | .setCommitCeiling .. | .writeProfile .. | .saveDescriptor .. => true
  | .writeShare _ _ ps => shareNamesContract ps
  | _ => false

/-- A command that is one of the 44 requests: the table's row of its name makes it. -/
def isRequest (i : Instr) : Bool :=
  match requestParts i with
  | some p =>
    match requestNamed p.name with
    | some r => decide (r.command p.slot p.tag p.params = i)
    | none => false
  | none => false

/-! ## What holds while the tables are loading -/

/-- Until the load completes the link is OFF, nothing is asked of the ODU, no order is held, and the time unit forms no outcome
(R2, R21, R136). -/
def State.loadingQuiet (s : State) : Prop :=
  s.scu.site = .loading →
    s.lkc.state = .off .none ∧ s.lkc.outstanding = none ∧ s.tsu.running = none ∧ s.tsu.queued = [] ∧ s.tmu.timing = .freerun
      ∧ s.tmu.exchange = none ∧ s.tmu.pulseTimer = none

/-- No order waits while none runs (R166). -/
def State.noIdleQueue (s : State) : Prop := s.tsu.running = none → s.tsu.queued = []

/-! ## The hold -/

/-- The progress of a running order is of its kind (R161). -/
def Running.ofKind (r : Running) : Bool :=
  match r.order.test, r.progress with
  | .portLoop .., .portLoop _ | .airPattern .., .airPattern _ | .linkLoop _, .linkLoop _ | .timeCompare .., .timeCompare _ => true
  | _, _ => false

/-- The outstanding command is the one the link state sends (R24 to R26, R41). -/
def Lkc.commandFits (l : Lkc) : Bool :=
  match l.outstanding with
  | none => true
  | some o =>
    match o.cmd, l.state with
    | .identify, .discovery .identify _ | .readPage, .discovery .readPage _ | .loopOn, .held .loopEntry
    | .loopOff, .held .loopExit => true
    | _, _ => false

/-- The link is HELD exactly while a LINK_LOOP runs whose request for a hold was taken (R40, R42, R174). -/
def State.holdFits (s : State) : Prop :=
  (∀ r, s.tsu.running = some r → r.ofKind = true) ∧ s.lkc.commandFits = true
    ∧ s.lkc.state.isHeld = (s.loopProgress.map LoopProgress.held).getD false

/-- What an early end of a loop whose hold is taken leaves of the link (R41, R176): in HOLD_PENDING the end is marked, in LOOP_ENTRY and
LOOPING LOOP_OFF is sent and LOOP_EXIT entered, an outstanding LOOP_ON ending unanswered, and in LOOP_EXIT nothing changes. -/
def State.endsLoopEarly (s t : State) : Prop :=
  let exits (late : LateConfirms) : Prop :=
    t.lkc = { s.lkc with
        state := .held .loopExit, outstanding := some ⟨.loopOff, 0, s.lkc.confirmLimit, s.lkc.sent⟩, sent := s.lkc.sent + 1, late := late }
      ∧ t.emitted = s.emitted ++ [.odu .loopOff]
  (∀ u asked, s.lkc.state = .held (.holdPending u asked) →
      t.lkc = { s.lkc with state := .held (.holdPending u true) } ∧ t.emitted = s.emitted)
    ∧ (∀ o, s.lkc.state = .held .loopEntry → s.lkc.outstanding = some o → o.cmd = .loopOn →
        exits { s.lkc.late with loopOn := s.lkc.late.loopOn + 1 })
    ∧ (s.lkc.state = .held .looping → s.lkc.outstanding = none → exits s.lkc.late)
    ∧ (s.lkc.state = .held .loopExit → t.lkc = s.lkc ∧ t.emitted = s.emitted)

/-- The published class is the one derived from the timing state (R128, R129). -/
def State.classDerived (s : State) : Prop := s.tmu.cls = s.tmu.derivedClass

/-! ## The tables of a descriptor -/

/-- The tables in the ranges a descriptor holds (R30, R80, R82, R158, R159, R163, R194, R210, R212). -/
def Tables.inRange (t : Tables) : Bool :=
  decide (t.ceiling ≤ 4095 ∧ t.rungCeiling ≤ 7 ∧ 1 ≤ t.upLimit ∧ t.upLimit ≤ 255 ∧ 1 ≤ t.lossLimit ∧ t.lossLimit ≤ 1000
      ∧ 1 ≤ t.confirmLimit ∧ t.confirmLimit ≤ 255 ∧ 1 ≤ t.metLimit ∧ t.metLimit ≤ 8 ∧ 1 ≤ t.agingLimit ∧ t.agingLimit ≤ 255
      ∧ t.acceptanceSet.length ≤ 6 ∧ t.tenants.s0.state = .enabled ∧ commitSum t.tenants ≤ t.ceiling ∧ t.profiles.length ≤ 8
      ∧ (t.profiles.map Profile.key).Nodup)
    && t.acceptanceSet.all Test.inRange && t.tenants.toList.all TenantRec.inRange && t.access.s0.siteControl && t.time.inRange
    && t.profiles.all (fun p => p.inRange && p.ladder.consistent && decide (p.key.maker < 65536 ∧ p.key.model < 65536))

/-- From the end of the load on, records are installed and the tables in force are in range (R210). -/
def State.tablesRight (s : State) : Prop := s.scu.site ≠ .loading → s.scu.tenants.isSome = true ∧ s.tables.inRange = true

/-! ## From a class queue through the air to a traffic port -/

/-- A packet cut into tenant segments of the given PB counts, one frame after another (R69, R70). -/
def cutInto (k : Slot) (p : Packet) (ns : List Nat) : List Segment :=
  match ns with
  | [] => []
  | n :: rest => cutSegment k p n :: cutInto k { p with remaining := p.remaining - n } rest

/-- A tenant segment as the egress side receives it (R70). -/
def Segment.received (g : Segment) : EgressSegment := ⟨g.slot, g.seq, g.offset, g.length, g.last, g.pad.getD 0, g.data⟩

/-- Segments judged one after another: the record left and the packets delivered, in order (R73, R74). -/
def Traffic.takeAll (t : Traffic) (gs : List EgressSegment) : Traffic × List (List Byte) :=
  match gs with
  | [] => (t, [])
  | g :: rest => (((t.take g).1.takeAll rest).1, (t.take g).2.toList ++ ((t.take g).1.takeAll rest).2)

/-! ## What most commands leave alone -/

/-- The tables a descriptor holds, the store, the lock, the strap and the responses stand between two states. -/
def State.tablesStand (s t : State) : Prop :=
  t.tables = s.tables ∧ t.scu.tenants = s.scu.tenants ∧ t.dsu = s.dsu ∧ t.sli.lock = s.sli.lock ∧ t.sli.strap = s.sli.strap
    ∧ t.sli.links = s.sli.links

/-- With those the grant records and the enable sets stand, and no slot's pending set loses a kind. -/
def State.recordsStand (s t : State) : Prop :=
  s.tablesStand t ∧ t.gre = s.gre ∧ (∀ k, (t.sli.events.get k).enabled = (s.sli.events.get k).enabled)
    ∧ ∀ k e, (s.sli.events.get k).pending.has e = true → (t.sli.events.get k).pending.has e = true

end Sys2Proof.Machine
end

