-- ==== Sys2Proof/WellFormed.lean ====
section
/-! DEFINITION. When a command is well formed: its operands lie in the ranges the manual gives what they stand for. `exec` has a meaning
for every command, well formed or not; statements about encodings are about well-formed ones. -/

namespace Sys2Proof

open Sys2Proof.Machine

/-- A site time in range (R120). -/
def SiteTime.wf (t : SiteTime) : Bool := decide (t.sec < Config.secondsModulus ∧ t.ns < Config.nsPerSecond)

/-- An egress segment in the form of R70: its ranges, a pad on the last segment alone, and the bytes of its PB. -/
def EgressSegment.wf (g : EgressSegment) : Bool :=
  decide (g.seq < Config.frameModulus ∧ g.offset ≤ 143 ∧ 1 ≤ g.length ∧ g.length ≤ Config.maxPacketPB ∧ g.pad ≤ 63
    ∧ (g.last = false → g.pad = 0) ∧ g.data.length = Config.pbBytes * g.length)

/-- A far frame's parts in range (R35, R141, R171). -/
def FarFrame.wf (f : FarFrame) : Bool :=
  f.segments.all EgressSegment.wf && f.reply.all (fun r => r.echo.wf && r.t2.wf && r.t3.wf)
    && f.report.all (fun r => decide (r.frame < Config.frameModulus ∧ r.received ≤ 4091 ∧ r.errored ≤ 4091))
    && f.pattern.all (fun p => decide (p.received ≤ 4091 ∧ p.errored ≤ 4091))

/-- Whether bytes fail the form checks (R189). -/
def isCorrupt (bytes : List Byte) : Bool :=
  match judgeFrame bytes with
  | .corrupt _ => true
  | .formed .. => false

/-- A request's parameter bytes fit their length field (R188). -/
def paramsFit (ps : List Byte) : Bool := decide (ps.length ≤ Config.maxParams)

/-- A well-formed command. -/
def Instr.wf (i : Instr) : Bool :=
  match i with
  | .powerOnReset _ => true
  | .descriptorLoad _ => true
  | .requestWriteBegin _ => true
  | .corruptFrame _ frame => isCorrupt frame && !frame.isEmpty
  | .unknownName _ name _ ps => decide (name.length ≤ 255) && paramsFit ps && (requestNamed name).isNone
  | .responseRead _ _ => true
  | .identify _ _ ps => paramsFit ps
  | .readAccess _ _ ps => paramsFit ps
  | .writeAccess _ _ ps => paramsFit ps
  | .setLock _ _ ps => paramsFit ps
  | .readEvents _ _ ps => paramsFit ps
  | .ackEvents _ _ ps => paramsFit ps
  | .setEventEnables _ _ ps => paramsFit ps
  | .siteStatus _ _ ps => paramsFit ps
  | .beginBringup _ _ ps => paramsFit ps
  | .retryAcceptance _ _ ps => paramsFit ps
  | .forceService _ _ ps => paramsFit ps
  | .siteReset _ _ ps => paramsFit ps
  | .setAcceptanceSet _ _ ps => paramsFit ps
  | .setSiteClass _ _ ps => paramsFit ps
  | .setCommitCeiling _ _ ps => paramsFit ps
  | .setSlotState _ _ ps => paramsFit ps
  | .writeShare _ _ ps => paramsFit ps
  | .writeTuning _ _ ps => paramsFit ps
  | .readTenant _ _ ps => paramsFit ps
  | .clearCounters _ _ ps => paramsFit ps
  | .tenantReset _ _ ps => paramsFit ps
  | .linkStatus _ _ ps => paramsFit ps
  | .readProfiles _ _ ps => paramsFit ps
  | .linkRestart _ _ ps => paramsFit ps
  | .setRungLimits _ _ ps => paramsFit ps
  | .writeProfile _ _ ps => paramsFit ps
  | .setLinkLimits _ _ ps => paramsFit ps
  | .queueStatus _ _ ps => paramsFit ps
  | .grantStatus _ _ ps => paramsFit ps
  | .setGrantLimits _ _ ps => paramsFit ps
  | .timeRead _ _ ps => paramsFit ps
  | .timeStatus _ _ ps => paramsFit ps
  | .setTime _ _ ps => paramsFit ps
  | .setSourcePriority _ _ ps => paramsFit ps
  | .presetIntegrator _ _ ps => paramsFit ps
  | .setLoopBank _ _ ps => paramsFit ps
  | .setTimeLimits _ _ ps => paramsFit ps
  | .clearTimeSticky _ _ ps => paramsFit ps
  | .orderTest _ _ ps => paramsFit ps
  | .cancelTest _ _ ps => paramsFit ps
  | .testStatus _ _ ps => paramsFit ps
  | .readResults _ _ ps => paramsFit ps
  | .saveDescriptor _ _ ps => paramsFit ps
  | .descriptorStatus _ _ ps => paramsFit ps
  | .oduIdentifyReply _ id => decide (id.maker < 65536 ∧ id.model < 65536)
  | .identifyReplyLimit => true
  | .readPageReply _ => true
  | .readPageReplyLimit => true
  | .loopOnConfirmed => true
  | .loopOnLimit => true
  | .loopOffConfirmed => true
  | .loopOffLimit => true
  | .loopedFrameReturn frame errored => decide (frame < Config.frameModulus ∧ errored ≤ 4091)
  | .statusReport _ => true
  | .missingStatusReport => true
  | .farFrame f => f.wf
  | .missingFarFrame => true
  | .backoffExpiry => true
  | .frameFill => true
  | .frameLeavesRadioPort => true
  | .packetArrival _ _ _ => true
  | .gnssTimeMessage _ => true
  | .gnssPulse => true
  | .pulseTimerExpiry => true
  | .siteSecondBoundary n => decide (n < Config.secondsModulus)
  | .replyTimerExpiry => true
  | .ppsEmission _ n => decide (-1 ≤ n ∧ n ≤ (Config.secondsModulus : Int))
  | .ppsDelayedEmission _ => true
  | .ppsPulseEnd _ => true
  | .portLoopPacketSend => true
  | .portLoopReturn _ => true
  | .loopTimerExpiry => true
  | .eraseComplete => true
  | .programComplete => true
  | .verifyComplete _ => true
  | .commitComplete _ => true
  | .saveTimerExpiry => true

end Sys2Proof
end

