-- ==== Sys2Proof/Certificates/Slice0/Obligations.lean ====
section
/-! DEFINITION. The statements for the provers, in the order of the manual's chapters but for the slot interface, which comes first. -/

open Sys2Proof Sys2Proof.Machine

/-! ## The queue of commands and the passing of time -/

/-- One step takes the command at the front of the queue and runs it with the queue's rest. -/
def Obligations.StepTakesTheFrontCommand : Prop :=
  ∀ (c : Instr) (rest : List Instr) (s : State),
    step { s with pending := c :: rest } = exec c { s with pending := rest }

/-- With no command waiting one local nanosecond passes (log entry 1, the model's choice): site time gains 0, 1 or 2 ns and the residue
carries what is left of the rate correction, and a wrap of the seconds count clears the last seconds (R121). The event records, the site,
the traffic, the grants and what was driven stand. -/
def Obligations.EmptyQueuePassesOneNanosecond : Prop :=
  ∀ s : State, s.pending = [] → s.ratesBounded → s.tmu.site.wf = true → s.tmu.residue.natAbs < 256000000000 →
    ∃ (t : State) (gain : Int),
      step s = .next t ∧ 0 ≤ gain ∧ gain ≤ 2 ∧ t.tmu.residue.natAbs < 256000000000
        ∧ s.tmu.residue + s.tmu.y = (1 - gain) * 256000000000 + t.tmu.residue
        ∧ t.tmu.site = timeOfNs (timeNs s.tmu.site + gain)
        ∧ (timeNs s.tmu.site + gain < 281474976710656 * 1000000000 →
            timeNs t.tmu.site = timeNs s.tmu.site + gain ∧ t.tmu.lastSecond = s.tmu.lastSecond)
        ∧ (281474976710656 * 1000000000 ≤ timeNs s.tmu.site + gain →
            t.tmu.lastSecond = none ∧ ∀ k, (t.tmu.pps.get k).lastEmitted = none)
        ∧ t.tmu.y = s.tmu.y ∧ t.sli = s.sli ∧ t.scu = s.scu ∧ t.tqm = s.tqm ∧ t.gre = s.gre ∧ t.emitted = s.emitted

/-- The local timers and the crossings on an empty queue (R22, R39, R122, R125, R139, R141, R168, R213; log entry 1): at each millionth
local nanosecond every running timer counts one, up to its limit, and the expiry of each that stands at its limit joins the queue, one for
each pulse waiting its delay (log entry 15), as does the next packet of a PORT_LOOP while one is due, the first at the first local ms (log
entry 38, the model's choice); at any other nanosecond none does. A second that site time enters, and each slot's shifted second, join it as
crossings of the advance. LOOP_ON and LOOP_OFF wait by air frames, and join once they have waited their limit. -/
def Obligations.LocalTimersRunOut : Prop :=
  ∀ s : State, s.pending = [] → ∃ t, step s = .next t
    ∧ (let ms : Prop := 1000000 ≤ s.subMs + 1
       let joins (c : Instr) (due : Prop) : Prop := c ∈ t.pending ↔ ms ∧ due
       (¬ms → t.subMs = s.subMs + 1 ∧ t.lkc = s.lkc ∧ t.tsu = s.tsu ∧ t.dsu = s.dsu ∧ t.tmu.pulseTimer = s.tmu.pulseTimer
          ∧ t.tmu.exchange = s.tmu.exchange
          ∧ ∀ k, (t.tmu.pps.get k).timer = (s.tmu.pps.get k).timer ∧ (t.tmu.pps.get k).delayed = (s.tmu.pps.get k).delayed)
       ∧ (ms → t.subMs = 0
          ∧ (∀ o, s.lkc.outstanding = some o → o.cmd = .identify ∨ o.cmd = .readPage →
              t.lkc.outstanding = some { o with elapsed := min o.limit (o.elapsed + 1) })
          ∧ (∀ o, s.lkc.outstanding = some o → o.cmd = .loopOn ∨ o.cmd = .loopOff → t.lkc.outstanding = some o)
          ∧ (∀ n, s.lkc.state = .lost n → t.lkc.state = .lost (min 1000 (n + 1)))
          ∧ t.tmu.pulseTimer = s.tmu.pulseTimer.map (fun n => min 1100 (n + 1))
          ∧ (∀ x e, s.tmu.exchange = some x → x.sent = some e →
              t.tmu.exchange = some { x with sent := some { e with timer := min 50 (e.timer + 1) } })
          ∧ (∀ o p, s.tsu.running = some ⟨o, .portLoop p⟩ →
              t.tsu.running = some ⟨o, .portLoop { p with timer := min 2000 (p.timer + 1) }⟩)
          ∧ t.dsu.save = s.dsu.save.map (fun v => { v with timer := min 3000 (v.timer + 1) })
          ∧ ∀ k, (t.tmu.pps.get k).timer = (s.tmu.pps.get k).timer.map (fun n => min 100 (n + 1))
              ∧ (t.tmu.pps.get k).delayed = (s.tmu.pps.get k).delayed.map (fun n => min 1 (n + 1)))
       ∧ joins .identifyReplyLimit (∃ o, s.lkc.outstanding = some o ∧ o.cmd = .identify ∧ o.limit ≤ o.elapsed + 1)
       ∧ joins .readPageReplyLimit (∃ o, s.lkc.outstanding = some o ∧ o.cmd = .readPage ∧ o.limit ≤ o.elapsed + 1)
       ∧ joins .backoffExpiry (∃ n, s.lkc.state = .lost n ∧ 1000 ≤ n + 1)
       ∧ joins .pulseTimerExpiry (∃ n, s.tmu.pulseTimer = some n ∧ 1100 ≤ n + 1)
       ∧ joins .replyTimerExpiry (∃ x e, s.tmu.exchange = some x ∧ x.sent = some e ∧ 50 ≤ e.timer + 1)
       ∧ (∀ k, joins (.ppsPulseEnd k) (∃ w, (s.tmu.pps.get k).timer = some w ∧ 100 ≤ w + 1)
           ∧ joins (.ppsDelayedEmission k) ((s.tmu.pps.get k).delayed ≠ [])
           ∧ (ms → t.pending.count (.ppsDelayedEmission k) = (s.tmu.pps.get k).delayed.length))
       ∧ joins .portLoopPacketSend (∃ id who k n len p, s.tsu.running = some ⟨⟨id, who, .portLoop k n len⟩, .portLoop p⟩
           ∧ p.sent < n ∧ p.sent < min 2000 (p.timer + 1))
       ∧ joins .loopTimerExpiry (∃ o p, s.tsu.running = some ⟨o, .portLoop p⟩ ∧ 2000 ≤ p.timer + 1)
       ∧ joins .saveTimerExpiry (∃ v, s.dsu.save = some v ∧ 3000 ≤ v.timer + 1))
    ∧ (.loopOnLimit ∈ t.pending ↔ ∃ o, s.lkc.outstanding = some o ∧ o.cmd = .loopOn ∧ o.limit ≤ o.elapsed)
    ∧ (.loopOffLimit ∈ t.pending ↔ ∃ o, s.lkc.outstanding = some o ∧ o.cmd = .loopOff ∧ o.limit ≤ o.elapsed)
    ∧ (∀ n, .siteSecondBoundary n ∈ t.pending ↔ t.tmu.crossed.second = some n)
    ∧ (∀ n, t.tmu.crossed.second = some n ↔ t.tmu.site.sec = n ∧ s.tmu.site.sec ≠ n)
    ∧ (∀ k n, .ppsEmission k n ∈ t.pending ↔ t.tmu.crossed.pulses.get k = some n)
    ∧ (s.ratesBounded → s.tmu.site.wf = true → s.tmu.residue.natAbs < 256000000000 →
        timeNs s.tmu.site + 2 < 281474976710656 * 1000000000 →
        ∀ k n, t.tmu.crossed.pulses.get k = some n ↔
          s.scu.tenants.isSome = true ∧ t.shiftedSecond k = n ∧ s.shiftedSecond k < n)

/-! ## The management link (chapter 10) -/

/-- The first byte of a request write moves the link to RECEIVING, discards a waiting response and deasserts the ready line; nothing else
changes (R188, R191). The answer to a frame leaves the link IDLE with the response waiting and the ready line asserted. A response read
returns the waiting response from its first byte; one that runs through the check value removes it and deasserts the ready line, a shorter
one changes nothing, and with no response waiting idle fill is returned (R190). The bytes past the end are left open: any read of `n` bytes
begins with the response's bytes (log entry 3). -/
def Obligations.ResponsesWaitAndAreRead : Prop :=
  (∀ (k : Slot) (s : State),
    exec (.requestWriteBegin k) s
      = .next { s with sli := { s.sli with links := s.sli.links.set k ⟨true, none, false⟩ } })
  ∧ (∀ (k : Slot) (tag : Byte) (st : Status) (data : List Field) (s : State),
      (answer k tag st data s).sli.links.get k = ⟨false, some ⟨tag, st, data⟩, true⟩
        ∧ (∀ j, j ≠ k → (answer k tag st data s).sli.links.get j = s.sli.links.get j)
        ∧ { answer k tag st data s with sli := { (answer k tag st data s).sli with links := s.sli.links } } = s)
  ∧ ∀ (k : Slot) (n : Nat) (s : State),
    ((s.sli.links.get k).waiting = none →
      exec (.responseRead k n) s = .next { s with emitted := s.emitted ++ [.linkBytes k (List.replicate n 0xFF)] })
    ∧ ∀ r, (s.sli.links.get k).waiting = some r →
        (n < (responseBytes r).length →
          exec (.responseRead k n) s = .next { s with emitted := s.emitted ++ [.linkBytes k ((responseBytes r).take n)] })
        ∧ ((responseBytes r).length ≤ n →
            ∃ extra : List Byte, extra.length = n - (responseBytes r).length
              ∧ exec (.responseRead k n) s
                = .next { s with
                    sli := { s.sli with links := s.sli.links.modify k (fun l => { l with waiting := none, ready := false }) },
                    freeBytes := s.freeBytes + (n - (responseBytes r).length),
                    emitted := s.emitted ++ [.linkBytes k (responseBytes r ++ extra)] })

/-- A frame that fails its form checks is answered CORRUPT with the tag as it stood in the received bytes, and a well-formed frame of an
unknown name is answered UNKNOWN (R189, R192); neither has a further effect. A write of no byte is no frame and changes nothing (R188).
Operands that are another command's frame are the one refusal: every well-formed command answers a next state. The refusal is the model's
choice (log entry 7). -/
def Obligations.FormErrorsAreAnswered : Prop :=
  (∀ (k : Slot) (bytes : List Byte) (s : State),
    exec (.corruptFrame k []) s = .next s
    ∧ (isCorrupt bytes = true → bytes ≠ [] → exec (.corruptFrame k bytes) s = .next (answer k (frameTag bytes) .corrupt [] s))
    ∧ (isCorrupt bytes = false → exec (.corruptFrame k bytes) s = .refused .frameOfAnotherCommand))
  ∧ (∀ (k : Slot) (name params : List Byte) (tag : Byte) (s : State),
      (requestNamed name = none → exec (.unknownName k name tag params) s = .next (answer k tag .unknown [] s))
      ∧ ((requestNamed name).isSome = true → exec (.unknownName k name tag params) s = .refused .frameOfAnotherCommand))
  ∧ ∀ (i : Instr) (s : State), i.wf = true → ∃ t, exec i s = .next t

/-- Every well-formed command that arrives as a frame is read back from its frame: a request from its name, tag and parameters, and a
corrupt frame from its bytes (R189, R219). A frame cut short, run on, or with another check value fails its form checks. A transfer that
begins with 0x51 is a write of the frame after it, one that begins with 0x52 a read of as many bytes as are clocked after it; any other
first byte, and a write of no byte, is no command (R188, R219). -/
def Obligations.FramesReadBack : Prop :=
  (∀ (i : Instr) (p : RequestParts), i.wf = true → requestParts i = some p →
    decodeFrame p.slot (frameBytes p.name p.tag p.params) = i
      ∧ decodeTransaction p.slot (0x51 :: frameBytes p.name p.tag p.params) = [.requestWriteBegin p.slot, i])
  ∧ (∀ (k : Slot) (bytes : List Byte), isCorrupt bytes = true → decodeFrame k bytes = .corruptFrame k bytes)
  ∧ (∀ (name params : List Byte) (tag : Byte), name.length ≤ 255 → params.length ≤ 252 →
    (∀ n, n < (frameBytes name tag params).length → isCorrupt ((frameBytes name tag params).take n) = true)
    ∧ (∀ more : List Byte, more ≠ [] → isCorrupt (frameBytes name tag params ++ more) = true)
    ∧ ∀ b : Byte, b ≠ (frameBytes name tag params).getLastD 0 → isCorrupt ((frameBytes name tag params).dropLast ++ [b]) = true)
  ∧ ∀ (k : Slot) (bytes : List Byte),
      decodeTransaction k [0x51] = [] ∧ decodeTransaction k (0x52 :: bytes) = [.responseRead k bytes.length]
      ∧ ∀ b : Byte, b ≠ 0x51 → b ≠ 0x52 → decodeTransaction k (b :: bytes) = []

/-- Every command that arrives as a frame is answered on its own link with its own tag, and one whose status is not OK has no effect but
that answer (R188, R189, R192). -/
def Obligations.RefusedRequestsChangeNothing : Prop :=
  ∀ (i : Instr) (p : RequestParts) (s t : State), requestParts i = some p → exec i s = .next t →
    ∃ r : Response, t.sli.links.get p.slot = ⟨false, some r, true⟩ ∧ r.tag = p.tag
      ∧ (r.status ≠ .ok → t = answer p.slot p.tag r.status r.data s)

/-- The checks SLI makes of a request after its form and name, in order. Step 3: every request but IDENTIFY is refused WRONG_STATE while the
site is LOADING and while the requesting slot is VACANT (R193). Step 4: one whose class the slot does not hold is refused DENIED (R195).
Step 5: while the lock is set, one that changes a frozen item is refused LOCKED (R199). None has a further effect. That a SET_SLOT_STATE
without a valid slot or state needs SHARE_CONTROL, and a parameter list that does not read is judged so far as it reads, is the model's
choice (log entry 10). -/
def Obligations.SlotInterfaceRefusals : Prop :=
  ∀ (i : Instr) (p : RequestParts) (s : State), requestParts i = some p →
    (isRequest i = true → p.name ≠ txt "IDENTIFY" → (s.scu.site = .loading ∨ s.slotState p.slot = some .vacant) →
      exec i s = .next (answer p.slot p.tag .wrongState [] s))
    ∧ (s.standing p.slot = true → s.permits i = false → exec i s = .next (answer p.slot p.tag .denied [] s))
    ∧ (s.standing p.slot = true → s.permits i = true → frozen i = true → s.sli.lock = true →
        exec i s = .next (answer p.slot p.tag .locked [] s))

/-- No step but a power-on reset clears the configuration lock or moves the strap latch, and the access matrix changes at a power-on
reset, at the end of the load and at a WRITE_ACCESS alone (R194, R198, R199). -/
def Obligations.LockStandsUntilPowerOnReset : Prop :=
  ∀ s t : State, step s = .next t → (∀ b, s.pending.head? ≠ some (.powerOnReset b)) →
    t.sli.strap = s.sli.strap ∧ (s.sli.lock = true → t.sli.lock = true)
      ∧ (t.sli.access = s.sli.access
          ∨ (∃ flash, s.pending.head? = some (.descriptorLoad flash)) ∨ ∃ k tag ps, s.pending.head? = some (.writeAccess k tag ps))

/-- Every step keeps each slot's attention line at the level its two sets give, asserted exactly while a pending kind is enabled, and a
power-on reset leaves every line deasserted (R205). -/
def Obligations.AttentionLinesFollowTheSets : Prop :=
  (∀ s t : State, s.linesDriven → step s = .next t → t.linesDriven)
  ∧ (∀ s : State, s.linesDriven → ∀ k, (s.sli.events.get k).attention = true ↔
      ∃ e, (s.sli.events.get k).pending.has e = true ∧ (s.sli.events.get k).enabled.has e = true)
  ∧ ∀ (strap : Bool) (s t : State), exec (.powerOnReset strap) s = .next t → t.linesDriven ∧ ∀ k, (t.sli.events.get k).attention = false

/-- The state after a power-on reset meets every invariant stated here. -/
def Obligations.ResetMeetsTheInvariants : Prop :=
  State.reset.linesDriven ∧ State.reset.tablesRight ∧ State.reset.contractsKept ∧ State.reset.inhibitsRight
    ∧ State.reset.queuesBounded ∧ State.reset.grantsBounded ∧ State.reset.ratesBounded ∧ State.reset.ordersBounded
    ∧ State.reset.loadingQuiet ∧ State.reset.noIdleQueue ∧ State.reset.holdFits ∧ State.reset.classDerived
    ∧ State.reset.egressQuiet ∧ State.reset.fitnessRight

/-- A taken WRITE_ACCESS replaces one row, a taken SET_LOCK sets the lock, a taken ACK_EVENTS removes the named kinds and returns the set
as it stood, a taken SET_EVENT_ENABLES replaces the enable set; each line follows its sets (R196, R200, R205, R207, R208). -/
def Obligations.SlotInterfaceWrites : Prop :=
  ∀ (k : Slot) (tag : Byte) (ps : List Byte) (s : State),
    (∀ (target : Slot) (cs : List PermClass), s.mayAsk k .siteControl → s.sli.lock = false →
      accessParams ps = some (target.val, cs) → cs.Nodup → (target = 0 → PermClass.siteControl ∈ cs) →
      exec (.writeAccess k tag ps) s
        = .next (answer k tag .ok [] { s with sli := { s.sli with access := s.sli.access.set target (ClassSet.ofList cs) } }))
    ∧ (s.mayAsk k .siteControl → ps = [] →
        exec (.setLock k tag ps) s = .next (answer k tag .ok [] { s with sli := { s.sli with lock := true } }))
    ∧ (∀ es : List EventKind, s.standing k = true → kindParams ps = some es → 1 ≤ es.length → es.length ≤ 12 →
        ∃ t, exec (.ackEvents k tag ps) s = .next (answer k tag .ok (kindFields (s.sli.events.get k).pending) t)
          ∧ t = { s with sli := { s.sli with events := s.sli.events.set k (t.sli.events.get k) } }
          ∧ (t.sli.events.get k).enabled = (s.sli.events.get k).enabled
          ∧ (∀ e, (t.sli.events.get k).pending.has e = ((s.sli.events.get k).pending.has e && decide (e ∉ es)))
          ∧ (t.sli.events.get k).attention = attentionLevel (t.sli.events.get k).pending (t.sli.events.get k).enabled)
    ∧ ∀ es : List EventKind, s.standing k = true → kindParams ps = some es → es.Nodup →
        ∃ t, exec (.setEventEnables k tag ps) s = .next (answer k tag .ok [] t)
          ∧ t = { s with sli := { s.sli with events := s.sli.events.set k (t.sli.events.get k) } }
          ∧ (t.sli.events.get k).pending = (s.sli.events.get k).pending
          ∧ (∀ e, (t.sli.events.get k).enabled.has e = decide (e ∈ es))
          ∧ (t.sli.events.get k).attention = attentionLevel (t.sli.events.get k).pending (t.sli.events.get k).enabled

/-- The reading requests are answered OK with their data and change nothing: IDENTIFY in every state, the open ones for every slot that is
not VACANT after LOADING, and those of a slot's record for the slot itself or with OBSERVE_ALL (R15, R32, R47, R78, R92, R116, R130, R131,
R187, R197, R201, R206, R216). READ_EVENTS returns the two sets and the line (R206), and READ_RESULTS the numbers held, the lost flag and up
to 4 entries from the starting number, which may stand below, inside or above the log (R185). The words of a line's level and of a flag, and
the widths, are the model's reading (log entry 4), and so are a presence byte before each of the lowest and the highest number, which figures
that are present together share one and which carry their own, a notice's two frames and an entry's measures among them (log entry 34), the 4 bytes of a LINK_LOOP's PB errored (log entry 40), and that a TIME_COMPARE's
maximum difference is sent without one (log entry 41). -/
def Obligations.ReadingsChangeNothing : Prop :=
  ∀ (k : Slot) (tag : Byte) (s : State),
    exec (.identify k tag []) s = .next (answer k tag .ok (identifyData k s) s)
    ∧ (s.standing k = true →
        exec (.readAccess k tag []) s = .next (answer k tag .ok (accessData k s) s)
        ∧ exec (.readEvents k tag []) s = .next (answer k tag .ok (eventsData k s) s)
        ∧ exec (.siteStatus k tag []) s = .next (answer k tag .ok (siteData s) s)
        ∧ exec (.linkStatus k tag []) s = .next (answer k tag .ok (linkData s) s)
        ∧ exec (.readProfiles k tag []) s = .next (answer k tag .ok (profilesData s) s)
        ∧ exec (.timeRead k tag []) s = .next (answer k tag .ok (timeData s) s)
        ∧ exec (.timeStatus k tag []) s = .next (answer k tag .ok (timeUnitData s) s)
        ∧ exec (.testStatus k tag []) s = .next (answer k tag .ok (testData s) s)
        ∧ exec (.descriptorStatus k tag []) s = .next (answer k tag .ok (storeData s) s)
        ∧ (∀ n : Nat, n < 4294967296 →
            exec (.readResults k tag (toBE 4 n)) s = .next (answer k tag .ok (resultsData n s) s))
        ∧ ∀ t : Slot, (t = k ∨ s.holds k .observeAll = true) →
            exec (.readTenant k tag [BitVec.ofNat 8 t.val]) s = .next (answer k tag .ok (tenantData s t) s)
            ∧ exec (.queueStatus k tag [BitVec.ofNat 8 t.val]) s = .next (answer k tag .ok (queueData s t) s)
            ∧ exec (.grantStatus k tag [BitVec.ofNat 8 t.val]) s = .next (answer k tag .ok (grantData s t) s))
    ∧ eventsData k s = kindFields (s.sli.events.get k).pending ++ kindFields (s.sli.events.get k).enabled
        ++ [.text (if (s.sli.events.get k).attention then txt "asserted" else txt "deasserted")]
    ∧ (s.tsu.log = [] → ∀ n, resultsData n s = [.present false, .present false, .text (txt "clear"), .count 0])
    ∧ ∀ (n : Nat) (below above : List LogEntry) (e last : LogEntry), s.tsu.log = below ++ above → s.tsu.log.head? = some e →
        s.tsu.log.getLast? = some last → (∀ x ∈ below, x.seq < n) → (∀ x ∈ above, n ≤ x.seq) →
        resultsData n s = .present true :: .num 4 e.seq :: .present true :: .num 4 last.seq
          :: .text (if 0 < n ∧ n < e.seq then txt "set" else txt "clear")
          :: .count (min 4 above.length) :: ((above.take 4).map entryFields).flatten

/-! ## The site (chapter 1) and its tables (chapters 5 and 11) -/

/-- A power-on reset puts every block at its reset values with the strap sampled (R2, R20, R76, R96, R120, R135, R160, R182, R188, R194,
R198, R199, R204): the access matrix with every row empty, the whole link record, the time parameters at their defaults with both source
records and all of the timing state, the traffic, grant, event and test records; the commands waiting, the model's record of what was driven
and its counts of commands sent and of those ended unanswered stand. That these stand (log entry 21), and the ceiling's 0, the site class,
the acceptance set and the fitness before the load (log entry 17), are the model's choices. -/
def Obligations.PowerOnResetValues : Prop :=
  ∀ (strap : Bool) (s : State), ∃ t, exec (.powerOnReset strap) s = .next t
    ∧ t.pending = s.pending ∧ t.emitted = s.emitted
    ∧ t.scu.site = .loading ∧ t.scu.tenants = none ∧ t.scu.wait = none ∧ t.scu.tracking = [] ∧ t.scu.failure = none
    ∧ t.scu.entry = none ∧ t.scu.ceiling = 0 ∧ t.scu.siteClass = .none ∧ t.scu.acceptanceSet = []
    ∧ (∀ k c, (t.sli.access.get k).has c = false)
    ∧ (∀ k, t.scu.inhibit.get k = true ∧ t.scu.fit.get k = true ∧ t.sli.links.get k = ⟨false, none, false⟩ ∧ t.sli.events.get k = ⟨{}, {}, false⟩
        ∧ t.tqm.get k = {} ∧ t.gre.slots.get k = {} ∧ t.tmu.pps.get k = ⟨none, false, none, []⟩)
    ∧ t.sli.lock = false ∧ t.sli.strap = strap
    ∧ t.lkc = {
        state := .off .none, odu := none, ladder := none, source := none, outstanding := none, rung := 0, frame := 0, syncMiss := 0,
        lowRun := 0, losses := ⟨0, 0, 0, 0, 0, 0⟩, ceiling := 7, notice := none, voided := none, upCount := 0, near := none, far := none,
        effective := none, upLimit := 64, lossLimit := 200, confirmLimit := 20, profiles := [], unsent := [], looped := [],
        farPattern := none, sent := s.lkc.sent, late := s.lkc.abandon.late }
    ∧ t.gre.metLimit = 6 ∧ t.gre.agingLimit = 255
    ∧ t.tmu.site = ⟨0, 0⟩ ∧ t.tmu.y = 0 ∧ t.tmu.residue = 0 ∧ t.tmu.lastSecond = none ∧ t.tmu.cls = .none ∧ t.tmu.timing = .freerun
    ∧ t.tmu.everLocked = false ∧ t.tmu.sticky = ⟨false, false, false, false⟩ ∧ t.tmu.integ = 0 ∧ t.tmu.exchange = none
    ∧ t.tmu.pulseTimer = none ∧ t.tmu.holdover = 0 ∧ t.tmu.history = [] ∧ t.tmu.selected = none ∧ t.tmu.message = none
    ∧ t.tmu.pathDelay = none ∧ (∀ src, t.tmu.source src = ⟨.unqualified, 0, 0, none⟩)
    ∧ t.tmu.params = {
        gnssPriority := 2, linkPriority := 1, acquire := ⟨2, 6⟩, track := ⟨4, 10⟩, rounding := .nearestEven, lockWindow := 100,
        outlierLimit := 1000, stepLimit := 2000, hPhase := 14400, hFreq := 259200 }
    ∧ t.tsu.running = none ∧ t.tsu.queued = [] ∧ t.tsu.nextId = 1 ∧ t.tsu.log = [] ∧ t.tsu.nextSeq = some 1
    ∧ t.dsu.save = none ∧ t.dsu.last = none ∧ t.dsu.load = none

/-- The descriptor load: a VALID one installs its tables, takes the site to BRINGUP and starts discovery; an invalid one installs the
defaults, takes the site to UNCONFIGURED and leaves the link OFF with reason UNCONFIGURED (R2, R21, R160, R211). Which bytes are VALID is
`judgeDescriptor`'s: that it does not examine a label's unused bytes is the model's choice (log entry 42). -/
def Obligations.DescriptorLoadInstalls : Prop :=
  ∀ (flash : List Byte) (s : State), s.scu.site = .loading → s.loadingQuiet →
    ∃ t, exec (.descriptorLoad flash) s = .next t
      ∧ (∀ k, (t.sli.events.get k).pending.has .siteState = true)
      ∧ t.tqm = s.tqm ∧ t.tsu = s.tsu ∧ t.gre.slots = s.gre.slots ∧ t.dsu = { s.dsu with load := t.dsu.load } ∧ t.inhibitsRight
      ∧ t.sli = { s.sli with access := t.sli.access, events := t.sli.events } ∧ t.tmu.site = s.tmu.site ∧ t.tmu.y = s.tmu.y
      ∧ (∀ tb, judgeDescriptor flash = .ok tb →
          t.tables = tb ∧ t.scu.tenants = some tb.tenants ∧ t.dsu.load = some .valid ∧ t.scu.site = .bringup
            ∧ t.lkc.state = .discovery .identify 1 ∧ t.lkc.outstanding = some ⟨.identify, 0, 100, s.lkc.sent⟩
            ∧ t.lkc.sent = s.lkc.sent + 1 ∧ t.emitted = s.emitted ++ [.odu .identify] ∧ (∀ k, (t.sli.events.get k).pending.has .linkState = true)
            ∧ t.tmu.pulseTimer = some 0 ∧ (t.tmu.gnss.qual = .disabled ↔ tb.time.gnssPriority = 0)
            ∧ (t.tmu.link.qual = .disabled ↔ tb.time.linkPriority = 0)
            ∧ t.scu.wait = some (if s.tmu.cls.meets tb.siteClass then .linkNotUp else .linkAndTime))
      ∧ ∀ f, judgeDescriptor flash = .error f →
          t.tables = defaultTables ∧ t.scu.tenants = some defaultTenants ∧ t.dsu.load = some (.defaults f)
            ∧ t.scu.site = .unconfigured ∧ t.lkc.state = .off .unconfigured ∧ t.emitted = s.emitted ∧ t.tmu.pulseTimer = some 0

/-- Tables in range, saved with the commit mark programmed, load back as they were (R211, R212, R214, R217). -/
def Obligations.DescriptorReadsBack : Prop :=
  ∀ t : Tables, t.inRange = true → judgeDescriptor (descriptorImage markCommitted t) = .ok t

/-- Every step keeps the tables in force in the ranges a descriptor holds, from the end of the load on: so a save of them loads back
(R210, R212, R214). And every step keeps the contracts: slot 0 ENABLED, the committed values of the slots that are not VACANT within the
commitment ceiling, and every committed value within its peak (R80, R82). -/
def Obligations.TablesStayInRange : Prop :=
  ∀ s t : State, step s = .next t → (s.tablesRight → t.tablesRight) ∧ (s.contractsKept → t.contractsKept)

/-- A save runs through ERASING, PROGRAMMING, VERIFYING and COMMITTING and ends OK where the commit mark reads back, FLASH_ERROR where the
read-back or the mark differs or the save timer stands at 3,000; SAVE_DONE goes to the requester's slot alone (R213 to R215). The flash's
bytes come with the commands (log entry 19). That a completion in another phase, one with no save in flight, and an expiry whose timer is
not at its limit have no effect is the model's choice (log entry 5), and so is that a completion in the phase is taken as this save's own,
a late one of an earlier save among them (log entry 39). -/
def Obligations.SavePhasesFollow : Prop :=
  ∀ s : State,
    (∀ (k : Slot) (tag : Byte), s.mayAsk k .siteControl → s.sli.lock = false →
      (s.dsu.save = none →
        exec (.saveDescriptor k tag []) s
          = .next (answer k tag .ok []
              { s with dsu := { s.dsu with save := some ⟨.erasing, k, descriptorImage markErased s.tables, 0⟩ },
                       emitted := s.emitted ++ [.flash .erase] }))
      ∧ (s.dsu.save.isSome = true → exec (.saveDescriptor k tag []) s = .next (answer k tag .busy [] s)))
    ∧ (s.dsu.save = none →
        exec .eraseComplete s = .next s ∧ exec .programComplete s = .next s ∧ (∀ back, exec (.verifyComplete back) s = .next s)
          ∧ (∀ mark, exec (.commitComplete mark) s = .next s) ∧ exec .saveTimerExpiry s = .next s)
    ∧ ∀ v : Save, s.dsu.save = some v →
        let ended (good : Bool) : State :=
          raiseIn .saveDone v.requester { s with dsu := { s.dsu with save := none, last := some ⟨v.requester, good, s.tmu.site⟩ } }
        let entered (p : SavePhase) (c : FlashCommand) : State :=
          { s with dsu := { s.dsu with save := some { v with phase := p } }, emitted := s.emitted ++ [.flash c] }
        (exec .eraseComplete s = .next (if v.phase = .erasing then entered .programming (.program (v.snapshot.drop 12) (v.snapshot.take 12)) else s))
        ∧ (exec .programComplete s = .next (if v.phase = .programming then entered .verifying .readBack else s))
        ∧ (∀ back, exec (.verifyComplete back) s
            = .next (if v.phase = .verifying then (if back = v.snapshot then entered .committing .programMark else ended false) else s))
        ∧ (∀ mark, exec (.commitComplete mark) s
            = .next (if v.phase = .committing then ended (decide (mark = 0xA5)) else s))
        ∧ exec .saveTimerExpiry s = .next (if 3000 ≤ v.timer then ended false else s)

/-- The five outcomes of the bring-up step in BRINGUP, and no effect in another state (R3, R4, R5). A taken SET_SITE_CLASS and a taken
SET_ACCEPTANCE_SET replace what they name and nothing else outside BRINGUP; in BRINGUP the bring-up step follows (R9, R10). -/
def Obligations.BringupStepAndSettings : Prop :=
  (∀ s : State,
    (s.scu.site ≠ .bringup → bringupStep s = s)
    ∧ (s.scu.site = .bringup →
        (¬(s.lkc.state = .up ∧ s.siteClassMet = true) →
          bringupStep s
            = { s with scu := { s.scu with
                  wait := some (if s.lkc.state = .up then .timeClass else if s.siteClassMet then .linkNotUp else .linkAndTime) } })
        ∧ (s.lkc.state = .up → s.siteClassMet = true →
            let n := s.scu.acceptanceSet.length
            let free := 8 - s.tsu.orders.length
            (n = 0 →
              (bringupStep s).scu.site = .inService ∧ (bringupStep s).scu.entry = some .emptySet ∧ (bringupStep s).scu.wait = none
                ∧ (bringupStep s).tsu = s.tsu)
            ∧ (0 < n → free < n →
                bringupStep s = { s with scu := { s.scu with wait := some (.queueFull n free) } })
            ∧ (0 < n → n ≤ free →
                ∃ placed : List Order,
                  (bringupStep s).tsu.queued = s.tsu.queued ++ placed ∧ (bringupStep s).tsu.running = s.tsu.running
                    ∧ placed.map Order.test = s.scu.acceptanceSet ∧ (∀ o ∈ placed, o.requester = .site)
                    ∧ ((s.tsu.orders.map Order.id).Nodup → ((bringupStep s).tsu.orders.map Order.id).Nodup)
                    ∧ (bringupStep s).scu.tracking.map Tracked.order = s.scu.tracking.map Tracked.order ++ placed.map Order.id
                    ∧ (bringupStep s).scu.tracking.map Tracked.template = s.scu.tracking.map Tracked.template ++ List.range n
                    ∧ (bringupStep s).scu.site = .acceptance ∧ (bringupStep s).scu.wait = none))))
  ∧ ∀ (k : Slot) (tag : Byte) (ps : List Byte) (s : State), s.mayAsk k .siteControl → s.noIdleQueue →
    (∀ c : TimeClass, classParam ps = some c →
      (s.scu.site ≠ .bringup →
        exec (.setSiteClass k tag ps) s = .next (answer k tag .ok [] { s with scu := { s.scu with siteClass := c } }))
      ∧ (s.scu.site = .bringup →
          exec (.setSiteClass k tag ps) s
            = .next (answer k tag .ok [] (settle (bringupStep { s with scu := { s.scu with siteClass := c } })))))
    ∧ (∀ ts : List Test, s.sli.lock = false → templateParams ps = some ts →
        (6 < ts.length → exec (.setAcceptanceSet k tag ps) s = .next (answer k tag .badValue [] s))
        ∧ (ts.length ≤ 6 → s.scu.site ≠ .bringup →
            exec (.setAcceptanceSet k tag ps) s = .next (answer k tag .ok [] { s with scu := { s.scu with acceptanceSet := ts } }))
        ∧ (ts.length ≤ 6 → s.scu.site = .bringup →
            exec (.setAcceptanceSet k tag ps) s
              = .next (answer k tag .ok [] (settle (bringupStep { s with scu := { s.scu with acceptanceSet := ts } })))))

/-- BEGIN_BRINGUP is refused WRONG_STATE outside UNCONFIGURED, and BAD_VALUE with the failing check, in order; taken, it enters BRINGUP
and starts discovery (R11, R44). The form of the refusal's data is the model's choice (log entry 4). -/
def Obligations.BeginBringupChecksThenStarts : Prop :=
  ∀ (k : Slot) (tag : Byte) (s : State), s.mayAsk k .siteControl →
    (s.scu.site ≠ .unconfigured → exec (.beginBringup k tag []) s = .next (answer k tag .wrongState [] s))
    ∧ (s.scu.site = .unconfigured →
        let noSource := s.tmu.params.gnssPriority = 0 ∧ s.tmu.params.linkPriority = 0
        let oneSource := s.tmu.params.gnssPriority = 0 ∨ s.tmu.params.linkPriority = 0
        (∀ i, s.scu.acceptanceSet.findIdx? s.loopsVacant = some i →
          exec (.beginBringup k tag []) s = .next (answer k tag .badValue [.num 1 1, .num 1 i] s))
        ∧ (s.scu.acceptanceSet.findIdx? s.loopsVacant = none → s.scu.siteClass ≠ .none → noSource →
            exec (.beginBringup k tag []) s = .next (answer k tag .badValue [.num 1 2] s))
        ∧ (∀ i, s.scu.acceptanceSet.findIdx? s.loopsVacant = none → ¬(s.scu.siteClass ≠ .none ∧ noSource) → oneSource →
            s.scu.acceptanceSet.findIdx? Test.isCompare = some i →
            exec (.beginBringup k tag []) s = .next (answer k tag .badValue [.num 1 3, .num 1 i] s))
        ∧ (s.scu.acceptanceSet.findIdx? s.loopsVacant = none → ¬(s.scu.siteClass ≠ .none ∧ noSource) →
            ¬(oneSource ∧ (s.scu.acceptanceSet.findIdx? Test.isCompare).isSome = true) →
            ∃ t, exec (.beginBringup k tag []) s = .next (answer k tag .ok [] t)
              ∧ t.scu.site = .bringup ∧ t.lkc.state = .discovery .identify 1
              ∧ (∃ n, s.lkc.sent ≤ n ∧ t.lkc.outstanding = some ⟨.identify, 0, 100, n⟩ ∧ t.lkc.sent = n + 1)
              ∧ (t.scu.wait = some .linkNotUp ∨ t.scu.wait = some .linkAndTime)
              ∧ (∀ j, (t.sli.events.get j).pending.has .siteState = true ∧ (t.sli.events.get j).pending.has .linkState = true)
              ∧ s.recordsStand t ∧ t.tmu.site = s.tmu.site))

/-- RETRY_ACCEPTANCE in ACCEPT_FAILED (R12): an empty set enters IN_SERVICE, a set with no room is refused FULL, and with a test running the
set joins the queue and ACCEPTANCE is entered. With none running the first entry starts at once where its start condition holds (R166);
where it does not, it completes NOT_RUN, which returns the site to ACCEPT_FAILED with the first template's failure (R6, R183). -/
def Obligations.RetryAcceptanceQueuesTheSet : Prop :=
  ∀ (k : Slot) (tag : Byte) (s : State), s.mayAsk k .siteControl →
    (s.scu.site ≠ .acceptFailed → exec (.retryAcceptance k tag []) s = .next (answer k tag .wrongState [] s))
    ∧ (s.scu.site = .acceptFailed → s.scu.acceptanceSet = [] →
        ∃ t, exec (.retryAcceptance k tag []) s = .next (answer k tag .ok [] t)
          ∧ t.scu.site = .inService ∧ t.scu.entry = some .emptySet ∧ t.scu.failure = none
          ∧ t = { s with scu := t.scu, sli := { s.sli with events := t.sli.events } } ∧ s.recordsStand t)
    ∧ (s.scu.site = .acceptFailed → 8 < s.tsu.orders.length + s.scu.acceptanceSet.length → s.scu.acceptanceSet ≠ [] →
        exec (.retryAcceptance k tag []) s = .next (answer k tag .full [] s))
    ∧ (s.scu.site = .acceptFailed → s.tsu.orders.length + s.scu.acceptanceSet.length ≤ 8 → s.scu.acceptanceSet ≠ [] →
        s.tsu.running.isSome = true →
        ∃ t, exec (.retryAcceptance k tag []) s = .next (answer k tag .ok [] t)
          ∧ t.scu.site = .acceptance ∧ t.scu.failure = none ∧ t.tsu.running = s.tsu.running
          ∧ t.tsu.queued.map Order.test = s.tsu.queued.map Order.test ++ s.scu.acceptanceSet
          ∧ t.scu.tracking.length = s.scu.tracking.length + s.scu.acceptanceSet.length
          ∧ s.recordsStand t ∧ t.lkc = s.lkc ∧ t.tqm = s.tqm ∧ t.tmu = s.tmu ∧ t.tsu.log = s.tsu.log)
    ∧ ∀ (first : Test) (rest : List Test), s.scu.site = .acceptFailed → s.scu.acceptanceSet = first :: rest → rest.length < 8 →
        s.tsu.running = none → s.noIdleQueue → s.scu.tracking = [] →
        ∃ t, exec (.retryAcceptance k tag []) s = .next (answer k tag .ok [] t)
          ∧ s.recordsStand t ∧ t.lkc = s.lkc ∧ t.tmu = s.tmu
          ∧ (s.startable first = true →
              t.scu.site = .acceptance ∧ t.scu.failure = none ∧ t.tsu.log = s.tsu.log ∧ t.scu.tracking.length = rest.length + 1
                ∧ t.tsu.running = some ⟨⟨s.tsu.newId, .site, first⟩, first.progress⟩ ∧ t.tsu.queued.map Order.test = rest)
          ∧ (s.startable first = false →
              t.scu.site = .acceptFailed ∧ t.scu.failure = some ⟨0, s.tsu.newId, first, .notRun⟩ ∧ t.scu.tracking = []
                ∧ ∀ n, s.tsu.nextSeq = some n →
                    ∃ e ∈ t.tsu.log, e.seq = n ∧ e.order = ⟨s.tsu.newId, .site, first⟩ ∧ e.outcome = .notRun ∧ e.measures = {})

/-- FORCE_SERVICE in ACCEPTANCE and ACCEPT_FAILED sets IN_SERVICE with service entry FORCED and clears the tracking list; the failure
field, the orders and all else stand, and an order that ends later is not tracked; in any other state it is refused WRONG_STATE, and
without SITE_CONTROL it is refused DENIED (R13, R17, R19). -/
def Obligations.ForceServiceEntersService : Prop :=
  ∀ (k : Slot) (tag : Byte) (s : State), s.mayAsk k .siteControl →
    (s.scu.site ≠ .acceptance → s.scu.site ≠ .acceptFailed →
      exec (.forceService k tag []) s = .next (answer k tag .wrongState [] s))
    ∧ (∀ j : Slot, s.standing j = true → s.holds j .siteControl = false →
        exec (.forceService j tag []) s = .next (answer j tag .denied [] s))
    ∧ (s.scu.site = .acceptance ∨ s.scu.site = .acceptFailed →
        ∃ t, exec (.forceService k tag []) s = .next (answer k tag .ok [] t)
          ∧ t.scu = { s.scu with site := .inService, entry := some .forced, tracking := [], wait := none, inhibit := t.scu.inhibit }
          ∧ t.inhibitsRight ∧ (∀ j, (t.sli.events.get j).pending.has .siteState = true)
          ∧ t = { s with scu := t.scu, sli := { s.sli with events := t.sli.events } }
          ∧ ∀ o out, reportCompletion o out t = t)

/-- SET_COMMIT_CEILING (R83): without SITE_CONTROL refused DENIED, under the lock LOCKED, above 4,095 BAD_VALUE, below the present sum
OVERCOMMIT; otherwise the ceiling alone is replaced. What a grant pass reads of the slots does not depend on the ceiling. -/
def Obligations.CommitCeilingReplaced : Prop :=
  ∀ (k : Slot) (tag : Byte) (n : Nat) (ts : PerSlot TenantRec) (s : State), s.standing k = true → s.scu.tenants = some ts → n < 65536 →
    let taken : State := { s with scu := { s.scu with ceiling := n } }
    (s.holds k .siteControl = false → exec (.setCommitCeiling k tag (toBE 2 n)) s = .next (answer k tag .denied [] s))
    ∧ (s.holds k .siteControl = true → s.sli.lock = true →
        exec (.setCommitCeiling k tag (toBE 2 n)) s = .next (answer k tag .locked [] s))
    ∧ (s.holds k .siteControl = true → s.sli.lock = false →
        (4095 < n → exec (.setCommitCeiling k tag (toBE 2 n)) s = .next (answer k tag .badValue [] s))
        ∧ (n ≤ 4095 → n < commitSum ts → exec (.setCommitCeiling k tag (toBE 2 n)) s = .next (answer k tag .overcommit [] s))
        ∧ (n ≤ 4095 → commitSum ts ≤ n → exec (.setCommitCeiling k tag (toBE 2 n)) s = .next (answer k tag .ok [] taken)))
    ∧ taken.entrants = s.entrants

/-- A site reset across the blocks (R14, R45, R79, R118, R134, R180, R209): the site returns to BRINGUP or stays UNCONFIGURED with its
fields absent, the queues are flushed with their counters kept, the grant records are cleared with their counters kept, the orders end, the
link restarts discovery or stays OFF with LOOP_OFF sent from HELD, and the tables, the lock, the strap, site time, the frame number and the
id counter stand. Every pending set is emptied first: what stands after is SITE_STATE, LINK_STATE of an entry to a link state, TEST_DONE of
the running order in its requester and in slot 0, and what follows the missing outcome of an exchange in flight that a departure ended,
SOURCE, TIME_QUALITY or TIME_UNFIT (R14, R209; that the last counts within the reset is log entry 30). The order of the blocks is the
model's reading (log entry 11), and so are which of the two entries to OFF raises LINK_STATE (log entry 16), that a frame filled in UP just
before it and not sent is discarded (log entry 12), and that the idle frames filled in ACQUIRING and not sent are (log entry 36). -/
def Obligations.SiteResetRestartsTheBlocks : Prop :=
  ∀ (k : Slot) (tag : Byte) (s : State), s.mayAsk k .siteControl →
    ∃ t, exec (.siteReset k tag []) s = .next (answer k tag .ok [] t)
      ∧ t.scu.site = (if s.scu.site = .unconfigured then .unconfigured else .bringup)
      ∧ t.scu.tracking = [] ∧ t.scu.failure = none ∧ t.scu.entry = none
      ∧ (∀ j, (t.tqm.get j).express = [] ∧ (t.tqm.get j).bulk = [] ∧ (t.tqm.get j).egress = none
          ∧ (t.tqm.get j).nextSeq = (s.tqm.get j).nextSeq ∧ (t.tqm.get j).accepted = (s.tqm.get j).accepted
          ∧ (t.tqm.get j).droppedFull = (s.tqm.get j).droppedFull ∧ (t.tqm.get j).malformed = (s.tqm.get j).malformed
          ∧ (t.tqm.get j).egressDiscarded = (s.tqm.get j).egressDiscarded
          ∧ t.gre.slots.get j
            = { committed := (s.gre.slots.get j).committed, surplus := (s.gre.slots.get j).surplus,
                shortFrames := (s.gre.slots.get j).shortFrames }
          ∧ (let x := t.sli.events.get j
             x.enabled = (s.sli.events.get j).enabled ∧ x.attention = attentionLevel x.pending x.enabled
              ∧ x.pending.has .siteState = true
              ∧ (x.pending.has .linkState = true ↔ ¬(s.scu.site = .unconfigured ∧ s.lkc.state = .off .unconfigured))
              ∧ (x.pending.has .testDone = true ↔ ∃ r, s.tsu.running = some r ∧ (j = 0 ∨ r.order.requester = .slot j))
              ∧ ∀ e, x.pending.has e = true → e ∉ [EventKind.siteState, .linkState, .testDone] →
                  e ∈ [EventKind.source, .timeQuality, .timeUnfit] ∧ s.lkc.state.carries = true ∧ s.tmu.exchange.isSome = true))
      ∧ (let off : List Emission := if s.lkc.state.isHeld then [.odu .loopOff] else []
         (s.scu.site = .unconfigured → t.emitted = s.emitted ++ off)
          ∧ (s.scu.site ≠ .unconfigured → t.emitted = s.emitted ++ off ++ [.odu .identify]
              ∧ t.lkc.outstanding = some ⟨.identify, 0, 100, s.lkc.sent + off.length⟩ ∧ t.lkc.sent = s.lkc.sent + off.length + 1))
      ∧ t.sli.links = s.sli.links ∧ t.tsu.running = none ∧ t.tsu.queued = [] ∧ t.tsu.nextId = s.tsu.nextId
      ∧ (s.tsu.running = none → t.tsu.log = s.tsu.log)
      ∧ (∀ r n, s.tsu.running = some r → s.tsu.nextSeq = some n →
          ∃ e, t.tsu.log.getLast? = some e ∧ e.seq = n ∧ e.order = r.order ∧ e.outcome = .aborted .siteReset)
      ∧ t.lkc.state = (if s.scu.site = .unconfigured then .off .unconfigured else .discovery .identify 1)
      ∧ (¬(s.scu.site = .unconfigured ∧ s.lkc.state = .off .unconfigured) →
          t.lkc.unsent = [] ∧ t.lkc.odu = none ∧ t.lkc.ladder = none ∧ t.lkc.source = none ∧ t.lkc.rung = 0 ∧ t.lkc.notice = none
            ∧ t.lkc.voided = none ∧ t.lkc.upCount = 0 ∧ t.lkc.near = none ∧ t.lkc.far = none ∧ t.lkc.effective = none)
      ∧ (s.lkc.state.carries = true → t.tmu.exchange = none)
      ∧ t.tables = s.tables ∧ t.sli.lock = s.sli.lock ∧ t.sli.strap = s.sli.strap ∧ t.tmu.site = s.tmu.site
      ∧ t.lkc.frame = s.lkc.frame ∧ t.lkc.losses = s.lkc.losses ∧ t.dsu = s.dsu

/-- A slot reset empties the slot's event record, queues, counters and grant record, and with no order held nothing else changes (R79, R94,
R119, R209). The other slots keep their grant records and enable sets, their pending sets lose no kind, and their traffic records stand but
for the egress partial of a slot whose PORT_LOOP starts (R168). Of the orders (R181) the slot's own queued ones are removed; its running
order, or a PORT_LOOP running on the slot, ends ABORTED(TENANT_RESET) with its entry and TEST_DONE, its entry the last of the log where no
other order is held or placed; of its LINK_LOOP whose hold is taken the abort is decided, unless an outcome stands, and the loop is asked to
end (R176); any other running order and the others' queued ones stay. CLEAR_COUNTERS clears the seven counters of the slot alone (R93). -/
def Obligations.SlotResetAndClearCounters : Prop :=
  ∀ (k target : Slot) (tag : Byte) (s : State), s.standing k = true →
    ((target = k ∨ s.holds k .siteControl = true) →
      ∃ t, exec (.tenantReset k tag [BitVec.ofNat 8 target.val]) s = .next (answer k tag .ok [] t)
        ∧ (∀ o ∈ t.tsu.queued, o.requester ≠ .slot target)
        ∧ (t.sli.events.get target).enabled = {} ∧ (t.sli.events.get target).attention = false
        ∧ (∀ j, j ≠ target → (t.sli.events.get j).enabled = (s.sli.events.get j).enabled
            ∧ (∀ e, (s.sli.events.get j).pending.has e = true → (t.sli.events.get j).pending.has e = true)
            ∧ (t.tqm.get j = s.tqm.get j ∨ (t.loopSubject = some j ∧ t.tqm.get j = (s.tqm.get j).discardEgress)))
        ∧ t.tqm.get target = { nextSeq := (s.tqm.get target).nextSeq }
        ∧ t.gre = { s.gre with slots := s.gre.slots.set target {} } ∧ t.tmu = s.tmu ∧ s.tablesStand t
        ∧ ((∀ p, s.loopProgress ≠ some p) → t.lkc = s.lkc ∧ t.emitted = s.emitted)
        ∧ (∀ r : Running, s.tsu.running = some r →
            let own := r.order.requester = .slot target
            let ends : Prop := ∀ n, (∀ o ∈ s.tsu.queued, o.requester = .slot target) → s.scu.site ≠ .bringup → s.tsu.nextSeq = some n →
              t.tsu.orders = [] ∧ (t.sli.events.get 0).pending.has .testDone = true
                ∧ (∀ j, r.order.requester = .slot j → (t.sli.events.get j).pending.has .testDone = true)
                ∧ ∃ e, t.tsu.log.getLast? = some e ∧ e.seq = n ∧ e.order = r.order ∧ e.outcome = .aborted .tenantReset
                    ∧ e.time = s.tmu.site ∧ e.measures = measuresOf r.order r.progress
            (own → (∀ p, r.progress ≠ .linkLoop p) → ends)
            ∧ (¬own → s.loopSubject = some target → ends)
            ∧ (∀ p, own → r.progress = .linkLoop p → p.held = false → p.decided = none → ends ∧ t.lkc = s.lkc ∧ t.emitted = s.emitted)
            ∧ (∀ p, own → r.progress = .linkLoop p → p.held = true →
                t.tsu.log = s.tsu.log
                  ∧ (p.decided = none → t.loopProgress = some { p with decided := some (.aborted .tenantReset) } ∧ s.endsLoopEarly t)
                  ∧ (p.decided.isSome = true → t.loopProgress = some p ∧ t.lkc = s.lkc ∧ t.emitted = s.emitted))
            ∧ (¬own → s.loopSubject ≠ some target → s.scu.site ≠ .bringup →
                t.tsu = { s.tsu with queued := s.tsu.queued.filter (fun o => decide (o.requester ≠ .slot target)) } ∧ t.lkc = s.lkc))
        ∧ (s.tsu.orders = [] →
            t = { s with
              sli := { s.sli with events := s.sli.events.set target ⟨{}, {}, false⟩ },
              tqm := s.tqm.set target { nextSeq := (s.tqm.get target).nextSeq },
              gre := { s.gre with slots := s.gre.slots.set target {} } }))
    ∧ ((target = k ∨ s.holds k .shareControl = true) →
        exec (.clearCounters k tag [BitVec.ofNat 8 target.val]) s
          = .next (answer k tag .ok []
              { s with
                tqm := s.tqm.modify target (fun r => { r with accepted := 0, droppedFull := 0, malformed := 0, egressDiscarded := 0 }),
                gre := { s.gre with
                  slots := s.gre.slots.modify target (fun r => { r with committed := 0, surplus := 0, shortFrames := 0 }) } }))

/-- Every step keeps each inhibit line released exactly when its slot is ENABLED and time-fit in a site state that releases it: for slot 0
any but LOADING, for an operator slot IN_SERVICE (R18, R19). Every step keeps each slot that is not VACANT fit exactly while the published
class meets its required class, and a VACANT one fit (R90; a VACANT slot's fitness: log entry 25). A step that changes the published class
raises TIME_QUALITY in every slot (R129), and one that takes a slot from fit to unfit raises TIME_UNFIT in it (R90); a power-on reset raises
neither, and the load judges the first fitness without an event. The class derived afresh is published only where it differs, each slot that
is not VACANT is then judged against it, a VACANT one is not, and TIME_UNFIT is raised at no other slot. -/
def Obligations.FitnessAndLinesFollow : Prop :=
  (∀ s t : State, step s = .next t →
    (s.inhibitsRight → t.inhibitsRight) ∧ (s.fitnessRight → t.fitnessRight)
      ∧ ((∀ b, s.pending.head? ≠ some (.powerOnReset b)) →
          (t.tmu.cls ≠ s.tmu.cls → ∀ j, (t.sli.events.get j).pending.has .timeQuality = true)
          ∧ ((∀ flash, s.pending.head? ≠ some (.descriptorLoad flash)) →
              ∀ k, s.scu.fit.get k = true → t.scu.fit.get k = false → (t.sli.events.get k).pending.has .timeUnfit = true)))
  ∧ ∀ (ts : PerSlot TenantRec) (s : State), s.scu.tenants = some ts →
      let t := deriveClass s
      (s.tmu.derivedClass = s.tmu.cls → t = s)
      ∧ (s.tmu.derivedClass ≠ s.tmu.cls →
          t.tmu = { s.tmu with cls := s.tmu.derivedClass } ∧ t.inhibitsRight ∧ t.lkc = s.lkc ∧ t.gre = s.gre ∧ s.tablesStand t
            ∧ ∀ k, (t.sli.events.get k).pending.has .timeQuality = true
              ∧ ((ts.get k).state = .vacant → t.scu.fit.get k = s.scu.fit.get k)
              ∧ ((ts.get k).state ≠ .vacant → t.scu.fit.get k = s.tmu.derivedClass.meets (ts.get k).required)
              ∧ (t.sli.events.get k).pending.has .timeUnfit
                = ((s.sli.events.get k).pending.has .timeUnfit || (s.scu.fit.get k && !t.scu.fit.get k)))

/-- What SCU makes of a completion in ACCEPTANCE (R6, R7): a pass removes the entry and the last one enters IN_SERVICE with ACCEPTED;
another outcome enters ACCEPT_FAILED with the failure; an order of a slot, or one not tracked, changes nothing. -/
def Obligations.AcceptanceIsFollowed : Prop :=
  ∀ (o : Order) (out : TestOutcome) (s : State), s.scu.site = .acceptance →
    (o.requester ≠ .site → reportCompletion o out s = s)
    ∧ ((∀ e ∈ s.scu.tracking, e.order ≠ o.id) → reportCompletion o out s = s)
    ∧ ∀ (l1 l2 : List Tracked) (e : Tracked), s.scu.tracking = l1 ++ e :: l2 → e.order = o.id →
        (∀ x ∈ l1 ++ l2, x.order ≠ o.id) → o.requester = .site → out ≠ .aborted .siteReset →
        (out = .pass → l1 ++ l2 ≠ [] → reportCompletion o out s = { s with scu := { s.scu with tracking := l1 ++ l2 } })
        ∧ (out = .pass → l1 ++ l2 = [] →
            (reportCompletion o out s).scu.site = .inService ∧ (reportCompletion o out s).scu.entry = some .accepted
              ∧ (reportCompletion o out s).scu.tracking = [])
        ∧ (out ≠ .pass →
            (reportCompletion o out s).scu.site = .acceptFailed ∧ (reportCompletion o out s).scu.tracking = []
              ∧ (reportCompletion o out s).scu.failure = some ⟨e.template, o.id, o.test, out⟩)

/-- SET_SLOT_STATE of an operator slot (R77, R84, R85, R88, R89, R90): the record's state alone changes in the records, SUSPENDED discards
the egress partial, VACANT flushes the queues too and makes the slot fit, the inhibit lines follow, another slot's write raises
RECORD_CHANGED; a slot that may then not emit gives up the pulses waiting their delay, its level and last emitted second standing (R127);
leaving VACANT past the ceiling is refused OVERCOMMIT, and slot 0 is refused BAD_VALUE. That a VACANT slot is fit is the model's reading
(log entry 25), and so is that the waiting pulses are given up (log entry 15). -/
def Obligations.SlotStateIsSet : Prop :=
  ∀ (k target : Slot) (tag : Byte) (new : SlotState) (ts : PerSlot TenantRec) (ps : List Byte) (s : State),
    slotStateParams ps = some (target.val, new) → s.scu.tenants = some ts → s.mayAsk k (s.slotStateClass ps) →
    (target = 0 → exec (.setSlotState k tag ps) s = .next (answer k tag .badValue [] s))
    ∧ (target ≠ 0 → (ts.get target).state = new →
        exec (.setSlotState k tag ps) s = .next (answer k tag .ok [] (if k = target then s else raiseIn .recordChanged target s)))
    ∧ (target ≠ 0 → (ts.get target).state = .vacant → new ≠ .vacant →
        s.scu.ceiling < commitSum (ts.modify target fun r => { r with state := new }) →
        exec (.setSlotState k tag ps) s = .next (answer k tag .overcommit [] s))
    ∧ (target ≠ 0 → (ts.get target).state ≠ new →
        ((ts.get target).state = .vacant → commitSum (ts.modify target fun r => { r with state := new }) ≤ s.scu.ceiling) →
        ∃ t, exec (.setSlotState k tag ps) s = .next (answer k tag .ok [] t)
          ∧ t.scu.tenants = some (ts.modify target fun r => { r with state := new }) ∧ t.inhibitsRight
          ∧ t.scu.fit.get target
            = (if new = .vacant then true
               else if (ts.get target).state = .vacant then s.tmu.cls.meets (ts.get target).required else s.scu.fit.get target)
          ∧ (new = .enabled → t.tqm = s.tqm)
          ∧ (new = .suspended → t.tqm = s.tqm.modify target Traffic.discardEgress)
          ∧ (new = .vacant → t.tqm = s.tqm.modify target (fun r => { r with express := [], bulk := [] }.discardEgress))
          ∧ (k ≠ target → (t.sli.events.get target).pending.has .recordChanged = true)
          ∧ t.tmu = { s.tmu with pps :=
              if new = .enabled ∧ (ts.get target).ppsOn = true then s.tmu.pps
              else s.tmu.pps.modify target (fun g => { g with delayed := [] }) }
          ∧ t.gre = s.gre ∧ t.lkc = s.lkc ∧ t.tsu = s.tsu ∧ t.dsu = s.dsu ∧ t.scu.site = s.scu.site)

/-- WRITE_SHARE and WRITE_TUNING: a write that is in range, and for a contract within the ceiling, changes the named fields of the record
(R86, R87, R89, R90); one past the ceiling is refused OVERCOMMIT; another slot's write raises RECORD_CHANGED. A WRITE_SHARE that names
weight and priority alone passes the lock, and one that names the committed value or the peak is refused LOCKED (R86). A write of the PPS
offset takes away a crossing of the slot's shifted time not yet taken (R126; log entry 6), and with its PPS enable off, or not ENABLED, the
slot gives up the pulses waiting their delay, its level and last emitted second standing (R127; log entry 15). -/
def Obligations.SharesAndTuningWritten : Prop :=
  ∀ (k target : Slot) (tag : Byte) (ts : PerSlot TenantRec) (ps : List Byte) (s : State), s.scu.tenants = some ts →
    (∀ w : ShareWrite, shareParams ps = some w → w.target = target.val → s.mayAsk k .shareControl →
        (s.sli.lock = true → w.q.isSome = true ∨ w.p.isSome = true → exec (.writeShare k tag ps) s = .next (answer k tag .locked [] s)))
    ∧ (∀ w : ShareWrite, shareParams ps = some w → w.target = target.val → s.mayAsk k .shareControl →
        s.sli.lock = false ∨ (w.q = none ∧ w.p = none) →
      (w.valid (ts.get target) = false → exec (.writeShare k tag ps) s = .next (answer k tag .badValue [] s))
      ∧ (w.valid (ts.get target) = true → (ts.get target).state ≠ .vacant → s.scu.ceiling < commitSum (ts.modify target w.into) →
          exec (.writeShare k tag ps) s = .next (answer k tag .overcommit [] s))
      ∧ (w.valid (ts.get target) = true →
          ((ts.get target).state = .vacant ∨ commitSum (ts.modify target w.into) ≤ s.scu.ceiling) →
          let t := { s with scu := { s.scu with tenants := some (ts.modify target w.into) } }
          exec (.writeShare k tag ps) s
            = .next (answer k tag .ok [] (if k = target then t else raiseIn .recordChanged target t))))
    ∧ ∀ w : TuningWrite, tuningParams ps = some w → w.target = target.val → s.standing k = true →
        (s.holds k .shareControl = true ∨ (target = k ∧ s.holds k .ownTuning = true)) →
        (w.valid = false → exec (.writeTuning k tag ps) s = .next (answer k tag .badValue [] s))
        ∧ (w.valid = true →
            ∃ t, exec (.writeTuning k tag ps) s = .next (answer k tag .ok [] t)
              ∧ t.scu.tenants = some (ts.modify target w.into)
              ∧ (w.cls = none → t.scu.fit = s.scu.fit ∧ t.scu.inhibit = s.scu.inhibit)
              ∧ (∀ c, w.cls = some c → (ts.get target).state ≠ .vacant → t.scu.fit.get target = s.tmu.cls.meets c ∧ t.inhibitsRight)
              ∧ (k ≠ target → (t.sli.events.get target).pending.has .recordChanged = true)
              ∧ t.tmu = { s.tmu with
                  crossed := { s.tmu.crossed with pulses :=
                    if w.offset.isSome = true then s.tmu.crossed.pulses.set target none else s.tmu.crossed.pulses }
                  pps :=
                    if (ts.get target).state = .enabled ∧ w.on.getD (ts.get target).ppsOn = true then s.tmu.pps
                    else s.tmu.pps.modify target (fun g => { g with delayed := [] }) }
              ∧ t.tqm = s.tqm ∧ t.gre = s.gre ∧ t.lkc = s.lkc ∧ t.tsu = s.tsu ∧ t.dsu = s.dsu ∧ t.scu.ceiling = s.scu.ceiling)


/-! ## The radio link (chapters 2 and 3) -/

/-- LINK_RESTART is refused WRONG_STATE in HELD and otherwise enters DISCOVERY: IDENTIFY is sent, the link record is cleared but for the
frame number, the losses, the limits and the profiles, LINK_STATE is raised, and a departure from UP reaches the queues and the exchange
(R24, R38, R43, R46, R72, R142). That frames filled in ACQUIRING and not yet sent are discarded too is the model's choice (log entry 36). -/
def Obligations.LinkRestartEntersDiscovery : Prop :=
  ∀ (k : Slot) (tag : Byte) (s : State), s.mayAsk k .linkControl → s.noIdleQueue →
    (s.lkc.state.isHeld = true → exec (.linkRestart k tag []) s = .next (answer k tag .wrongState [] s))
    ∧ (s.lkc.state.isHeld = false →
        ∃ t, exec (.linkRestart k tag []) s = .next (answer k tag .ok [] t)
          ∧ t.lkc = { s.lkc with
              state := .discovery .identify 1, odu := none, ladder := none, source := none, outstanding := some ⟨.identify, 0, 100, s.lkc.sent⟩,
              sent := s.lkc.sent + 1, rung := 0, syncMiss := 0, lowRun := 0, notice := none, voided := none, upCount := 0, near := none, far := none,
              effective := none, unsent := [] }
          ∧ t.emitted = s.emitted ++ [.odu .identify]
          ∧ (∀ j, (t.sli.events.get j).pending.has .linkState = true)
          ∧ t.tqm = (if s.lkc.state = .up then s.tqm.map Traffic.depart else s.tqm)
          ∧ (s.lkc.state = .up → t.tmu.exchange = none)
          ∧ s.recordsStand t ∧ t.tmu.site = s.tmu.site)

/-- The IDENTIFY step (R22, R25): the reply of the IDENTIFY outstanding sets the identity and sends READ_PAGE; its limit, once it has waited
100 local ms, sends IDENTIFY again, or after attempt 3 takes the link to OFF with NO_ODU. A reply of a command that has ended, or with no
IDENTIFY outstanding, and a limit not run out have no effect: so the late reply after a limit or a restart is discarded. That a reply
names the command it answers, and a stray limit does nothing, is the model's choice (log entries 28 and 5). -/
def Obligations.IdentifyStep : Prop :=
  ∀ s : State,
    (s.lkc.outstanding = none →
      (∀ n id, exec (.oduIdentifyReply n id) s = .next s) ∧ exec .identifyReplyLimit s = .next s)
    ∧ ∀ o : Outstanding, s.lkc.outstanding = some o →
        (∀ n id, o.cmd ≠ .identify ∨ n ≠ o.number → exec (.oduIdentifyReply n id) s = .next s)
        ∧ (o.cmd ≠ .identify ∨ o.elapsed < o.limit → exec .identifyReplyLimit s = .next s)
        ∧ (∀ id, o.cmd = .identify →
            exec (.oduIdentifyReply o.number id) s
              = .next { s with
                  lkc := { s.lkc with
                    odu := some id, state := .discovery .readPage 1, outstanding := some ⟨.readPage, 0, 100, s.lkc.sent⟩,
                    sent := s.lkc.sent + 1 },
                  emitted := s.emitted ++ [.odu .readPage] })
        ∧ ∀ n, o.cmd = .identify → o.limit ≤ o.elapsed → s.lkc.state = .discovery .identify n →
            (n < 3 → exec .identifyReplyLimit s
              = .next { s with
                  lkc := { s.lkc with
                    state := .discovery .identify (n + 1), outstanding := some ⟨.identify, 0, 100, s.lkc.sent⟩,
                    sent := s.lkc.sent + 1 },
                  emitted := s.emitted ++ [.odu .identify] })
            ∧ (3 ≤ n → ∃ t, exec .identifyReplyLimit s = .next t
                ∧ t.lkc = { s.lkc with
                    state := .off .noOdu, outstanding := none, near := none, far := none, effective := none,
                    losses := { s.lkc.losses with noOdu := satInc s.lkc.losses.noOdu } }
                ∧ (∀ j, (t.sli.events.get j).pending.has .linkState = true) ∧ t.emitted = s.emitted ∧ t.tmu = s.tmu
                ∧ s.recordsStand t)

/-- The READ_PAGE step (R22, R26, R28, R29): a valid page of the identified ODU gives the ladder, a page that is invalid or of another ODU,
or none after attempt 3, leaves it to the profile of the identity; a consistent ladder enters ACQUIRING at rung 0, and no ladder or an
inconsistent one takes the link to OFF with NO_PROFILE. A reply of a command that has ended, or with no READ_PAGE outstanding, and a limit
not run out have no effect. That a reply names the command it answers, that a stray limit does nothing, and that the ODU's identity stands
in OFF are the model's choices (log entries 28, 5 and 16). -/
def Obligations.ReadPageStep : Prop :=
  ∀ (id : OduId) (s : State), s.lkc.odu = some id →
    (s.lkc.outstanding = none →
      (∀ n page, exec (.readPageReply ⟨n, page⟩) s = .next s) ∧ exec .readPageReplyLimit s = .next s)
    ∧ ∀ o : Outstanding, s.lkc.outstanding = some o →
        (∀ n page, o.cmd ≠ .readPage ∨ n ≠ o.number → exec (.readPageReply ⟨n, page⟩) s = .next s)
        ∧ (o.cmd ≠ .readPage ∨ o.elapsed < o.limit → exec .readPageReplyLimit s = .next s)
        ∧ (∀ n, o.cmd = .readPage → o.limit ≤ o.elapsed → s.lkc.state = .discovery .readPage n → n < 3 →
            exec .readPageReplyLimit s
              = .next { s with
                  lkc := { s.lkc with
                    state := .discovery .readPage (n + 1), outstanding := some ⟨.readPage, 0, 100, s.lkc.sent⟩,
                    sent := s.lkc.sent + 1 },
                  emitted := s.emitted ++ [.odu .readPage] })
        ∧ ∀ (c : Instr) (built : Option (Ladder × LadderSource)), o.cmd = .readPage →
            ((∃ page p, c = .readPageReply ⟨o.number, page⟩ ∧ readPage page = some p ∧ p.id = id
                ∧ built = ladderFromPage p (matching s.lkc.profiles id))
              ∨ (∃ page, c = .readPageReply ⟨o.number, page⟩ ∧ (∀ p, readPage page = some p → p.id ≠ id)
                  ∧ built = ladderFromProfile (matching s.lkc.profiles id))
              ∨ (∃ n, c = .readPageReplyLimit ∧ o.limit ≤ o.elapsed ∧ s.lkc.state = .discovery .readPage n ∧ 3 ≤ n
                  ∧ built = ladderFromProfile (matching s.lkc.profiles id))) →
            ∃ t, exec c s = .next t ∧ (∀ j, (t.sli.events.get j).pending.has .linkState = true) ∧ t.emitted = s.emitted
              ∧ t.tmu = s.tmu ∧ s.recordsStand t
              ∧ (∀ l src, built = some (l, src) → l.consistent = true →
                  t.lkc = { s.lkc with state := .acquiring, outstanding := none, rung := 0, ladder := some l, source := some src })
              ∧ ((built = none ∨ ∃ l src, built = some (l, src) ∧ l.consistent = false) →
                  t.lkc = { s.lkc with
                    state := .off .noProfile, outstanding := none, near := none, far := none, effective := none,
                    losses := { s.lkc.losses with noProfile := satInc s.lkc.losses.noProfile } })

/-- How a valid page and a matching profile make a ladder, field by field (R27), and which ladders are consistent (R29): capacities and
down thresholds do not fall from rung to rung, and above rung 0 each down threshold is below its up threshold. -/
def Obligations.LadderIsMergedAndChecked : Prop :=
  (∀ (page : CapabilityPage) (entry : Option Profile),
    (∀ ths, page.thresholds = some ths → ths.length = page.capacities.length →
      ∃ l src, ladderFromPage page entry = some (l, src) ∧ l.rungs.map Rung.capacity = page.capacities
        ∧ l.rungs.map (fun r => (r.up, r.down)) = ths ∧ src.thresholds = .page)
    ∧ (∀ p, page.thresholds = none → entry = some p → p.ladder.rungs.length = page.capacities.length →
        ∃ l src, ladderFromPage page entry = some (l, src) ∧ l.rungs.map Rung.capacity = page.capacities
          ∧ l.rungs.map (fun r => (r.up, r.down)) = p.ladder.rungs.map (fun r => (r.up, r.down)) ∧ src.thresholds = .profile)
    ∧ (page.thresholds = none → (∀ p, entry = some p → p.ladder.rungs.length ≠ page.capacities.length) →
        ladderFromPage page entry = none)
    ∧ ∀ l src, ladderFromPage page entry = some (l, src) →
        l.loop = page.loop ∧ src.capacities = .page
          ∧ (l.asymmetry, src.asymmetry)
            = (match page.asymmetry, entry with
               | some a, _ => (a, .page)
               | none, some p => (p.ladder.asymmetry, .profile)
               | none, none => (0, .zero)))
  ∧ ∀ l : Ladder, l.consistent = true ↔
      (∀ (i : Nat) (a b : Rung), l.rungs[i]? = some a → l.rungs[i + 1]? = some b →
        a.capacity ≤ b.capacity ∧ a.down ≤ b.down ∧ b.down < b.up)

/-- The hold's phases (R22, R41, R42, R175): LOOP_ON confirmed enters LOOPING; its limit, run out, sends LOOP_OFF, enters LOOP_EXIT and
decides TIMEOUT unless an outcome stands; a looped frame awaited counts its errored PB once; LOOP_OFF confirmed returns to UP; its limit
enters LOST. At that end the order ends with the outcome decided, or PASS exactly where no PB was errored and no looped frame is still away,
and unconfirmed with TIMEOUT (R177, R183); its entry is the last of the log where no other order is held or placed. A confirmation with no
command of its kind outstanding, and a limit not run out, have no effect but on the model's count of late confirmations to come; while that
is not 0 a free value says whether a confirmation is of the command outstanding. That count, that a stray limit does nothing, when a looped
frame is judged, and the figure at which the PB errored saturate are the model's choices (log entries 28, 5, 12 and 40). -/
def Obligations.HoldPhasesFollow : Prop :=
  ∀ s : State,
    let late := s.lkc.late
    let counted (l : LateConfirms) : State := { s with lkc := { s.lkc with late := l } }
    ((∀ o, s.lkc.outstanding = some o → o.cmd ≠ .loopOn) →
      exec .loopOnConfirmed s = .next (counted { late with loopOn := late.loopOn - 1 }))
    ∧ ((∀ o, s.lkc.outstanding = some o → o.cmd ≠ .loopOff) →
        exec .loopOffConfirmed s = .next (counted { late with loopOff := late.loopOff - 1 }))
    ∧ (s.lkc.outstanding = none → exec .loopOnLimit s = .next s ∧ exec .loopOffLimit s = .next s)
    ∧ (∀ o : Outstanding, s.lkc.outstanding = some o →
        (o.cmd ≠ .loopOn ∨ o.elapsed < o.limit → exec .loopOnLimit s = .next s)
        ∧ (o.cmd ≠ .loopOff ∨ o.elapsed < o.limit → exec .loopOffLimit s = .next s)
        ∧ (o.cmd = .loopOn →
            let looping (l : LateConfirms) : State :=
              { s with lkc := { s.lkc with state := .held .looping, outstanding := none, late := l } }
            (late.loopOn = 0 → exec .loopOnConfirmed s = .next (looping late))
            ∧ (0 < late.loopOn →
                exec .loopOnConfirmed s
                  = .next (if Config.confirmsEarlier late.judged
                      then counted { late with loopOn := late.loopOn - 1, judged := late.judged + 1 }
                      else looping { late with judged := late.judged + 1 }))
            ∧ ∀ p, o.limit ≤ o.elapsed → s.loopProgress = some p →
                ∃ t, exec .loopOnLimit s = .next t
                  ∧ t.lkc = { s.lkc with
                      state := .held .loopExit, outstanding := some ⟨.loopOff, 0, s.lkc.confirmLimit, s.lkc.sent⟩, sent := s.lkc.sent + 1,
                      late := { late with loopOn := late.loopOn + 1 } }
                  ∧ t.emitted = s.emitted ++ [.odu .loopOff]
                  ∧ t.loopProgress = some { p with decided := some (p.decided.getD .timeout) }
                  ∧ t = { s with lkc := t.lkc, emitted := t.emitted, tsu := { s.tsu with running := t.tsu.running } })
        ∧ (o.cmd = .loopOff →
            let returned (l : LateConfirms) : Prop :=
              ∃ t, exec .loopOffConfirmed s = .next t
                ∧ t.lkc = { s.lkc with
                    state := .up, outstanding := none, looped := [], upCount := 0, syncMiss := 0, lowRun := 0, late := l }
                ∧ (∀ j, (t.sli.events.get j).pending.has .linkState = true) ∧ t.tmu = s.tmu ∧ t.emitted = s.emitted ∧ s.recordsStand t
            (late.loopOff = 0 → returned late)
            ∧ (0 < late.loopOff →
                if Config.confirmsEarlier late.judged
                then exec .loopOffConfirmed s = .next (counted { late with loopOff := late.loopOff - 1, judged := late.judged + 1 })
                else returned { late with judged := late.judged + 1 })
            ∧ (o.limit ≤ o.elapsed → ∃ t, exec .loopOffLimit s = .next t
              ∧ t.lkc = { s.lkc with
                  state := .lost 0, outstanding := none, notice := none, voided := none, upCount := 0, syncMiss := 0, lowRun := 0,
                  looped := [], far := none, unsent := [], losses := { s.lkc.losses with holdExit := satInc s.lkc.losses.holdExit },
                  late := { late with loopOff := late.loopOff + 1 } }
              ∧ (∀ j, (t.sli.events.get j).pending.has .linkState = true) ∧ t.tmu.site = s.tmu.site ∧ t.emitted = s.emitted
              ∧ s.recordsStand t)
            ∧ ∀ (x : Order) (p : LoopProgress) (n : Nat), s.tsu.running = some ⟨x, .linkLoop p⟩ → p.held = true → s.tsu.queued = [] →
                s.scu.site ≠ .bringup → s.tsu.nextSeq = some n → s.lkc.state = .held .loopExit →
                let ended (c : Instr) (out : TestOutcome) : Prop :=
                  ∃ t e, exec c s = .next t ∧ t.tsu.running = none ∧ t.tsu.log.getLast? = some e ∧ e.seq = n ∧ e.order = x
                    ∧ e.time = s.tmu.site ∧ e.outcome = out
                (late.loopOff = 0 →
                  ended .loopOffConfirmed (p.decided.getD (if p.errored = 0 ∧ ∀ a ∈ s.lkc.looped, a.pb = 0 then .pass else .fail)))
                ∧ (o.limit ≤ o.elapsed → ended .loopOffLimit .timeout)))
    ∧ ∀ (frame errored : Nat) (p : LoopProgress), s.lkc.state.isHeld = true → s.loopProgress = some p →
        ((∀ a ∈ s.lkc.looped, a.frame ≠ frame) → exec (.loopedFrameReturn frame errored) s = .next s)
        ∧ ((∃ a ∈ s.lkc.looped, a.frame = frame) →
            ∃ t, exec (.loopedFrameReturn frame errored) s = .next t
              ∧ t.lkc = { s.lkc with looped := s.lkc.looped.filter (fun a => decide (a.frame ≠ frame)) }
              ∧ t.loopProgress = some { p with errored := min (p.errored + errored) 4294967295 }
              ∧ t = { s with lkc := t.lkc, tsu := { s.tsu with running := t.tsu.running } })

/-- The frame fills of a hold (R40, R41). The first fill with a hold requested in UP takes it: no grant pass runs, the frame is idle, the
departure reaches the queues and the exchange, and the link waits for the frames filled before it, or sends LOOP_ON at once where none is
unsent. A fill in LOOPING is pattern throughout and counts one looped frame, and the D-th ends LOOPING: LOOP_OFF is sent and its wait
starts at 0. In the other phases a fill leaves the phase and the count, and the command outstanding has waited one air frame more. At the
fill that takes the hold, and at each in HELD, a DECIDED notice is discarded, an ANNOUNCED one is kept and takes effect at its frame, with
RUNG raised where the rung changes, and the far margin ages by one frame (R49, R56, R58, R59). That the frames filled before a hold are kept
and waits are counted at fills (log entry 12), and where the PB errored saturate (log entry 40), are the model's choices. -/
def Obligations.FillsTakeAndRunTheHold : Prop :=
  ∀ (id d : Nat) (who : Requester) (p : LoopProgress) (s : State), s.tsu.running = some ⟨⟨id, who, .linkLoop d⟩, .linkLoop p⟩ →
    let n := (s.lkc.frame + 1) % 65536
    let effect (v : Notice) (t : State) : Prop := t.lkc.notice = none ∧ t.lkc.rung = v.target
      ∧ (v.target ≠ s.lkc.rung → ∀ j, (t.sli.events.get j).pending.has .rung = true)
    let noticed (t : State) (f : AirFrame) : Prop :=
      f.number = n ∧ f.rung = t.lkc.rung ∧ t.lkc.voided = none
        ∧ t.lkc.far = s.lkc.far.map (fun x => { x with age := min 255 (x.age + 1) })
        ∧ (∀ v, s.lkc.voided = some v →
            (v.effectiveFrame = some n → effect v t ∧ f.notice = none) ∧ (v.effectiveFrame ≠ some n → t.lkc.rung = s.lkc.rung))
        ∧ (s.lkc.voided = none → s.lkc.notice = none → t.lkc.notice = none ∧ f.notice = none ∧ t.lkc.rung = s.lkc.rung)
        ∧ (∀ r c, s.lkc.voided = none → s.lkc.notice = some ⟨r, c, .decided⟩ →
            t.lkc.notice = none ∧ f.notice = none ∧ t.lkc.rung = s.lkc.rung)
        ∧ ∀ r c a e, s.lkc.voided = none → s.lkc.notice = some ⟨r, c, .announced a e⟩ →
            (e ≠ n → t.lkc.notice = s.lkc.notice ∧ t.lkc.rung = s.lkc.rung
              ∧ f.notice = (if n = a ∨ n = (a + 1) % 65536 then some ⟨r, e⟩ else none))
            ∧ (e = n → effect ⟨r, c, .announced a e⟩ t ∧ f.notice = none)
    (s.lkc.state = .up → p.held = false → s.lkc.outstanding = none →
      ∃ (t : State) (f : AirFrame), exec .frameFill s = .next t ∧ t.loopProgress = some { p with held := true }
        ∧ t.lkc.unsent = s.lkc.unsent ++ [f] ∧ f.pattern = 0 ∧ f.segments = [] ∧ f.request = false ∧ noticed t f
        ∧ (s.lkc.unsent = [] →
            t.lkc.state = .held .loopEntry ∧ t.lkc.outstanding = some ⟨.loopOn, 0, s.lkc.confirmLimit, s.lkc.sent⟩
              ∧ t.lkc.sent = s.lkc.sent + 1 ∧ t.emitted = s.emitted ++ [.odu .loopOn])
        ∧ (s.lkc.unsent ≠ [] →
            t.lkc.state = .held (.holdPending s.lkc.unsent.length false) ∧ t.lkc.outstanding = none ∧ t.emitted = s.emitted)
        ∧ t.lkc.upCount = 0 ∧ t.lkc.syncMiss = 0 ∧ t.lkc.lowRun = 0 ∧ t.tmu.exchange = none
        ∧ t.tqm = s.tqm.map Traffic.depart ∧ (∀ j, (t.sli.events.get j).pending.has .linkState = true) ∧ s.recordsStand t)
    ∧ (s.lkc.state = .held .looping → s.lkc.outstanding = none →
        ∃ (t : State) (f : AirFrame), exec .frameFill s = .next t ∧ t.lkc.unsent = s.lkc.unsent ++ [f]
          ∧ f.pattern = t.capacity t.lkc.rung - 4 ∧ f.segments = [] ∧ noticed t f
          ∧ t.lkc.looped.getLast? = some ⟨t.lkc.frame, f.pattern, 0⟩
          ∧ (∃ q, t.loopProgress = some q ∧ q.looped = p.looped + 1 ∧ q.sent = p.sent + f.pattern ∧ q.held = p.held ∧ q.decided = p.decided
              ∧ (let away := ((s.lkc.looped.filter fun a => decide (4 ≤ a.fills + 1)).map Awaiting.pb).sum
                 q.errored = if away = 0 then p.errored else min (p.errored + away) 4294967295))
          ∧ (p.looped + 1 < d → t.lkc.state = .held .looping ∧ t.lkc.outstanding = none ∧ t.emitted = s.emitted)
          ∧ (d ≤ p.looped + 1 →
              t.lkc.state = .held .loopExit ∧ t.lkc.outstanding = some ⟨.loopOff, 0, s.lkc.confirmLimit, s.lkc.sent⟩
                ∧ t.lkc.sent = s.lkc.sent + 1 ∧ t.emitted = s.emitted ++ [.odu .loopOff])
          ∧ t.tqm = s.tqm ∧ s.recordsStand t)
    ∧ ∀ ph : LoopPhase, s.lkc.state = .held ph → ph ≠ .looping →
        ∃ (t : State) (f : AirFrame), exec .frameFill s = .next t ∧ t.lkc.unsent = s.lkc.unsent ++ [f] ∧ f.pattern = 0 ∧ f.segments = []
          ∧ noticed t f ∧ t.lkc.state = .held ph ∧ t.lkc.sent = s.lkc.sent ∧ t.emitted = s.emitted
          ∧ (∃ q, t.loopProgress = some q ∧ q.looped = p.looped ∧ q.sent = p.sent ∧ q.held = p.held ∧ q.decided = p.decided)
          ∧ (∀ o, s.lkc.outstanding = some o → o.cmd = .loopOn ∨ o.cmd = .loopOff →
              t.lkc.outstanding = some { o with elapsed := min o.limit (o.elapsed + 1) })
          ∧ t.tqm = s.tqm ∧ s.recordsStand t

/-- A status report outside UP is discarded; in UP the local margin is brought into −400..400, the effective margin is the lower of it and a
fresh far margin, and the low-margin run grows while the effective margin is below rung 0's down threshold; a report that brings the run
to the loss limit, or finds it there already after the limit was lowered, enters LOST, whatever its margin, and otherwise the rung
decision follows. A missing report counts as one of −400 (R23, R37, R48, R50, R51). -/
def Obligations.StatusReportsTaken : Prop :=
  ∀ (c : Instr) (m : Int) (s : State), (c = .statusReport m ∨ (c = .missingStatusReport ∧ m = -400)) →
    (s.lkc.state ≠ .up → exec c s = .next s)
    ∧ (s.lkc.state = .up →
        let near := max (-400) (min 400 m)
        let eff := match s.lkc.far with
          | some f => if f.age ≤ 8 then min near f.value else near
          | none => near
        let low : Prop := ∃ r, s.rungs[0]? = some r ∧ eff < r.down
        let lost : Prop := s.lkc.lossLimit ≤ s.lkc.lowRun ∨ (low ∧ s.lkc.lossLimit ≤ s.lkc.lowRun + 1)
        (lost →
          ∃ t, exec c s = .next t
            ∧ t.lkc = { s.lkc with
                state := .lost 0, outstanding := none, near := some near, effective := some eff, far := none, notice := none,
                voided := none, upCount := 0, syncMiss := 0, lowRun := 0, unsent := [],
                losses := { s.lkc.losses with margin := satInc s.lkc.losses.margin } }
            ∧ t.tmu.exchange = none ∧ (∀ j, (t.tqm.get j).egress = none)
            ∧ (∀ j, (t.sli.events.get j).pending.has .linkState = true) ∧ t.emitted = s.emitted ∧ s.recordsStand t)
        ∧ (¬lost → low →
            exec c s = .next (rungDecision eff
              { s with lkc := { s.lkc with near := some near, effective := some eff, lowRun := s.lkc.lowRun + 1 } }))
        ∧ (¬lost → ¬low →
            exec c s = .next (rungDecision eff { s with lkc := { s.lkc with near := some near, effective := some eff, lowRun := 0 } })))

/-- The rung decision of a report of effective margin `m` (R51 to R54, R57): a headed-for rung above the ceiling makes a CEILING decision;
below the current rung's down threshold a MARGIN_DOWN decision targets the highest lower rung whose down threshold is at or below the
margin, or 0; a report that passes the up-step test counts, and at the limit decides one rung up; any other sets the up-count to 0. A
down decision replaces a pending notice of a higher target and is not taken against one at or below its own. -/
def Obligations.RungDecisionRows : Prop :=
  ∀ (m : Int) (l : Ladder) (s : State), s.lkc.ladder = some l → s.lkc.rung < l.rungs.length →
    let ceiling := min s.lkc.ceiling (l.rungs.length - 1)
    let headed := (s.lkc.notice.map Notice.target).getD s.lkc.rung
    let below : Prop := (∃ r, l.rungs[s.lkc.rung]? = some r ∧ m < r.down) ∧ 0 < s.lkc.rung
    let decided (target : Nat) (cause : NoticeCause) : Prop :=
      (rungDecision m s).lkc.upCount = 0
        ∧ (s.lkc.notice = none → (rungDecision m s).lkc.notice = some ⟨target, cause, .decided⟩)
        ∧ ∀ n, s.lkc.notice = some n →
            (target < n.target → (rungDecision m s).lkc.notice = some ⟨target, cause, .decided⟩
              ∧ (n.stage ≠ .decided → (rungDecision m s).lkc.voided = some n))
            ∧ (n.target ≤ target → (rungDecision m s).lkc.notice = some n)
    let after := (rungDecision m s).lkc
    rungDecision m s = { s with lkc := { s.lkc with notice := after.notice, voided := after.voided, upCount := after.upCount } }
    ∧ (∃ target, target ≤ s.lkc.rung ∧ (below → target < s.lkc.rung)
        ∧ (below → 0 < target → ∃ r, l.rungs[target]? = some r ∧ r.down ≤ m)
        ∧ (below → ∀ i r, target < i → i < s.lkc.rung → l.rungs[i]? = some r → m < r.down)
        ∧ (¬below → target = s.lkc.rung)
        ∧ (ceiling < headed → decided (min ceiling target) .ceiling)
        ∧ (headed ≤ ceiling → below → decided target .marginDown))
    ∧ (headed ≤ ceiling → ¬below →
        let passes : Prop := s.lkc.notice = none ∧ s.lkc.farFresh = true ∧ s.lkc.rung + 1 ≤ ceiling
          ∧ ∃ r, l.rungs[s.lkc.rung + 1]? = some r ∧ r.up ≤ m
        (passes → s.lkc.upLimit ≤ s.lkc.upCount + 1 →
          rungDecision m s = { s with lkc := { s.lkc with notice := some ⟨s.lkc.rung + 1, .marginUp, .decided⟩, upCount := 0 } })
        ∧ (passes → s.lkc.upCount + 1 < s.lkc.upLimit →
            rungDecision m s = { s with lkc := { s.lkc with upCount := s.lkc.upCount + 1 } })
        ∧ (¬passes → rungDecision m s = { s with lkc := { s.lkc with upCount := 0 } }))

/-- Far frames (R33, R36, R49): the first synced one in ACQUIRING brings the link to UP at rung 0; in UP a synced one sets the far margin
afresh and clears the sync-miss run, and an unsynced or missing one raises the run and at the sixteenth loses the link; in the other
states a far frame is discarded. A synced one's tenant segments, in their order, are taken by each slot that is ENABLED and no loop
subject, the packets they complete leaving its traffic port; another slot discards them and counts those with the last flag (R73, R75). A
PORT_LOOP that the frame's reply or report lets start then discards its slot's partial. The backoff timer at 1,000 takes LOST to ACQUIRING
(R39). That a stray expiry does nothing is the model's reading (log entry 5). -/
def Obligations.FarFramesTaken : Prop :=
  ∀ (f : FarFrame) (s : State),
    let of (k : Slot) : List EgressSegment := f.segments.filter fun g => decide (g.slot = k)
    let served (k : Slot) : Prop := s.slotEnabled k = true ∧ s.loopSubject ≠ some k
    let segmentsTaken (t : State) : Prop :=
      (∀ k, ∃ r : Traffic,
        (served k → r = ((s.tqm.get k).takeAll (of k)).1)
        ∧ (¬served k → (of k).countP EgressSegment.last = 0 → r = s.tqm.get k)
        ∧ (¬served k → 0 < (of k).countP EgressSegment.last →
            r = { s.tqm.get k with
              egressDiscarded := min ((s.tqm.get k).egressDiscarded + (of k).countP EgressSegment.last) 4294967295 })
        ∧ (t.tqm.get k = r ∨ (t.loopSubject = some k ∧ t.tqm.get k = r.discardEgress))
        ∧ (f.reply = none → f.report = none → t.tqm.get k = r))
      ∧ ∃ out : List (Slot × List Byte), t.emitted = s.emitted ++ out.map (fun d => .delivered d.1 d.2)
        ∧ ∀ k, (served k → (out.filter fun d => decide (d.1 = k)).map Prod.snd = ((s.tqm.get k).takeAll (of k)).2)
          ∧ (¬served k → ∀ d ∈ out, d.1 ≠ k)
    (s.lkc.state ≠ .up → exec .missingFarFrame s = .next s)
    ∧ (s.lkc.state ≠ .up → (s.lkc.state = .acquiring → f.sync = false) → exec (.farFrame f) s = .next s)
    ∧ (s.lkc.state = .acquiring → f.sync = true →
        ∃ t, exec (.farFrame f) s = .next t ∧ t.lkc.state = .up ∧ t.lkc.rung = 0 ∧ t.lkc.syncMiss = 0 ∧ t.lkc.lowRun = 0
          ∧ t.lkc.far = some ⟨max (-400) (min 400 f.margin), 0⟩ ∧ (∀ j, (t.sli.events.get j).pending.has .linkState = true)
          ∧ s.recordsStand t ∧ (s.scu.site ≠ .bringup → s.noIdleQueue → segmentsTaken t))
    ∧ (s.lkc.state = .up → f.sync = true →
        ∃ t, exec (.farFrame f) s = .next t ∧ segmentsTaken t
          ∧ t.lkc = { s.lkc with syncMiss := 0, far := some ⟨max (-400) (min 400 f.margin), 0⟩, farPattern := f.pattern }
          ∧ (f.segments = [] → f.reply = none → f.report = none → t = { s with lkc := t.lkc }) ∧ s.recordsStand t)
    ∧ (∀ c, s.lkc.state = .up → (c = .missingFarFrame ∨ (c = .farFrame f ∧ f.sync = false)) →
        let losses := { s.lkc.losses with unsynced := satInc s.lkc.losses.unsynced }
        (s.lkc.syncMiss + 1 < 16 → exec c s = .next { s with lkc := { s.lkc with syncMiss := s.lkc.syncMiss + 1, losses := losses } })
        ∧ (16 ≤ s.lkc.syncMiss + 1 →
            ∃ t, exec c s = .next t ∧ t.lkc.state = .lost 0 ∧ t.lkc.losses = { losses with sync := satInc s.lkc.losses.sync }
              ∧ t.lkc.far = none ∧ t.lkc.notice = none ∧ (∀ j, (t.sli.events.get j).pending.has .linkState = true)
              ∧ t.emitted = s.emitted ∧ s.recordsStand t))
    ∧ (∀ n, s.lkc.state = .lost n → n < 1000 → exec .backoffExpiry s = .next s)
    ∧ (∀ n, s.lkc.state = .lost n → 1000 ≤ n →
        ∃ t, exec .backoffExpiry s = .next t ∧ t.lkc = { s.lkc with state := .acquiring, outstanding := none, rung := 0 }
          ∧ (∀ j, (t.sli.events.get j).pending.has .linkState = true) ∧ t.tmu = s.tmu ∧ t.emitted = s.emitted ∧ s.recordsStand t)
    ∧ ((∀ n, s.lkc.state ≠ .lost n) → exec .backoffExpiry s = .next s)

/-- In UP with no hold requested, a DECIDED notice is announced at the next fill with its effective frame two frames on; an ANNOUNCED one is
carried in its announcement frame and the next, and at its effective frame it becomes the current rung, with RUNG raised where the rung
changes (R34, R56, R58, R62). The far margin ages by one frame at the fill, up to 255 (R49). An ANNOUNCED notice that a lower one has
replaced (R57) takes effect after all where its effective frame is the next one filled, and the replacement is discarded; otherwise it is
void, the rung stands, and the replacement is announced. -/
def Obligations.NoticesTakeTwoFrames : Prop :=
  ∀ s : State, s.lkc.state = .up → s.holdRequested = false → s.lkc.frame < 65536 →
    let n := (s.lkc.frame + 1) % 65536
    ∃ (t : State) (f : AirFrame), exec .frameFill s = .next t ∧ t.lkc.state = .up ∧ t.lkc.unsent = s.lkc.unsent ++ [f]
      ∧ t.lkc.frame = n ∧ f.number = n ∧ f.rung = t.lkc.rung ∧ f.nearMargin = s.lkc.near.getD (-400) ∧ t.lkc.voided = none
      ∧ t.lkc.far = s.lkc.far.map (fun x => { x with age := min 255 (x.age + 1) })
      ∧ (∀ v, s.lkc.voided = some v →
          (v.effectiveFrame = some n → t.lkc.notice = none ∧ f.notice = none ∧ t.lkc.rung = v.target
            ∧ (v.target ≠ s.lkc.rung → ∀ j, (t.sli.events.get j).pending.has .rung = true))
          ∧ (v.effectiveFrame ≠ some n → t.lkc.rung = s.lkc.rung
            ∧ ∀ r c, s.lkc.notice = some ⟨r, c, .decided⟩ →
                t.lkc.notice = some ⟨r, c, .announced n ((n + 2) % 65536)⟩ ∧ f.notice = some ⟨r, (n + 2) % 65536⟩))
      ∧ (s.lkc.voided = none → s.lkc.notice = none → t.lkc.notice = none ∧ f.notice = none ∧ t.lkc.rung = s.lkc.rung)
      ∧ (∀ r c, s.lkc.voided = none → s.lkc.notice = some ⟨r, c, .decided⟩ →
          t.lkc.notice = some ⟨r, c, .announced n ((n + 2) % 65536)⟩ ∧ f.notice = some ⟨r, (n + 2) % 65536⟩ ∧ t.lkc.rung = s.lkc.rung)
      ∧ ∀ r c a e, s.lkc.voided = none → s.lkc.notice = some ⟨r, c, .announced a e⟩ →
          (e ≠ n → t.lkc.notice = s.lkc.notice ∧ t.lkc.rung = s.lkc.rung
            ∧ f.notice = (if n = a ∨ n = (a + 1) % 65536 then some ⟨r, e⟩ else none))
          ∧ (e = n → t.lkc.notice = none ∧ f.notice = none ∧ t.lkc.rung = r
            ∧ (r ≠ s.lkc.rung → ∀ j, (t.sli.events.get j).pending.has .rung = true))

/-- What a step may do to the current rung, the passing of local time included (R24, R29, R33, R39, R43, R45, R58): it keeps it, or sets it
to the target of the notice whose effective frame is the one being filled, or sets it to 0 at an entry of the link named here: by a
power-on reset, by the load, BEGIN_BRINGUP, LINK_RESTART outside HELD and a site reset, by the end of READ_PAGE or of the backoff in
ACQUIRING, and by the first synced far frame in UP. -/
def Obligations.RungChangesAtItsFrame : Prop :=
  ∀ s t : State, step s = .next t →
    t.lkc.rung = s.lkc.rung
    ∨ (∃ rest n, s.pending = .frameFill :: rest ∧ (s.lkc.notice = some n ∨ s.lkc.voided = some n)
        ∧ n.effectiveFrame = some ((s.lkc.frame + 1) % 65536) ∧ t.lkc.rung = n.target)
    ∨ (t.lkc.rung = 0 ∧ ∃ c rest, s.pending = c :: rest ∧
        ((∃ b, c = .powerOnReset b ∧ t.lkc.state = .off .none)
        ∨ (∃ flash, c = .descriptorLoad flash ∧ s.scu.site = .loading ∧ t.lkc.state = .discovery .identify 1)
        ∨ (∃ k tag ps, c = .beginBringup k tag ps ∧ s.scu.site = .unconfigured ∧ t.lkc.state = .discovery .identify 1)
        ∨ (∃ k tag ps, c = .linkRestart k tag ps ∧ s.lkc.state.isHeld = false ∧ t.lkc.state = .discovery .identify 1)
        ∨ (∃ k tag ps, c = .siteReset k tag ps
            ∧ t.lkc.state = if s.scu.site = .unconfigured then .off .unconfigured else .discovery .identify 1)
        ∨ (∃ o, s.lkc.outstanding = some o ∧ o.cmd = .readPage ∧ t.lkc.state = .acquiring
            ∧ ((∃ page, c = .readPageReply ⟨o.number, page⟩)
              ∨ (c = .readPageReplyLimit ∧ ∃ st n, s.lkc.state = .discovery st n ∧ 3 ≤ n)))
        ∨ (∃ n, c = .backoffExpiry ∧ s.lkc.state = .lost n ∧ t.lkc.state = .acquiring)
        ∨ (∃ f, c = .farFrame f ∧ s.lkc.state = .acquiring ∧ f.sync = true ∧ t.lkc.state = .up)))

/-- Every frame filled in ACQUIRING, UP or HELD accounts for exactly the capacity of its rung: the control reserve of 4 PB, the pattern PB,
the tenant segments and the idle PB; nothing is filled in the other states (R34, R35, R41, R69, R95). Outside UP a fill runs no grant pass
and drains no queue: with no egress partial held there (R72; EgressIsHeldInUpAlone), the grant and traffic records stand. -/
def Obligations.FramesFillTheirCapacity : Prop :=
  ∀ s : State,
    ((∀ p, s.lkc.state ≠ .held p) → s.lkc.state ≠ .acquiring → s.lkc.state ≠ .up → exec .frameFill s = .next s)
    ∧ ((s.lkc.state.isHeld = true ∨ s.lkc.state = .acquiring ∨ s.lkc.state = .up) →
        ∃ (t : State) (f : AirFrame), exec .frameFill s = .next t ∧ t.lkc.unsent = s.lkc.unsent ++ [f]
          ∧ t.lkc.frame = (s.lkc.frame + 1) % 65536 ∧ f.number = t.lkc.frame ∧ f.rung = t.lkc.rung ∧ t.lkc.ladder = s.lkc.ladder
          ∧ (4 ≤ t.capacity f.rung → 4 + f.pattern + (f.segments.map Segment.length).sum + f.idle = t.capacity f.rung)
          ∧ (s.lkc.state = .acquiring → f.pattern = 0 ∧ f.segments = [])
          ∧ s.tablesStand t ∧ t.tmu.site = s.tmu.site ∧ (s.lkc.state ≠ .up → t.gre = s.gre ∧ (s.egressQuiet → t.tqm = s.tqm)))

/-- Every step keeps every slot without an egress partial packet while the link is not in UP (R36, R72, R73, R79): the departure discards
each slot's partial, and segments are taken in UP alone. -/
def Obligations.EgressIsHeldInUpAlone : Prop :=
  ∀ s t : State, s.loadingQuiet → s.holdFits → s.egressQuiet → step s = .next t → t.egressQuiet

/-- The oldest frame not yet sent leaves the radio port; one that carries a request is stamped with site time and its exchange's reply
timer starts; the last frame filled before a hold is followed by LOOP_ON, or by LOOP_OFF where an end was asked (R41, R140). That the
frames filled before a hold are kept, and a departure with no frame unsent has no effect, is the model's reading (log entries 12 and 5).
-/
def Obligations.FramesLeaveInOrder : Prop :=
  ∀ s : State,
    (s.lkc.unsent = [] → exec .frameLeavesRadioPort s = .next s)
    ∧ ∀ (f : AirFrame) (rest : List AirFrame), s.lkc.unsent = f :: rest →
        ∃ t, exec .frameLeavesRadioPort s = .next t ∧ t.lkc.unsent = rest ∧ t.lkc.frame = s.lkc.frame
          ∧ (let out : Emission := .airFrame f (if f.request then some s.tmu.site else none)
             let ends (asked : Bool) : Prop := ∃ u, s.lkc.state = .held (.holdPending u asked) ∧ u ≤ 1
             (ends false → t.emitted = s.emitted ++ [out, .odu .loopOn]) ∧ (ends true → t.emitted = s.emitted ++ [out, .odu .loopOff])
              ∧ (¬ends false → ¬ends true → t.emitted = s.emitted ++ [out]))
          ∧ (∀ x, f.request = true → s.tmu.exchange = some x → x.request = some f.number → x.sent = none →
              t.tmu.exchange = some { x with sent := some ⟨s.tmu.site, 0⟩ })
          ∧ (f.request = false → t.tmu = s.tmu)
          ∧ (∀ u, s.lkc.state = .held (.holdPending u false) → u ≤ 1 →
              t.lkc.state = .held .loopEntry ∧ t.lkc.outstanding = some ⟨.loopOn, 0, s.lkc.confirmLimit, s.lkc.sent⟩
                ∧ t.lkc.sent = s.lkc.sent + 1)
          ∧ (∀ u, s.lkc.state = .held (.holdPending u true) → u ≤ 1 →
              t.lkc.state = .held .loopExit ∧ t.lkc.outstanding = some ⟨.loopOff, 0, s.lkc.confirmLimit, s.lkc.sent⟩
                ∧ t.lkc.sent = s.lkc.sent + 1)
          ∧ (∀ u asked, s.lkc.state = .held (.holdPending u asked) → 1 < u → t.lkc.state = .held (.holdPending (u - 1) asked))
          ∧ ((∀ u asked, s.lkc.state ≠ .held (.holdPending u asked)) → t.lkc = { s.lkc with unsent := rest })
          ∧ t = { s with lkc := t.lkc, emitted := t.emitted, tmu := { s.tmu with exchange := t.tmu.exchange } }

/-- Every step keeps the link HELD exactly while a LINK_LOOP runs whose hold was taken, with the outstanding command the one the link state
sends and the progress of the running order of its kind (R40, R42, R161, R174). -/
def Obligations.HoldStandsWithItsOrder : Prop :=
  ∀ s t : State, s.loadingQuiet → s.holdFits → step s = .next t → t.holdFits

/-- SET_RUNG_LIMITS, WRITE_PROFILE, SET_LINK_LIMITS and SET_GRANT_LIMITS in range replace what they name and nothing else (R31, R61, R115,
R203). One that names nothing, or a value out of its range, is refused BAD_VALUE. The form of SET_RUNG_LIMITS' answer is the model's choice
(log entry 4), and so is that a profile whose up(0) is out of range is refused BAD_VALUE (log entry 35). -/
def Obligations.LinkAndGrantLimitsWritten : Prop :=
  ∀ (k : Slot) (tag : Byte) (ps : List Byte) (s : State),
    (∀ n : Nat, s.mayAsk k .linkControl → n < 256 →
      (7 < n → exec (.setRungLimits k tag [BitVec.ofNat 8 n]) s = .next (answer k tag .badValue [] s))
      ∧ (n ≤ 7 → exec (.setRungLimits k tag [BitVec.ofNat 8 n]) s
          = .next (answer k tag .ok
              (.num 1 n :: (match s.lkc.ladder with
                | some l => [.present true, .num 1 (min n (l.rungs.length - 1) : Nat)]
                | none => [.present false]))
              { s with lkc := { s.lkc with ceiling := n } })))
    ∧ (∀ (id : OduId), s.mayAsk k .siteControl → s.sli.lock = false → profileParams ps = some (id, none) →
        ((∀ p ∈ s.lkc.profiles, p.key ≠ id) → exec (.writeProfile k tag ps) s = .next (answer k tag .notFound [] s))
        ∧ ((∃ p ∈ s.lkc.profiles, p.key = id) →
            exec (.writeProfile k tag ps) s
              = .next (answer k tag .ok []
                  { s with lkc := { s.lkc with profiles := s.lkc.profiles.filter (fun p => decide (p.key ≠ id)) } })))
    ∧ (∀ (id : OduId) (l : Ladder), s.mayAsk k .siteControl → s.sli.lock = false → profileParams ps = some (id, some l) →
        ((Profile.inRange ⟨id, l⟩ = false ∨ l.consistent = false) → exec (.writeProfile k tag ps) s = .next (answer k tag .badValue [] s))
        ∧ (Profile.inRange ⟨id, l⟩ = true → l.consistent = true → (∀ p ∈ s.lkc.profiles, p.key ≠ id) → 8 ≤ s.lkc.profiles.length →
            exec (.writeProfile k tag ps) s = .next (answer k tag .full [] s))
        ∧ (Profile.inRange ⟨id, l⟩ = true → l.consistent = true →
            ((∃ p ∈ s.lkc.profiles, p.key = id) ∨ s.lkc.profiles.length < 8) →
            ∃ t, exec (.writeProfile k tag ps) s = .next (answer k tag .ok [] t)
              ∧ matching t.lkc.profiles id = some ⟨id, l⟩
              ∧ (∀ other, other ≠ id → matching t.lkc.profiles other = matching s.lkc.profiles other)
              ∧ t = { s with lkc := { s.lkc with profiles := t.lkc.profiles } }))
    ∧ (∀ u l c : Option Nat, s.mayAsk k .siteControl → linkLimitParams ps = some (u, l, c) →
        (u.isSome = true ∨ l.isSome = true ∨ c.isSome = true) → (∀ x ∈ u, 1 ≤ x) → (∀ x ∈ l, 1 ≤ x ∧ x ≤ 1000) → (∀ x ∈ c, 1 ≤ x) →
        (∀ x ∈ u, x ≤ 255) → (∀ x ∈ c, x ≤ 255) →
        exec (.setLinkLimits k tag ps) s
          = .next (answer k tag .ok []
              { s with lkc := { s.lkc with
                upLimit := u.getD s.lkc.upLimit, lossLimit := l.getD s.lkc.lossLimit, confirmLimit := c.getD s.lkc.confirmLimit } }))
    ∧ (∀ u l c : Option Nat, s.mayAsk k .siteControl → linkLimitParams ps = some (u, l, c) →
        ((u = none ∧ l = none ∧ c = none) ∨ (∃ x ∈ u, x = 0 ∨ 255 < x) ∨ (∃ x ∈ l, x = 0 ∨ 1000 < x) ∨ (∃ x ∈ c, x = 0 ∨ 255 < x)) →
        exec (.setLinkLimits k tag ps) s = .next (answer k tag .badValue [] s))
    ∧ (∀ m a : Option Nat, s.mayAsk k .siteControl → grantLimitParams ps = some (m, a) →
        ((m = none ∧ a = none) ∨ (∃ x ∈ m, x = 0 ∨ 8 < x) ∨ (∃ x ∈ a, x = 0 ∨ 255 < x)) →
        exec (.setGrantLimits k tag ps) s = .next (answer k tag .badValue [] s))
    ∧ (∀ m a : Option Nat, s.mayAsk k .siteControl → grantLimitParams ps = some (m, a) → (m.isSome = true ∨ a.isSome = true) →
        (∀ x ∈ m, 1 ≤ x ∧ x ≤ 8) → (∀ x ∈ a, 1 ≤ x ∧ x ≤ 255) →
        exec (.setGrantLimits k tag ps) s
          = .next (answer k tag .ok [] { s with gre := { s.gre with metLimit := m.getD s.gre.metLimit, agingLimit := a.getD s.gre.agingLimit } }))

/-! ## Queues and grants (chapters 4 and 6) -/

/-- A packet on a traffic port (R65 to R68, R76): dropped uncounted in LOADING, counted malformed where its form fails or its slot is
VACANT or the loop subject, otherwise admitted at the tail of its class queue, or dropped full with QUEUE_DROP in its slot alone; the
class is EXPRESS exactly for a priority tag of 5 or above. That LOADING comes before the form is the model's reading (log entry 13), and so
is that the number given is the next one though a waiting record still holds it (log entry 31). -/
def Obligations.PacketsAreAdmittedOrDropped : Prop :=
  ∀ (k : Slot) (bytes : List Byte) (cut : Bool) (s : State),
    let form : Prop := 64 ≤ bytes.length ∧ bytes.length ≤ 9216 ∧ fcsOk bytes = true ∧ cut = false
    let closed : Prop := s.slotVacant k = true ∨ s.loopSubject = some k
    let express : Prop := bytes.getD 12 0 = 0x81 ∧ bytes.getD 13 0 = 0x00 ∧ 5 * 32 ≤ (bytes.getD 14 0).toNat
    let r := s.tqm.get k
    let pb := (bytes.length + 63) / 64
    let packet (c : IngressClass) : Packet := ⟨r.nextSeq, c, bytes.length, pb, pb, bytes⟩
    let admitted (u : Traffic) : State :=
      { s with tqm := s.tqm.set k { u with nextSeq := (r.nextSeq + 1) % 65536, accepted := satInc r.accepted } }
    (s.scu.site = .loading → exec (.packetArrival k bytes cut) s = .next s)
    ∧ (s.scu.site ≠ .loading → ¬form ∨ closed →
        exec (.packetArrival k bytes cut) s = .next { s with tqm := s.tqm.set k { r with malformed := satInc r.malformed } })
    ∧ (s.scu.site ≠ .loading → form → ¬closed → express → queuedPB r.express + pb ≤ 256 →
        exec (.packetArrival k bytes cut) s
          = .next (admitted { r with express := r.express ++ [packet .express] }))
    ∧ (s.scu.site ≠ .loading → form → ¬closed → ¬express → queuedPB r.bulk + pb ≤ 3840 →
        exec (.packetArrival k bytes cut) s
          = .next (admitted { r with bulk := r.bulk ++ [packet .bulk] }))
    ∧ (s.scu.site ≠ .loading → form → ¬closed →
        (express ∧ 256 < queuedPB r.express + pb ∨ ¬express ∧ 3840 < queuedPB r.bulk + pb) →
        exec (.packetArrival k bytes cut) s
          = .next (raiseIn .queueDrop k { s with tqm := s.tqm.set k { r with droppedFull := satInc r.droppedFull } }))

/-- A grant drains a slot's queues to the PB, EXPRESS before BULK (R69, R71); and a packet cut into any segments, received in order, is
delivered byte for byte, once, with nothing counted discarded (R70, R73, R74). Segments are judged one after another, each by R73's table: a
stray one, of an offset above 0 with no partial, is discarded and counted; one that does not continue the partial has the partial discarded
and counted and is then judged as with none; one that begins or continues a partial past 144 PB is discarded with it and counted once; one
with the last flag clear leaves the partial grown; one with it set delivers the bytes short of the pad, or below 64 bytes is discarded and
counted (R74). That a partial of exactly 144 PB stands with its last flag not seen is the model's choice (log entry 14). -/
def Obligations.PacketsAreCutAndReassembled : Prop :=
  (∀ (k : Slot) (t : Traffic) (grant : Nat),
    let d := t.drain k grant
    (d.1.map Segment.length).sum = min grant t.backlog
    ∧ d.2.backlog = t.backlog - min grant t.backlog
    ∧ queuedPB d.2.express = queuedPB t.express - min grant (queuedPB t.express)
    ∧ (grant < queuedPB t.express → d.2.bulk = t.bulk)
    ∧ d.2.egress = t.egress ∧ d.2.nextSeq = t.nextSeq ∧ d.2.accepted = t.accepted)
  ∧ (∀ (k : Slot) (seq : Nat) (c : IngressClass) (bytes : List Byte) (cuts : List Nat) (t : Traffic),
      64 ≤ bytes.length → bytes.length ≤ 9216 → (∀ n ∈ cuts, 0 < n) → cuts.sum = (bytes.length + 63) / 64 → t.egress = none →
      t.takeAll ((cutInto k (newPacket seq c bytes) cuts).map Segment.received) = (t, [bytes]))
  ∧ ∀ (t : Traffic) (g : EgressSegment) (rest : List EgressSegment),
      let counted : Traffic := { t with egress := none, egressDiscarded := min (t.egressDiscarded + 1) 4294967295 }
      let joined (held : Nat) (bytes : List Byte) : Prop :=
        let size := 64 * held - g.pad
        (144 < held → t.takeAll [g] = (counted, []))
        ∧ (held ≤ 144 → g.last = false → t.takeAll [g] = ({ t with egress := some ⟨g.seq, held, bytes⟩ }, []))
        ∧ (held ≤ 144 → g.last = true → size < 64 → t.takeAll [g] = (counted, []))
        ∧ (held ≤ 144 → g.last = true → 64 ≤ size → t.takeAll [g] = ({ t with egress := none }, [bytes.take size]))
      t.takeAll (g :: rest) = (((t.takeAll [g]).1.takeAll rest).1, (t.takeAll [g]).2 ++ ((t.takeAll [g]).1.takeAll rest).2)
      ∧ (t.egress = none → 0 < g.offset → t.takeAll [g] = (counted, []))
      ∧ (t.egress = none → g.offset = 0 → joined g.length g.data)
      ∧ ∀ q, t.egress = some q →
          (g.seq = q.seq → g.offset = q.held → joined (q.held + g.length) (q.bytes ++ g.data))
          ∧ (g.seq ≠ q.seq ∨ g.offset ≠ q.held → t.takeAll [g] = counted.takeAll [g])

/-- A pass gives no slot more than its backlog and its peak allow, and gives out exactly the payload room or, where less, all that the slots
can take; without a shortage every slot's commitment is met as far as its backlog goes. The entitlements are the commitments, or in a
shortage share the room in proportion, the leftover PB going by remainder, largest first, then by lower slot (R101, R102). Committed grants,
shortfalls, make-good rooms and demands are those of R103, R104 and R107. Make-good goes by priority, then by what is owed, larger first,
then by lower slot, each slot served in full before a later one takes anything (R104, R105). Round 1 of the surplus is each demanding slot's
weighted share, rounded down (R107), and round 2 goes by priority, then by lower slot (R108). A grant is the sum of the four (R109). -/
def Obligations.GrantsFillTheRoom : Prop :=
  ∀ (room : Nat) (es : PerSlot Entrant), (∀ k, (es.get k).q ≤ (es.get k).p) →
    let p := divide room es
    let takes := PerSlot.ofFn fun k => min (es.get k).b (es.get k).p
    let q := es.map Entrant.q
    (∀ k, p.grant.get k ≤ takes.get k) ∧ p.grant.sum = min room takes.sum
      ∧ (q.sum ≤ room → p.e = q ∧ ∀ k, min (q.get k) (es.get k).b ≤ p.grant.get k)
      ∧ (room < q.sum →
          p.e.sum = room ∧ (∀ k, p.e.get k ≤ q.get k)
            ∧ (∀ k, p.e.get k = q.get k * room / q.sum ∨ p.e.get k = q.get k * room / q.sum + 1)
            ∧ ∀ j k, p.e.get j = q.get j * room / q.sum + 1 → p.e.get k = q.get k * room / q.sum → 0 < q.get k →
                (q.get k * room % q.sum < q.get j * room % q.sum ∨ (q.get k * room % q.sum = q.get j * room % q.sum ∧ j < k)))
      ∧ (∀ k, let b := (es.get k).b
          p.g.get k = min (p.e.get k) b ∧ p.s.get k = min (q.get k) b - p.g.get k ∧ p.o.get k = (es.get k).d + p.s.get k
            ∧ p.m.get k = min b (es.get k).p - p.g.get k ∧ p.r.get k = p.m.get k - p.x.get k
            ∧ p.grant.get k = p.g.get k + p.x.get k + p.f.get k + p.r2.get k)
      ∧ (let prio (k : Slot) := (es.get k).prio
         let due := PerSlot.ofFn fun k => min (p.o.get k) (p.m.get k)
         let s1 := room - p.g.sum - p.x.sum
         let weights := PerSlot.ofFn fun k => if 0 < p.r.get k then (es.get k).w else 0
         let left := PerSlot.ofFn fun k => p.r.get k - p.f.get k
         (∀ k, p.x.get k ≤ due.get k) ∧ p.x.sum = min (room - p.g.sum) due.sum
          ∧ (∀ j k, (prio k < prio j ∨ (prio j = prio k ∧ (p.o.get k < p.o.get j ∨ (p.o.get j = p.o.get k ∧ j < k)))) →
              0 < p.x.get k → p.x.get j = due.get j)
          ∧ (∀ k, p.f.get k = if 0 < p.r.get k then min (p.r.get k) (s1 * (es.get k).w / weights.sum) else 0)
          ∧ (∀ k, p.r2.get k ≤ left.get k) ∧ p.r2.sum = min (s1 - p.f.sum) left.sum
          ∧ ∀ j k, (prio k < prio j ∨ (prio j = prio k ∧ j < k)) → 0 < p.r2.get k → p.r2.get j = left.get j)

/-- Which slots enter a pass and with what: a slot is eligible while ENABLED, no loop subject and in a site state that serves it (R97); it
enters with its contract, its committed value 0 while it is time-unfit (R98), its priority raised to 4 while its raise is DUE (R99), its
backlog and its deficit; another enters with nothing. And what a frame fill in UP leaves in the grant records, whatever notice is pending or
takes effect at it: the pass reads the capacity of the rung fixed for the frame, and the backlogs, the records and the fitness as they stood
when the fill was taken (R95), and leaves (R105, R106, R110 to R113, R116) the last pass of every slot, an eligible slot's deficit, met flag,
shortfall condition, aging and counters from the figures of the pass; a slot that is not eligible keeps its record but for the last pass.
That the borrow and the loop subject too are read before TMU takes the report of a rung change is the model's choice (log entry 29). -/
def Obligations.GrantRecordsAfterAPass : Prop :=
  (∀ (k : Slot) (s : State),
    (s.eligible k = true ↔
      s.slotState k = some .enabled ∧ s.loopSubject ≠ some k
        ∧ (s.scu.site = .inService ∨ (k = 0 ∧ (s.scu.site = .bringup ∨ s.scu.site = .acceptance ∨ s.scu.site = .acceptFailed))))
    ∧ (s.eligible k = false → s.entrants.get k = ⟨false, 0, 0, 0, 0, 0, 0⟩)
    ∧ ∀ ts, s.scu.tenants = some ts → s.eligible k = true →
        let r := ts.get k
        let g := s.gre.slots.get k
        s.entrants.get k
          = { eligible := true, prio := if g.due then 4 else r.priority, q := if s.scu.fit.get k then r.committed else 0, p := r.peak,
              w := r.weight, b := (s.tqm.get k).backlog, d := g.deficit })
  ∧ ∀ (k : Slot) (s : State), s.lkc.state = .up → s.holdRequested = false →
    ∃ t, exec .frameFill s = .next t
      ∧ (let es := s.entrants
         let a := s.capacity t.lkc.rung - 4
         let t0 := s.borrow a (effectiveSum es)
         let p := divide (a - t0) es
         let r := s.gre.slots.get k
         let figures : PassFigures :=
           { effPriority := (es.get k).prio, q := (es.get k).q, b := (es.get k).b, e := p.e.get k, g := p.g.get k, s := p.s.get k,
             o := p.o.get k, m := p.m.get k, x := p.x.get k, r := p.r.get k, f := p.f.get k, r2 := p.r2.get k, grant := p.grant.get k }
         (t.gre.slots.get k).last
           = some { frame := t.lkc.frame, rung := t.lkc.rung, capacity := s.capacity t.lkc.rung, borrow := t0, room := a - t0,
                    shortage := decide (a - t0 < effectiveSum es),
                    figures := if s.eligible k = true ∧ s.scu.tenants.isSome = true then some figures else none }
         ∧ (s.eligible k = false ∨ s.scu.tenants = none →
             t.gre.slots.get k = { r with last := (t.gre.slots.get k).last } ∧ (t.tqm.get k).backlog = (s.tqm.get k).backlog)
         ∧ (s.eligible k = true → s.scu.tenants.isSome = true →
             let r' := t.gre.slots.get k
             let owed := r.deficit + p.s.get k
             (∃ x ∈ t.lkc.unsent.getLast?, ((x.segments.filter fun g => decide (g.slot = k)).map Segment.length).sum = p.grant.get k)
             ∧ (t.tqm.get k).backlog + p.grant.get k = (s.tqm.get k).backlog
             ∧ r'.deficit = min (owed - p.x.get k) 65535
             ∧ r'.saturated = (r.saturated || decide (65535 < owed - p.x.get k))
             ∧ r'.history = (decide (p.s.get k ≤ p.x.get k) :: r.history).take 8
             ∧ r'.shortfall = decide (r'.history.length = 8 ∧ r'.history.countP id < s.gre.metLimit)
             ∧ (r.shortfall = false → r'.shortfall = true → (t.sli.events.get k).pending.has .shortfall = true)
             ∧ (r.saturated = false → r'.saturated = true → (t.sli.events.get k).pending.has .deficitFull = true)
             ∧ r'.committed = min (r.committed + p.g.get k) 4294967295
             ∧ r'.surplus = min (r.surplus + (p.x.get k + p.f.get k + p.r2.get k)) 4294967295
             ∧ r'.shortFrames = (if r'.shortfall then min (r.shortFrames + 1) 4294967295 else r.shortFrames)
             ∧ (let still : Prop := p.f.get k + p.r2.get k < p.r.get k
                (s.gre.agingLimit = 255 → r'.aging = 0 ∧ r'.due = false)
                ∧ (s.gre.agingLimit < 255 → 0 < s.gre.agingLimit →
                    (¬still → r'.aging = 0 ∧ r'.due = false)
                    ∧ (still → r.aging + 1 < s.gre.agingLimit → r'.aging = r.aging + 1 ∧ r'.due = false)
                    ∧ (still → s.gre.agingLimit ≤ r.aging + 1 → r'.aging = 0 ∧ r'.due = true)))))

/-- Every step keeps the bounds the manual gives the records: each class queue within its limit, the deficits and met histories, the rate
correction and the integrator within F_max, and at most 8 orders with distinct ids and 16 log entries (R67, R96, R152, R161, R162). And it
keeps the part quiet while its tables are loading (R2, R21, R136), lets no order wait while none runs (R166), and keeps the published class
the one derived from the timing state, the holdover counter and its limits (R128, R129). -/
def Obligations.RecordsStayBounded : Prop :=
  ∀ s t : State, step s = .next t →
    (s.queuesBounded → t.queuesBounded) ∧ (s.grantsBounded → t.grantsBounded) ∧ (s.ratesBounded → t.ratesBounded)
      ∧ (s.ordersBounded → t.ordersBounded) ∧ (s.loadingQuiet → t.loadingQuiet) ∧ (s.noIdleQueue → t.noIdleQueue)
      ∧ (s.loadingQuiet → s.classDerived → t.classDerived)

/-! ## Site time and its sources (chapters 7 and 8) -/

/-- The writing requests of the time unit: SET_TIME in FREERUN steps site time and takes away every crossing not yet taken (log entry 6),
SET_SOURCE_PRIORITY judges the selection afresh, PRESET_INTEGRATOR moves y too in FREERUN and HOLDOVER, SET_LOOP_BANK and SET_TIME_LIMITS
replace what they name, CLEAR_TIME_STICKY returns the flags as they stood and clears the named ones (R123, R132, R144 to R146, R156 to
R159). That SET_TIME's state comes before its values is the model's reading (log entry 9), and so is the form of CLEAR_TIME_STICKY's flags
(log entry 32); a request that names none, or does not read, is refused BAD_VALUE. -/
def Obligations.TimeUnitWrites : Prop :=
  ∀ (k : Slot) (tag : Byte) (ps : List Byte) (s : State), s.mayAsk k .timeControl →
    (s.tmu.timing ≠ .freerun → exec (.setTime k tag ps) s = .next (answer k tag .wrongState [] s))
    ∧ (∀ new : SiteTime, s.tmu.timing = .freerun → timeParam ps = some new →
        (new.wf = false → exec (.setTime k tag ps) s = .next (answer k tag .badValue [] s))
        ∧ (new.wf = true →
            ∃ t, exec (.setTime k tag ps) s = .next (answer k tag .ok [] t)
              ∧ t.tmu.site = new ∧ t.tmu.residue = 0 ∧ t.tmu.sticky = { s.tmu.sticky with stepped := true }
              ∧ t.tmu.exchange = none ∧ t.tmu.lastSecond = s.tmu.lastSecond ∧ t.tmu.pps = s.tmu.pps ∧ t.tmu.crossed = {}
              ∧ (s.tmu.exchange = none →
                  t = { s with tmu := { s.tmu with
                    site := new, residue := 0, sticky := { s.tmu.sticky with stepped := true }, crossed := {} } })))
    ∧ (∀ (src : Source) (n : Nat), priorityParams ps = some (src, n) →
        (7 < n → exec (.setSourcePriority k tag ps) s = .next (answer k tag .badValue [] s))
        ∧ (n ≤ 7 →
            ∃ t, exec (.setSourcePriority k tag ps) s = .next (answer k tag .ok [] t)
              ∧ t.tmu.params = s.tmu.params.setPriority src n ∧ t.tmu.selected = t.tmu.selection
              ∧ (n = 0 → (t.tmu.source src).qual = .disabled ∧ (t.tmu.source src).validRun = 0 ∧ (t.tmu.source src).invalidRun = 0)
              ∧ (0 < n → (s.tmu.source src).qual = .disabled → (t.tmu.source src).qual = .unqualified)
              ∧ (0 < n → (s.tmu.source src).qual ≠ .disabled → t.tmu.source src = s.tmu.source src)
              ∧ t.tmu.source src.other = s.tmu.source src.other
              ∧ t.lkc = s.lkc ∧ t.gre = s.gre ∧ t.dsu = s.dsu ∧ t.tmu.site = s.tmu.site))
    ∧ (∀ v : Int, integratorParam ps = some v →
        ((v < -12800000 ∨ 12800000 < v) → exec (.presetIntegrator k tag ps) s = .next (answer k tag .badValue [] s))
        ∧ (-12800000 ≤ v → v ≤ 12800000 →
            exec (.presetIntegrator k tag ps) s
              = .next (answer k tag .ok [] { s with tmu := { s.tmu with
                  integ := v, y := if s.tmu.timing = .freerun ∨ s.tmu.timing = .holdover then v else s.tmu.y } })))
    ∧ (∀ (acquire : Bool) (a b : Option Nat), bankParams ps = some (acquire, a, b) → (a.isSome = true ∨ b.isSome = true) →
        (∀ x ∈ a, x ≤ 15) → (∀ x ∈ b, x ≤ 23) →
        exec (.setLoopBank k tag ps) s
          = .next (answer k tag .ok [] { s with tmu := { s.tmu with params :=
              if acquire then { s.tmu.params with acquire := ⟨a.getD s.tmu.params.acquire.a, b.getD s.tmu.params.acquire.b⟩ }
              else { s.tmu.params with track := ⟨a.getD s.tmu.params.track.a, b.getD s.tmu.params.track.b⟩ } } }))
    ∧ (∀ w : LimitWrite, timeLimitParams ps = some w → w.names = true → s.tmu.params.limitsOk = true →
        ((w.into s.tmu.params).limitsOk = false → exec (.setTimeLimits k tag ps) s = .next (answer k tag .badValue [] s))
        ∧ ((w.into s.tmu.params).limitsOk = true →
            ∃ t, exec (.setTimeLimits k tag ps) s = .next (answer k tag .ok [] t) ∧ t.tmu.params = w.into s.tmu.params
              ∧ t.tmu.site = s.tmu.site ∧ t.tmu.y = s.tmu.y ∧ t.tmu.timing = s.tmu.timing ∧ t.lkc = s.lkc
              ∧ (w.hPhase = none → w.hFreq = none → t = { s with tmu := { s.tmu with params := w.into s.tmu.params } })))
    ∧ (stickyParams ps = none ∨ stickyParams ps = some [] → exec (.clearTimeSticky k tag ps) s = .next (answer k tag .badValue [] s))
    ∧ (∀ fs : List StickyFlag, stickyParams ps = some fs → fs ≠ [] →
        exec (.clearTimeSticky k tag ps) s
          = .next (answer k tag .ok (stickyFields s.tmu.sticky)
              { s with tmu := { s.tmu with sticky :=
                { stepped := s.tmu.sticky.stepped && decide (StickyFlag.stepped ∉ fs),
                  outlierSeen := s.tmu.sticky.outlierSeen && decide (StickyFlag.outlierSeen ∉ fs),
                  integratorSaturated := s.tmu.sticky.integratorSaturated && decide (StickyFlag.integratorSaturated ∉ fs),
                  correctionSaturated := s.tmu.sticky.correctionSaturated && decide (StickyFlag.correctionSaturated ∉ fs) } } }))

/-- The events of the sources and of site time, after LOADING: a well-formed GNSS message becomes the pending one (R137); a pulse takes it
and yields a valid or an invalid outcome, the sample being the captured time less the stated second within half a second (R138); the pulse
timer at 1,100 yields a missing outcome (R139); a crossing of the advance into a new second is a boundary, which counts one second of
HOLDOVER, up to the counter's bound, and none in another timing state (unless it moves to HOLDOVER there), and in UP opens an exchange, and
otherwise yields a missing LINK outcome (R122, R140, R149); the reply timer at 50 closes an exchange sent (R141). That a boundary with no
crossing, and an expiry whose timer is not at its limit, have no effect is the model's choice (log entries 6 and 5). -/
def Obligations.SourceAndBoundaryEvents : Prop :=
  ∀ s : State, s.scu.site ≠ .loading →
    (∀ bytes, exec (.gnssTimeMessage bytes) s
      = .next (match readGnssMessage bytes with
        | some m => { s with tmu := { s.tmu with message := some m } }
        | none => s))
    ∧ (∃ t, exec .gnssPulse s = .next t ∧ t.tmu.message = none ∧ t.tmu.pulseTimer = some 0 ∧ t.lkc = s.lkc ∧ s.recordsStand t
        ∧ (∀ sec, s.tmu.message = some ⟨sec, true⟩ →
            ∃ x : Sample, t.tmu.gnss.last = some x ∧ x.second = sec
              ∧ x.error + x.mismatch * 1000000000 = timeNs s.tmu.site - (sec : Int) * 1000000000
              ∧ -500000000 ≤ x.error ∧ x.error < 500000000
              ∧ (s.tmu.gnss.qual ≠ .disabled →
                  t.tmu.gnss.validRun = min 8 (s.tmu.gnss.validRun + 1) ∧ t.tmu.gnss.invalidRun = 0))
        ∧ ((∀ sec, s.tmu.message ≠ some ⟨sec, true⟩) →
            t.tmu.gnss.last = s.tmu.gnss.last ∧ t.tmu.site = s.tmu.site
              ∧ (s.tmu.gnss.qual ≠ .disabled →
                  t.tmu.gnss.validRun = 0 ∧ t.tmu.gnss.invalidRun = min 3 (s.tmu.gnss.invalidRun + 1))))
    ∧ ((∀ n, s.tmu.pulseTimer = some n → n < 1100) → exec .pulseTimerExpiry s = .next s)
    ∧ (∀ n, s.tmu.pulseTimer = some n → 1100 ≤ n →
        ∃ t, exec .pulseTimerExpiry s = .next t ∧ t.tmu.message = none ∧ t.tmu.pulseTimer = some 0 ∧ t.tmu.site = s.tmu.site
          ∧ t.lkc = s.lkc ∧ s.recordsStand t
          ∧ (s.tmu.gnss.qual ≠ .disabled → t.tmu.gnss.invalidRun = min 3 (s.tmu.gnss.invalidRun + 1)))
    ∧ (∀ n, s.tmu.crossed.second ≠ some n → exec (.siteSecondBoundary n) s = .next s)
    ∧ (∀ n l, s.tmu.crossed.second = some n → s.tmu.lastSecond = some l → n ≤ l →
        exec (.siteSecondBoundary n) s = .next { s with tmu := { s.tmu with crossed := { s.tmu.crossed with second := none } } })
    ∧ (∀ n, s.tmu.crossed.second = some n → (∀ l, s.tmu.lastSecond = some l → l < n) →
        ∃ t, exec (.siteSecondBoundary n) s = .next t ∧ t.tmu.lastSecond = some n ∧ t.tmu.crossed.second = none
          ∧ t.tmu.site = s.tmu.site ∧ t.lkc = s.lkc ∧ t.tmu.pps = s.tmu.pps ∧ s.recordsStand t
          ∧ (s.tmu.timing = .holdover → t.tmu.holdover = min (s.tmu.holdover + 1) 4294967295)
          ∧ (s.tmu.timing ≠ .holdover → t.tmu.holdover = s.tmu.holdover ∨ t.tmu.timing = .holdover)
          ∧ (s.lkc.state = .up → t.tmu.exchange = some ⟨n, none, none⟩)
          ∧ (s.lkc.state ≠ .up → s.tmu.link.qual ≠ .disabled →
              t.tmu.link.validRun = 0 ∧ t.tmu.link.invalidRun = min 3 (s.tmu.link.invalidRun + 1)))
    ∧ ((∀ x e, s.tmu.exchange = some x → x.sent = some e → e.timer < 50) → exec .replyTimerExpiry s = .next s)
    ∧ (∀ x e, s.tmu.exchange = some x → x.sent = some e → 50 ≤ e.timer →
        ∃ t, exec .replyTimerExpiry s = .next t ∧ t.tmu.exchange = none ∧ t.tmu.site = s.tmu.site ∧ t.lkc = s.lkc ∧ s.recordsStand t
          ∧ (s.tmu.link.qual ≠ .disabled → t.tmu.link.validRun = 0 ∧ t.tmu.link.invalidRun = min 3 (s.tmu.link.invalidRun + 1)))

/-- A far frame with a time exchange's reply, in UP (R136, R141, R143): with no request sent, or with another echo than its t1, the reply is
discarded; a matching one ends the exchange, as an invalid outcome where it is not usable, and otherwise as a valid one that sets LINK's
last sample and the last path delay, the receipt being the site time standing. A valid sample of a QUALIFIED LINK goes to TSU. While LINK is
DISABLED the last sample is set and nothing else, the last path delay standing (R136, R140). -/
def Obligations.TimeRepliesTaken : Prop :=
  ∀ (m : Int) (p : Option PatternCheck) (r : TimeReply) (s : State), s.lkc.state = .up →
    let c : Instr := .farFrame ⟨true, m, [], some r, none, p⟩
    let lkc : Lkc := { s.lkc with syncMiss := 0, far := some ⟨max (-400) (min 400 m), 0⟩, farPattern := p }
    ((∀ x e, s.tmu.exchange = some x → x.sent = some e → e.t1 ≠ r.echo) → exec c s = .next { s with lkc := lkc })
    ∧ ∀ x e, s.tmu.exchange = some x → x.sent = some e → e.t1 = r.echo →
        ∃ t, exec c s = .next t ∧ t.lkc = lkc ∧ t.tmu.exchange = none ∧ s.recordsStand t ∧ t.emitted = s.emitted
          ∧ (linkOutcome x.second e.t1 s.tmu.site r ((s.lkc.ladder.map Ladder.asymmetry).getD 0) = none →
              t.tmu.link.last = s.tmu.link.last ∧ t.tmu.pathDelay = s.tmu.pathDelay ∧ t.tmu.site = s.tmu.site
                ∧ (s.tmu.link.qual = .disabled → t.tmu.link = s.tmu.link)
                ∧ (s.tmu.link.qual ≠ .disabled →
                    t.tmu.link.validRun = 0 ∧ t.tmu.link.invalidRun = min 3 (s.tmu.link.invalidRun + 1)))
          ∧ ∀ sample delay,
              linkOutcome x.second e.t1 s.tmu.site r ((s.lkc.ladder.map Ladder.asymmetry).getD 0) = some (sample, delay) →
                t.tmu.link.last = some sample
                  ∧ (s.tmu.link.qual = .disabled →
                      t = { s with lkc := lkc, tmu := { s.tmu with exchange := none, link := { s.tmu.link with last := some sample } } })
                  ∧ (s.tmu.link.qual ≠ .disabled →
                      t.tmu.pathDelay = some delay ∧ t.tmu.link.validRun = min 8 (s.tmu.link.validRun + 1) ∧ t.tmu.link.invalidRun = 0)
                  ∧ (s.tmu.link.qual = .qualified → s.tsu.queued = [] → s.scu.site ≠ .bringup →
                      t.tsu = (tsuSample .link sample s).tsu)

/-- A sample of the selected source applied to the loop (R147, R148, R150 to R152): at a GNSS pulse with GNSS QUALIFIED and selected, and at
a far frame's matching reply with a usable outcome and LINK QUALIFIED and selected. In ACQUIRING one above the step limit, by its error or
its seconds mismatch, steps site time by its full difference and empties the history; in LOCKED one above the outlier limit sets the outlier
flag, is marked OUTSIDE and is not applied. Any other is marked INSIDE exactly within the lock window and applied with the bank of its
timing state. Eight marks INSIDE lock an acquiring loop; fewer than five of them return a locked one to ACQUIRING with an empty history. In
FREERUN and HOLDOVER nothing is applied. And the moves at a change of the selected source, which the history never outlives (R145, R147,
R154). That a step past either end of site time wraps, with the last second reached kept, is the model's choice (log entry 23). -/
def Obligations.SamplesMoveTheTimingState : Prop :=
  (∀ (c : Instr) (src : Source) (x : Sample) (lkc : Lkc) (s : State), s.tmu.selected = some src → (s.tmu.source src).qual = .qualified →
    ((src = .gnss ∧ c = .gnssPulse ∧ s.scu.site ≠ .loading ∧ lkc = s.lkc
        ∧ ∃ sec, s.tmu.message = some ⟨sec, true⟩ ∧ x = gnssSample s.tmu.site sec)
      ∨ (src = .link ∧ s.lkc.state = .up
        ∧ ∃ m p r e t1 timer delay, c = .farFrame ⟨true, m, [], some r, none, p⟩ ∧ s.tmu.exchange = some e ∧ e.sent = some ⟨t1, timer⟩
          ∧ r.echo = t1 ∧ lkc = { s.lkc with syncMiss := 0, far := some ⟨max (-400) (min 400 m), 0⟩, farPattern := p }
          ∧ linkOutcome e.second t1 s.tmu.site r ((s.lkc.ladder.map Ladder.asymmetry).getD 0) = some (x, delay))) →
    let above (limit : Nat) : Prop := x.mismatch ≠ 0 ∨ limit < x.error.natAbs
    let marked : List Mark :=
      ((if x.mismatch = 0 ∧ x.error.natAbs ≤ s.tmu.params.lockWindow then Mark.inside else Mark.outside) :: s.tmu.history).take 8
    let applied (t : Tmu) (bank : LoopBank) : Prop :=
      t.integ = (s.tmu.apply bank x.error).integ ∧ t.y = (s.tmu.apply bank x.error).y ∧ t.sticky = (s.tmu.apply bank x.error).sticky
    ∃ t, exec c s = .next t ∧ t.lkc = lkc ∧ s.recordsStand t
      ∧ (s.tmu.timing = .acquiring → above s.tmu.params.stepLimit →
          t.tmu.timing = .acquiring ∧ t.tmu.history = [] ∧ t.tmu.integ = s.tmu.integ ∧ t.tmu.y = s.tmu.y ∧ t.tmu.residue = 0
            ∧ t.tmu.site = timeOfNs (timeNs s.tmu.site - (x.error + x.mismatch * 1000000000)) ∧ t.tmu.lastSecond = s.tmu.lastSecond
            ∧ t.tmu.sticky = { s.tmu.sticky with stepped := true } ∧ t.tmu.exchange = none)
      ∧ (s.tmu.timing = .acquiring → ¬above s.tmu.params.stepLimit →
          applied t.tmu s.tmu.params.acquire ∧ t.tmu.history = marked ∧ t.tmu.site = s.tmu.site
            ∧ (marked.length = 8 ∧ (∀ a ∈ marked, a = .inside) →
                t.tmu.timing = .locked ∧ t.tmu.everLocked = true ∧ t.tmu.holdover = 0 ∧ t.tmu.cls = .phase)
            ∧ (¬(marked.length = 8 ∧ ∀ a ∈ marked, a = .inside) →
                t.tmu.timing = .acquiring ∧ t.tmu.everLocked = s.tmu.everLocked))
      ∧ (s.tmu.timing = .locked → above s.tmu.params.outlierLimit →
          t.tmu.integ = s.tmu.integ ∧ t.tmu.y = s.tmu.y ∧ t.tmu.sticky = { s.tmu.sticky with outlierSeen := true }
            ∧ (let h := (Mark.outside :: s.tmu.history).take 8
               (5 ≤ h.count .inside → t.tmu.timing = .locked ∧ t.tmu.history = h)
               ∧ (h.count .inside < 5 → t.tmu.timing = .acquiring ∧ t.tmu.history = [])))
      ∧ (s.tmu.timing = .locked → ¬above s.tmu.params.outlierLimit →
          applied t.tmu s.tmu.params.track
            ∧ (5 ≤ marked.count .inside → t.tmu.timing = .locked ∧ t.tmu.history = marked)
            ∧ (marked.count .inside < 5 → t.tmu.timing = .acquiring ∧ t.tmu.history = []))
      ∧ (s.tmu.timing = .freerun ∨ s.tmu.timing = .holdover →
          t.tmu.timing = s.tmu.timing ∧ t.tmu.history = s.tmu.history ∧ t.tmu.y = s.tmu.y ∧ t.tmu.site = s.tmu.site))
  ∧ ∀ s : State,
      (s.tmu.selection = s.tmu.selected → judgeSelection s = s)
      ∧ (s.tmu.selection ≠ s.tmu.selected →
          let t := (judgeSelection s).tmu
          t.selected = s.tmu.selection ∧ t.history = [] ∧ t.cls = t.derivedClass
            ∧ (∀ j, ((judgeSelection s).sli.events.get j).pending.has .source = true)
            ∧ (s.tmu.selection.isSome = true → t.timing = .acquiring ∧ t.y = s.tmu.y ∧ t.integ = s.tmu.integ)
            ∧ (s.tmu.selection = none →
                (s.tmu.timing = .locked → t.timing = .holdover ∧ t.holdover = 0 ∧ t.y = s.tmu.integ ∧ t.integ = s.tmu.integ)
                ∧ (s.tmu.timing = .acquiring → s.tmu.everLocked = true →
                    t.timing = .holdover ∧ t.holdover = s.tmu.params.hPhase ∧ t.y = s.tmu.integ ∧ t.integ = s.tmu.integ)
                ∧ (s.tmu.timing = .acquiring → s.tmu.everLocked = false → t.timing = .freerun ∧ t.y = 0 ∧ t.integ = 0)
                ∧ (s.tmu.timing = .freerun ∨ s.tmu.timing = .holdover → t.timing = s.tmu.timing ∧ t.y = s.tmu.y)))

/-- The pulse-per-second outputs (R124 to R126): at a crossing of its shifted time made by the advance, a slot that may emit emits once for
each second entered above the last one emitted, high at once or, where the output is still high, low with the pulse 1 local ms away, behind
those that wait already: each is emitted in its turn, so each second emitted has its leading edge. The width's end at 100 local ms drives
the output low. The crossing is then taken, emission or not. That a crossing not made, a delay or a width not run out and none at all have
no effect, several pulses waiting and a second of 2^48 are the model's choices (log entries 6, 5 and 15). -/
def Obligations.PulsesAreEmitted : Prop :=
  ∀ (k : Slot) (n : Int) (s : State),
    let g := s.tmu.pps.get k
    let put (h : PpsGen) : State := { s with tmu := { s.tmu with pps := s.tmu.pps.set k h } }
    let passed (h : PpsGen) : State :=
      { s with tmu := { s.tmu with
          pps := s.tmu.pps.set k h, crossed := { s.tmu.crossed with pulses := s.tmu.crossed.pulses.set k none } } }
    let held : Int := if n = 281474976710656 then 0 else n
    (s.tmu.crossed.pulses.get k ≠ some n → exec (.ppsEmission k n) s = .next s)
    ∧ (s.tmu.crossed.pulses.get k = some n →
      (s.mayEmit k = false → exec (.ppsEmission k n) s = .next (passed g))
      ∧ (∀ l, g.lastEmitted = some l → n ≤ l → exec (.ppsEmission k n) s = .next (passed g))
      ∧ (s.mayEmit k = true → (∀ l, g.lastEmitted = some l → l < n) →
          (g.high = false → exec (.ppsEmission k n) s = .next (passed { g with high := true, timer := some 0, lastEmitted := some held }))
          ∧ (g.high = true →
              exec (.ppsEmission k n) s
                = .next (passed { g with high := false, timer := none, delayed := g.delayed ++ [0], lastEmitted := some held }))))
    ∧ (g.delayed = [] → exec (.ppsDelayedEmission k) s = .next s)
    ∧ (∀ d rest, g.delayed = d :: rest →
        (d < 1 → exec (.ppsDelayedEmission k) s = .next s)
        ∧ (1 ≤ d → g.high = false →
            exec (.ppsDelayedEmission k) s = .next (put { g with high := true, timer := some 0, delayed := rest }))
        ∧ (1 ≤ d → g.high = true →
            exec (.ppsDelayedEmission k) s = .next (put { g with high := false, timer := none, delayed := rest ++ [0] })))
    ∧ ((∀ w, g.timer = some w → w < 100) → exec (.ppsPulseEnd k) s = .next s)
    ∧ ∀ w, g.timer = some w → 100 ≤ w → exec (.ppsPulseEnd k) s = .next (put { g with high := false, timer := none })

/-- The arithmetic of the loop and of a link exchange: the division by a power of two is the nearest integer with ties to even, or the
quotient toward zero (R153); the integrator and the correction are clamped to F_max, each clamp setting its sticky flag (R152); a reply
that is valid and in order gives an error and a path delay within half a nanosecond of the means, and otherwise no sample (R143). -/
def Obligations.DisciplineArithmetic : Prop :=
  (∀ (n : Int) (k : Nat),
    (2 * (n - divRound .nearestEven n k * 2 ^ k)).natAbs ≤ 2 ^ k
    ∧ ((2 * (n - divRound .nearestEven n k * 2 ^ k)).natAbs = 2 ^ k → divRound .nearestEven n k % 2 = 0)
    ∧ (n - divRound .towardZero n k * 2 ^ k).natAbs < 2 ^ k ∧ (divRound .towardZero n k * 2 ^ k).natAbs ≤ n.natAbs)
  ∧ (∀ (t : Tmu) (bank : LoopBank) (e : Int),
      let i := t.integ + divRound t.params.rounding (256 * e) bank.b
      let u := t.apply bank e
      u.integ = max (-12800000) (min 12800000 i)
      ∧ u.y = max (-12800000) (min 12800000 (u.integ + divRound t.params.rounding (256 * e) bank.a))
      ∧ u.sticky.integratorSaturated = (t.sticky.integratorSaturated || decide (i < -12800000 ∨ 12800000 < i))
      ∧ (let y := u.integ + divRound t.params.rounding (256 * e) bank.a
         u.sticky.correctionSaturated = (t.sticky.correctionSaturated || decide (y < -12800000 ∨ 12800000 < y)))
      ∧ u.sticky.stepped = t.sticky.stepped ∧ u.sticky.outlierSeen = t.sticky.outlierSeen)
  ∧ ∀ (n : Nat) (t1 t4 : SiteTime) (r : TimeReply) (asym : Int),
      let forward := timeNs r.t2 - timeNs t1
      let backward := timeNs t4 - timeNs r.t3
      let usable : Prop := r.valid = true ∧ timeNs r.t2 ≤ timeNs r.t3 ∧ 0 ≤ forward + backward
      (¬usable → linkOutcome n t1 t4 r asym = none)
      ∧ (usable → ∃ x delay, linkOutcome n t1 t4 r asym = some (x, delay) ∧ x.second = n ∧ x.mismatch = 0
          ∧ 2 * x.error ≤ backward - forward + asym ∧ backward - forward + asym < 2 * x.error + 2
          ∧ 2 * delay ≤ forward + backward ∧ forward + backward < 2 * delay + 2)

/-! ## Self-test orders (chapter 9) -/

/-- ORDER_TEST is open to a slot with TEST_SHARED, and with TEST_OWN for a PORT_LOOP on the slot itself; any other is refused DENIED (R163,
R195). It is refused FULL with 8 orders held and otherwise answered with the id given and the orders ahead: behind a running order the new
one joins the tail, and with none it starts where its start condition holds, or completes NOT_RUN (R162, R163, R166). CANCEL_TEST
refuses id 0, an id not held and another's order, decides the abort of a LINK_LOOP whose hold is taken and asks the loop to end by its phase
(R41), and ends any other order with its entry (R164, R165, R176, R183). The widths of the data are the model's reading (log entry 4). -/
def Obligations.OrdersArePlacedAndWithdrawn : Prop :=
  ∀ (k : Slot) (tag : Byte) (ps : List Byte) (s : State), s.standing k = true → s.noIdleQueue →
    let permitted (test : Test) : Prop :=
      s.holds k .testShared = true ∨ (s.holds k .testOwn = true ∧ ∃ n len, test = .portLoop k n len)
    (∀ test : Test, testParams ps = some test → ¬permitted test → exec (.orderTest k tag ps) s = .next (answer k tag .denied [] s))
    ∧ (∀ test : Test, testParams ps = some test → permitted test →
      (8 ≤ s.tsu.orders.length → exec (.orderTest k tag ps) s = .next (answer k tag .full [] s))
      ∧ (s.tsu.orders.length < 8 →
          ∃ t, exec (.orderTest k tag ps) s = .next (answer k tag .ok [.num 1 s.tsu.newId, .num 1 s.tsu.orders.length] t)
            ∧ s.tsu.newId ∉ s.tsu.orders.map Order.id
            ∧ (s.tsu.running.isSome = true →
                t = { s with tsu := { s.tsu with
                  queued := s.tsu.queued ++ [⟨s.tsu.newId, .slot k, test⟩], nextId := idAfter s.tsu.newId } })
            ∧ (s.tsu.running = none → s.startable test = true →
                t.tsu.running = some ⟨⟨s.tsu.newId, .slot k, test⟩, test.progress⟩ ∧ t.tsu.queued = [] ∧ t.tsu.log = s.tsu.log
                  ∧ t.tsu.nextId = idAfter s.tsu.newId
                  ∧ t = { s with tsu := t.tsu, tqm := t.tqm }
                  ∧ ∀ j, (∀ n len, test ≠ .portLoop j n len) → t.tqm.get j = s.tqm.get j)))
    ∧ (∀ (test : Test) (n : Nat), testParams ps = some test → permitted test → s.tsu.orders = [] →
        s.startable test = false → s.scu.site ≠ .bringup → s.tsu.nextSeq = some n →
          ∃ t e, exec (.orderTest k tag ps) s = .next (answer k tag .ok [.num 1 s.tsu.newId, .num 1 0] t) ∧ t.tsu.orders = []
            ∧ t.tsu.log.getLast? = some e ∧ e.seq = n ∧ e.outcome = .notRun ∧ e.order = ⟨s.tsu.newId, .slot k, test⟩
            ∧ e.measures = {} ∧ (t.sli.events.get k).pending.has .testDone = true
            ∧ (t.sli.events.get 0).pending.has .testDone = true)
    ∧ (∀ id : Nat, s.holds k .testShared = true ∨ s.holds k .testOwn = true → numParam 1 ps = some id →
        (id = 0 → exec (.cancelTest k tag ps) s = .next (answer k tag .badValue [] s))
        ∧ (0 < id → (∀ o ∈ s.tsu.orders, o.id ≠ id) → exec (.cancelTest k tag ps) s = .next (answer k tag .notFound [] s))
        ∧ ∀ o : Order, 0 < id → s.tsu.orders.find? (fun x => decide (x.id = id)) = some o →
            (s.holds k .testShared = false → o.requester ≠ .slot k → exec (.cancelTest k tag ps) s = .next (answer k tag .denied [] s))
            ∧ ((s.holds k .testShared = true ∨ o.requester = .slot k) →
                (∀ r p, s.tsu.running = some ⟨r, .linkLoop p⟩ → r.id = id → p.held = true → p.decided.isSome = true →
                  exec (.cancelTest k tag ps) s = .next (answer k tag .busy [] s))
                ∧ (∀ r p, s.tsu.running = some ⟨r, .linkLoop p⟩ → r.id = id → p.held = true → p.decided = none →
                    ∃ t, exec (.cancelTest k tag ps) s = .next (answer k tag .ok [] t)
                      ∧ t.loopProgress = some { p with decided := some (.aborted .cancel) } ∧ s.endsLoopEarly t
                      ∧ t = { s with lkc := t.lkc, emitted := t.emitted, tsu := { s.tsu with running := t.tsu.running } })
                ∧ (∀ r n, s.tsu.running = some r → r.order.id = id → (∀ p, r.progress = .linkLoop p → p.held = false ∧ p.decided = none) →
                    s.tsu.queued = [] → s.scu.site ≠ .bringup → s.tsu.nextSeq = some n →
                    ∃ t e, exec (.cancelTest k tag ps) s = .next (answer k tag .ok [] t) ∧ t.tsu.orders = []
                      ∧ t.tsu.log.getLast? = some e ∧ e.seq = n ∧ e.order = r.order ∧ e.outcome = .aborted .cancel
                      ∧ e.measures = measuresOf r.order r.progress)
                ∧ (∀ n, (∀ r, s.tsu.running = some r → r.order.id ≠ id) → s.tsu.running.isSome = true → s.scu.site ≠ .bringup →
                    s.tsu.nextSeq = some n →
                    ∃ t e, exec (.cancelTest k tag ps) s = .next (answer k tag .ok [] t) ∧ t.tsu.running = s.tsu.running
                      ∧ t.tsu.queued = s.tsu.queued.filter (fun x => decide (x.id ≠ id))
                      ∧ t.tsu.log.getLast? = some e ∧ e.seq = n ∧ e.order = o ∧ e.outcome = .cancelled ∧ e.measures = {})))

/-- A running PORT_LOOP (R168, R169): each local ms a packet falls due until the count were sent, and the send puts the next one out; a
return equal to the packet expected counts, and the last one ends the order PASS; any other return of this order's packets ends it FAIL with
one mismatch, and one of an earlier order is discarded; its timer at 2,000 ends it TIMEOUT. While none runs each of these has no effect.
That a send not due, a timer not at its limit and a stray occurrence do nothing is the model's reading (log entry 5), and so is that the
first packet goes at the first local ms and not at the start (log entry 38). -/
def Obligations.PortLoopRuns : Prop :=
  ∀ s : State,
    (s.loopSubject = none → (∀ r, s.tsu.running = some r → r.ofKind = true) →
      exec .portLoopPacketSend s = .next s ∧ (∀ q, exec (.portLoopReturn q) s = .next s) ∧ exec .loopTimerExpiry s = .next s)
    ∧ ∀ (id count len : Nat) (who : Requester) (k : Slot) (p : PortLoopProgress),
        s.tsu.running = some ⟨⟨id, who, .portLoop k count len⟩, .portLoop p⟩ →
        let at' (p' : PortLoopProgress) : State :=
          { s with tsu := { s.tsu with running := some ⟨⟨id, who, .portLoop k count len⟩, .portLoop p'⟩ } }
        let ends (i : Instr) (out : TestOutcome) (p' : PortLoopProgress) : Prop :=
          ∃ t, exec i s = .next t ∧ t.lkc = s.lkc ∧ t.tmu = s.tmu ∧ t.emitted = s.emitted ∧ s.recordsStand t
            ∧ ∀ n, s.tsu.queued = [] → s.scu.site ≠ .bringup → s.tsu.nextSeq = some n →
                t.tsu.running = none ∧ ∃ e, t.tsu.log.getLast? = some e ∧ e.seq = n ∧ e.outcome = out
                  ∧ e.order = ⟨id, who, .portLoop k count len⟩
                  ∧ e.measures = { pbSent := some (p'.sent * ((len + 63) / 64)), mismatched := some p'.mismatched }
        (p.sent < count → p.sent < p.timer →
          exec .portLoopPacketSend s
            = .next { at' { p with sent := p.sent + 1 } with emitted := s.emitted ++ [.testPacket k ⟨id, p.sent, len, true⟩] })
        ∧ (count ≤ p.sent ∨ p.timer ≤ p.sent → exec .portLoopPacketSend s = .next s)
        ∧ (p.returned + 1 < count →
            exec (.portLoopReturn ⟨id, p.returned, len, true⟩) s = .next (at' { p with returned := p.returned + 1 }))
        ∧ (count ≤ p.returned + 1 → ends (.portLoopReturn ⟨id, p.returned, len, true⟩) .pass p)
        ∧ (∀ q, q.order = id → q ≠ ⟨id, p.returned, len, true⟩ → ends (.portLoopReturn q) .fail { p with mismatched := 1 })
        ∧ (∀ q, q.order ≠ id → exec (.portLoopReturn q) s = .next s)
        ∧ (2000 ≤ p.timer → ends .loopTimerExpiry .timeout p)
        ∧ (p.timer < 2000 → exec .loopTimerExpiry s = .next s)

/-- A running AIR_PATTERN (R100, R170 to R173, R183, R184): a frame fill with a pass sends the borrow as pattern PB, counts one frame used
until the count is sent, ages the frames awaited and counts those of eight fills errored; the report of a far frame settles the frame it
names. It ends INCOMPLETE with the frame limit used and PB unsent, and with all sent and none awaited PASS or FAIL by its error limit; a
departure of the link ends it ABORTED(LINK_LOST): by LINK_RESTART, by the sixteenth far frame missing or unsynced in a row (R36), and by the
status report that finds or brings the low-margin run at its limit (R37). A site reset's departure is SiteResetRestartsTheBlocks. -/
def Obligations.AirPatternRuns : Prop :=
  ∀ (id n r f e : Nat) (who : Requester) (p : AirProgress) (s : State),
    s.tsu.running = some ⟨⟨id, who, .airPattern n r f e⟩, .airPattern p⟩ → s.lkc.state = .up →
    let closes (c : Instr) (out : TestOutcome) (p' : AirProgress) : Prop :=
      ∃ t, exec c s = .next t ∧ ∀ m, s.tsu.queued = [] → s.scu.site ≠ .bringup → s.tsu.nextSeq = some m →
        t.tsu.running = none ∧ ∃ x, t.tsu.log.getLast? = some x ∧ x.seq = m ∧ x.outcome = out
          ∧ x.order = ⟨id, who, .airPattern n r f e⟩
          ∧ x.measures = { pbSent := some p'.sent, pbErrored := some p'.errored, framesUsed := some p'.used }
    let judged (c : Instr) (p' : AirProgress) : Prop :=
      (p'.sent < n → p'.used < f → ∃ t, exec c s = .next t ∧ t.tsu = { s.tsu with running := some ⟨⟨id, who, .airPattern n r f e⟩, .airPattern p'⟩ })
      ∧ (p'.sent < n → f ≤ p'.used → closes c .incomplete p')
      ∧ (n ≤ p'.sent → p'.awaiting ≠ [] →
          ∃ t, exec c s = .next t ∧ t.tsu = { s.tsu with running := some ⟨⟨id, who, .airPattern n r f e⟩, .airPattern p'⟩ })
      ∧ (n ≤ p'.sent → p'.awaiting = [] → closes c (if p'.errored ≤ e then .pass else .fail) p')
    (s.lkc.notice = none → s.lkc.voided = none →
      let a := s.capacity s.lkc.rung - 4
      let b := min r (min (n - p.sent) (a - effectiveSum s.entrants))
      let away := ((p.awaiting.filter fun w => decide (8 ≤ w.fills + 1)).map Awaiting.pb).sum
      let next := (s.lkc.frame + 1) % 65536
      judged .frameFill
        { sent := p.sent + b, used := if p.sent < n then p.used + 1 else p.used, errored := min (p.errored + away) 4294967295,
          awaiting := ((p.awaiting.map fun w => { w with fills := w.fills + 1 }).filter fun w => decide (w.fills < 8))
            ++ if 0 < b then [⟨next, b, 0⟩] else [] }
      ∧ ∃ t x, exec .frameFill s = .next t ∧ t.lkc.unsent = s.lkc.unsent ++ [x] ∧ x.number = next ∧ x.pattern = b)
    ∧ (∀ (m : Int) (c : Option PatternCheck) (q : PatternReport),
        ((∀ w ∈ p.awaiting, w.frame ≠ q.frame) →
          ∃ t, exec (.farFrame ⟨true, m, [], none, some q, c⟩) s = .next t ∧ t.tsu = s.tsu)
        ∧ ∀ w, p.awaiting.find? (fun w => decide (w.frame = q.frame)) = some w →
            judged (.farFrame ⟨true, m, [], none, some q, c⟩)
              { p with awaiting := p.awaiting.filter (fun x => decide (x.frame ≠ q.frame)),
                       errored := min (p.errored + (q.errored + (w.pb - q.received))) 4294967295 })
    ∧ (∀ (k : Slot) (tag : Byte), s.mayAsk k .linkControl → closes (.linkRestart k tag []) (.aborted .linkLost) p)
    ∧ (∀ (c : Instr) (g : FarFrame), c = .missingFarFrame ∨ (c = .farFrame g ∧ g.sync = false) → 16 ≤ s.lkc.syncMiss + 1 →
        closes c (.aborted .linkLost) p)
    ∧ ∀ (c : Instr) (m : Int), c = .statusReport m ∨ (c = .missingStatusReport ∧ m = -400) →
        (let near := max (-400) (min 400 m)
         let eff := match s.lkc.far with
           | some x => if x.age ≤ 8 then min near x.value else near
           | none => near
         s.lkc.lossLimit ≤ s.lkc.lowRun ∨ ((∃ a, s.rungs[0]? = some a ∧ eff < a.down) ∧ s.lkc.lossLimit ≤ s.lkc.lowRun + 1)) →
        closes c (.aborted .linkLost) p

/-- A running TIME_COMPARE (R178, R179, R183, R184): a sample of either source is held until the other has one of the same site second, and
the comparison then counts and keeps the largest difference, 1,000,000,000 ns where a sample has a seconds mismatch; above the limit the
order ends FAIL, at the count PASS. A second boundary counts, and at twice the count the order ends INCOMPLETE, as it does when a source
leaves QUALIFIED: GNSS or LINK by its third outcome that is not valid, and either by the write of priority 0. At a GNSS pulse with GNSS
QUALIFIED and no exchange in flight TSU has exactly this of the pulse's sample. -/
def Obligations.TimeCompareRuns : Prop :=
  ∀ (id c l : Nat) (who : Requester) (p : CompareProgress) (s : State),
    s.tsu.running = some ⟨⟨id, who, .timeCompare c l⟩, .timeCompare p⟩ →
    let at' (p' : CompareProgress) : State :=
      { s with tsu := { s.tsu with running := some ⟨⟨id, who, .timeCompare c l⟩, .timeCompare p'⟩ } }
    let ended (t : State) (out : TestOutcome) (p' : CompareProgress) : Prop :=
      ∀ n, s.tsu.queued = [] → s.scu.site ≠ .bringup → s.tsu.nextSeq = some n →
        t.tsu.running = none ∧ ∃ e, t.tsu.log.getLast? = some e ∧ e.seq = n ∧ e.outcome = out
          ∧ e.order = ⟨id, who, .timeCompare c l⟩ ∧ e.measures = { maxDiff := if p'.made = 0 then none else some p'.maxDiff }
    (∀ (src : Source) (x : Sample),
      ((∀ y, p.heldOf src.other = some y → y.second ≠ x.second) → tsuSample src x s = at' (p.hold src x))
      ∧ ∀ y, p.heldOf src.other = some y → y.second = x.second → x.mismatch = 0 → y.mismatch = 0 →
          let d := (x.error - y.error).natAbs
          let p' : CompareProgress := { p with made := p.made + 1, maxDiff := max p.maxDiff d, heldGnss := none, heldLink := none }
          (l < d → ended (tsuSample src x s) .fail p')
          ∧ (d ≤ l → c ≤ p.made + 1 → ended (tsuSample src x s) .pass p')
          ∧ (d ≤ l → p.made + 1 < c → tsuSample src x s = at' p'))
    ∧ (∀ (src : Source) (x y : Sample), p.heldOf src.other = some y → y.second = x.second → x.mismatch ≠ 0 ∨ y.mismatch ≠ 0 →
        l < 1000000000 →
          ended (tsuSample src x s) .fail
            { p with made := p.made + 1, maxDiff := max p.maxDiff 1000000000, heldGnss := none, heldLink := none })
    ∧ (∀ sec, s.scu.site ≠ .loading → s.tmu.message = some ⟨sec, true⟩ → s.tmu.gnss.qual = .qualified → s.tmu.exchange = none →
        s.tsu.queued = [] → s.scu.site ≠ .bringup →
        ∃ t, exec .gnssPulse s = .next t ∧ t.tsu = (tsuSample .gnss (gnssSample s.tmu.site sec) s).tsu)
    ∧ (∀ n, s.scu.site ≠ .loading → s.tmu.crossed.second = some n → (∀ last, s.tmu.lastSecond = some last → last < n) →
        ∃ t, exec (.siteSecondBoundary n) s = .next t
          ∧ (2 * c ≤ p.boundaries + 1 → ended t .incomplete p)
          ∧ (p.boundaries + 1 < 2 * c → s.lkc.state = .up → s.tmu.exchange = none → s.scu.site ≠ .bringup →
              t.tsu = { s.tsu with running := some ⟨⟨id, who, .timeCompare c l⟩, .timeCompare { p with boundaries := p.boundaries + 1 }⟩ }))
    ∧ (∀ n, s.scu.site ≠ .loading → s.tmu.gnss.qual = .qualified → s.tmu.gnss.invalidRun = 2 → s.tmu.pulseTimer = some n → 1100 ≤ n →
        ∃ t, exec .pulseTimerExpiry s = .next t ∧ t.tmu.gnss.qual = .unqualified ∧ ended t .incomplete p)
    ∧ (∀ x e, s.tmu.link.qual = .qualified → s.tmu.link.invalidRun = 2 → s.tmu.exchange = some x → x.sent = some e → 50 ≤ e.timer →
        ∃ t, exec .replyTimerExpiry s = .next t ∧ t.tmu.link.qual = .unqualified ∧ ended t .incomplete p)
    ∧ ∀ (k : Slot) (tag : Byte) (ps : List Byte) (src : Source), s.mayAsk k .timeControl → priorityParams ps = some (src, 0) →
        (s.tmu.source src).qual = .qualified →
        ∃ t, exec (.setSourcePriority k tag ps) s = .next (answer k tag .ok [] t) ∧ (t.tmu.source src).qual = .disabled
          ∧ ended t .incomplete p
end

