-- ==== Sys2Proof/Laws/State.lean ====
section
/-! SUPPORT. What reading a field gives after each named update of the state: the update of one block, an emission, a command joining the
queue, and the four per-slot values. No later proof unfolds a record update. -/

namespace Sys2Proof

/-! ## The four per-slot values -/

section
variable {α β : Type}

@[simp] theorem PerSlot.get_modify_same (p : PerSlot α) (k : Slot) (f : α → α) : (p.modify k f).get k = f (p.get k) := by
  fin_cases k <;> rfl

theorem PerSlot.get_modify_ne (p : PerSlot α) {j k : Slot} (h : j ≠ k) (f : α → α) : (p.modify k f).get j = p.get j := by
  fin_cases k <;> fin_cases j <;> first | rfl | exact absurd rfl h

theorem PerSlot.get_modify (p : PerSlot α) (j k : Slot) (f : α → α) :
    (p.modify k f).get j = if j = k then f (p.get j) else p.get j := by
  split
  · next h => subst h; simp
  · next h => exact PerSlot.get_modify_ne p h f

@[simp] theorem PerSlot.get_set_same (p : PerSlot α) (k : Slot) (a : α) : (p.set k a).get k = a := by simp [PerSlot.set]

theorem PerSlot.get_set_ne (p : PerSlot α) {j k : Slot} (h : j ≠ k) (a : α) : (p.set k a).get j = p.get j :=
  PerSlot.get_modify_ne p h _

theorem PerSlot.get_set (p : PerSlot α) (j k : Slot) (a : α) : (p.set k a).get j = if j = k then a else p.get j :=
  PerSlot.get_modify p j k _

@[simp] theorem PerSlot.get_map (p : PerSlot α) (f : α → β) (k : Slot) : (p.map f).get k = f (p.get k) := by
  fin_cases k <;> rfl

@[simp] theorem PerSlot.get_ofFn (f : Slot → α) (k : Slot) : (PerSlot.ofFn f).get k = f k := by fin_cases k <;> rfl

/-- Two quadruples with the same four values are the same. -/
theorem PerSlot.eq_of_get {p q : PerSlot α} (h : ∀ k, p.get k = q.get k) : p = q := by
  cases p; cases q
  have h0 := h 0; have h1 := h 1; have h2 := h 2; have h3 := h 3
  simp_all [PerSlot.get]

/-- What holds of the four slots holds of every slot. -/
theorem forall_slot {P : Slot → Prop} (h0 : P 0) (h1 : P 1) (h2 : P 2) (h3 : P 3) : ∀ k, P k := by
  intro k; fin_cases k <;> assumption

theorem PerSlot.sum_ofFn (f : Slot → Nat) : (PerSlot.ofFn f).sum = f 0 + f 1 + f 2 + f 3 := rfl

theorem PerSlot.sum_eq_get (p : PerSlot Nat) : p.sum = p.get 0 + p.get 1 + p.get 2 + p.get 3 := rfl

end

end Sys2Proof

namespace Sys2Proof.Machine

open Sys2Proof

variable (s : State)

/-! ## updSli -/

@[simp] theorem State.updSli_pending (f : Sli → Sli) : (s.updSli f).pending = s.pending := rfl
@[simp] theorem State.updSli_sli (f : Sli → Sli) : (s.updSli f).sli = f s.sli := rfl
@[simp] theorem State.updSli_scu (f : Sli → Sli) : (s.updSli f).scu = s.scu := rfl
@[simp] theorem State.updSli_lkc (f : Sli → Sli) : (s.updSli f).lkc = s.lkc := rfl
@[simp] theorem State.updSli_tqm (f : Sli → Sli) : (s.updSli f).tqm = s.tqm := rfl
@[simp] theorem State.updSli_gre (f : Sli → Sli) : (s.updSli f).gre = s.gre := rfl
@[simp] theorem State.updSli_tmu (f : Sli → Sli) : (s.updSli f).tmu = s.tmu := rfl
@[simp] theorem State.updSli_tsu (f : Sli → Sli) : (s.updSli f).tsu = s.tsu := rfl
@[simp] theorem State.updSli_dsu (f : Sli → Sli) : (s.updSli f).dsu = s.dsu := rfl
@[simp] theorem State.updSli_subMs (f : Sli → Sli) : (s.updSli f).subMs = s.subMs := rfl
@[simp] theorem State.updSli_freeBytes (f : Sli → Sli) : (s.updSli f).freeBytes = s.freeBytes := rfl
@[simp] theorem State.updSli_emitted (f : Sli → Sli) : (s.updSli f).emitted = s.emitted := rfl

/-! ## updScu -/

@[simp] theorem State.updScu_pending (f : Scu → Scu) : (s.updScu f).pending = s.pending := rfl
@[simp] theorem State.updScu_sli (f : Scu → Scu) : (s.updScu f).sli = s.sli := rfl
@[simp] theorem State.updScu_scu (f : Scu → Scu) : (s.updScu f).scu = f s.scu := rfl
@[simp] theorem State.updScu_lkc (f : Scu → Scu) : (s.updScu f).lkc = s.lkc := rfl
@[simp] theorem State.updScu_tqm (f : Scu → Scu) : (s.updScu f).tqm = s.tqm := rfl
@[simp] theorem State.updScu_gre (f : Scu → Scu) : (s.updScu f).gre = s.gre := rfl
@[simp] theorem State.updScu_tmu (f : Scu → Scu) : (s.updScu f).tmu = s.tmu := rfl
@[simp] theorem State.updScu_tsu (f : Scu → Scu) : (s.updScu f).tsu = s.tsu := rfl
@[simp] theorem State.updScu_dsu (f : Scu → Scu) : (s.updScu f).dsu = s.dsu := rfl
@[simp] theorem State.updScu_subMs (f : Scu → Scu) : (s.updScu f).subMs = s.subMs := rfl
@[simp] theorem State.updScu_freeBytes (f : Scu → Scu) : (s.updScu f).freeBytes = s.freeBytes := rfl
@[simp] theorem State.updScu_emitted (f : Scu → Scu) : (s.updScu f).emitted = s.emitted := rfl

/-! ## updLkc -/

@[simp] theorem State.updLkc_pending (f : Lkc → Lkc) : (s.updLkc f).pending = s.pending := rfl
@[simp] theorem State.updLkc_sli (f : Lkc → Lkc) : (s.updLkc f).sli = s.sli := rfl
@[simp] theorem State.updLkc_scu (f : Lkc → Lkc) : (s.updLkc f).scu = s.scu := rfl
@[simp] theorem State.updLkc_lkc (f : Lkc → Lkc) : (s.updLkc f).lkc = f s.lkc := rfl
@[simp] theorem State.updLkc_tqm (f : Lkc → Lkc) : (s.updLkc f).tqm = s.tqm := rfl
@[simp] theorem State.updLkc_gre (f : Lkc → Lkc) : (s.updLkc f).gre = s.gre := rfl
@[simp] theorem State.updLkc_tmu (f : Lkc → Lkc) : (s.updLkc f).tmu = s.tmu := rfl
@[simp] theorem State.updLkc_tsu (f : Lkc → Lkc) : (s.updLkc f).tsu = s.tsu := rfl
@[simp] theorem State.updLkc_dsu (f : Lkc → Lkc) : (s.updLkc f).dsu = s.dsu := rfl
@[simp] theorem State.updLkc_subMs (f : Lkc → Lkc) : (s.updLkc f).subMs = s.subMs := rfl
@[simp] theorem State.updLkc_freeBytes (f : Lkc → Lkc) : (s.updLkc f).freeBytes = s.freeBytes := rfl
@[simp] theorem State.updLkc_emitted (f : Lkc → Lkc) : (s.updLkc f).emitted = s.emitted := rfl

/-! ## updTqm -/

@[simp] theorem State.updTqm_pending (f : PerSlot Traffic → PerSlot Traffic) : (s.updTqm f).pending = s.pending := rfl
@[simp] theorem State.updTqm_sli (f : PerSlot Traffic → PerSlot Traffic) : (s.updTqm f).sli = s.sli := rfl
@[simp] theorem State.updTqm_scu (f : PerSlot Traffic → PerSlot Traffic) : (s.updTqm f).scu = s.scu := rfl
@[simp] theorem State.updTqm_lkc (f : PerSlot Traffic → PerSlot Traffic) : (s.updTqm f).lkc = s.lkc := rfl
@[simp] theorem State.updTqm_tqm (f : PerSlot Traffic → PerSlot Traffic) : (s.updTqm f).tqm = f s.tqm := rfl
@[simp] theorem State.updTqm_gre (f : PerSlot Traffic → PerSlot Traffic) : (s.updTqm f).gre = s.gre := rfl
@[simp] theorem State.updTqm_tmu (f : PerSlot Traffic → PerSlot Traffic) : (s.updTqm f).tmu = s.tmu := rfl
@[simp] theorem State.updTqm_tsu (f : PerSlot Traffic → PerSlot Traffic) : (s.updTqm f).tsu = s.tsu := rfl
@[simp] theorem State.updTqm_dsu (f : PerSlot Traffic → PerSlot Traffic) : (s.updTqm f).dsu = s.dsu := rfl
@[simp] theorem State.updTqm_subMs (f : PerSlot Traffic → PerSlot Traffic) : (s.updTqm f).subMs = s.subMs := rfl
@[simp] theorem State.updTqm_freeBytes (f : PerSlot Traffic → PerSlot Traffic) : (s.updTqm f).freeBytes = s.freeBytes := rfl
@[simp] theorem State.updTqm_emitted (f : PerSlot Traffic → PerSlot Traffic) : (s.updTqm f).emitted = s.emitted := rfl

/-! ## updGre -/

@[simp] theorem State.updGre_pending (f : Gre → Gre) : (s.updGre f).pending = s.pending := rfl
@[simp] theorem State.updGre_sli (f : Gre → Gre) : (s.updGre f).sli = s.sli := rfl
@[simp] theorem State.updGre_scu (f : Gre → Gre) : (s.updGre f).scu = s.scu := rfl
@[simp] theorem State.updGre_lkc (f : Gre → Gre) : (s.updGre f).lkc = s.lkc := rfl
@[simp] theorem State.updGre_tqm (f : Gre → Gre) : (s.updGre f).tqm = s.tqm := rfl
@[simp] theorem State.updGre_gre (f : Gre → Gre) : (s.updGre f).gre = f s.gre := rfl
@[simp] theorem State.updGre_tmu (f : Gre → Gre) : (s.updGre f).tmu = s.tmu := rfl
@[simp] theorem State.updGre_tsu (f : Gre → Gre) : (s.updGre f).tsu = s.tsu := rfl
@[simp] theorem State.updGre_dsu (f : Gre → Gre) : (s.updGre f).dsu = s.dsu := rfl
@[simp] theorem State.updGre_subMs (f : Gre → Gre) : (s.updGre f).subMs = s.subMs := rfl
@[simp] theorem State.updGre_freeBytes (f : Gre → Gre) : (s.updGre f).freeBytes = s.freeBytes := rfl
@[simp] theorem State.updGre_emitted (f : Gre → Gre) : (s.updGre f).emitted = s.emitted := rfl

/-! ## updTmu -/

@[simp] theorem State.updTmu_pending (f : Tmu → Tmu) : (s.updTmu f).pending = s.pending := rfl
@[simp] theorem State.updTmu_sli (f : Tmu → Tmu) : (s.updTmu f).sli = s.sli := rfl
@[simp] theorem State.updTmu_scu (f : Tmu → Tmu) : (s.updTmu f).scu = s.scu := rfl
@[simp] theorem State.updTmu_lkc (f : Tmu → Tmu) : (s.updTmu f).lkc = s.lkc := rfl
@[simp] theorem State.updTmu_tqm (f : Tmu → Tmu) : (s.updTmu f).tqm = s.tqm := rfl
@[simp] theorem State.updTmu_gre (f : Tmu → Tmu) : (s.updTmu f).gre = s.gre := rfl
@[simp] theorem State.updTmu_tmu (f : Tmu → Tmu) : (s.updTmu f).tmu = f s.tmu := rfl
@[simp] theorem State.updTmu_tsu (f : Tmu → Tmu) : (s.updTmu f).tsu = s.tsu := rfl
@[simp] theorem State.updTmu_dsu (f : Tmu → Tmu) : (s.updTmu f).dsu = s.dsu := rfl
@[simp] theorem State.updTmu_subMs (f : Tmu → Tmu) : (s.updTmu f).subMs = s.subMs := rfl
@[simp] theorem State.updTmu_freeBytes (f : Tmu → Tmu) : (s.updTmu f).freeBytes = s.freeBytes := rfl
@[simp] theorem State.updTmu_emitted (f : Tmu → Tmu) : (s.updTmu f).emitted = s.emitted := rfl

/-! ## updTsu -/

@[simp] theorem State.updTsu_pending (f : Tsu → Tsu) : (s.updTsu f).pending = s.pending := rfl
@[simp] theorem State.updTsu_sli (f : Tsu → Tsu) : (s.updTsu f).sli = s.sli := rfl
@[simp] theorem State.updTsu_scu (f : Tsu → Tsu) : (s.updTsu f).scu = s.scu := rfl
@[simp] theorem State.updTsu_lkc (f : Tsu → Tsu) : (s.updTsu f).lkc = s.lkc := rfl
@[simp] theorem State.updTsu_tqm (f : Tsu → Tsu) : (s.updTsu f).tqm = s.tqm := rfl
@[simp] theorem State.updTsu_gre (f : Tsu → Tsu) : (s.updTsu f).gre = s.gre := rfl
@[simp] theorem State.updTsu_tmu (f : Tsu → Tsu) : (s.updTsu f).tmu = s.tmu := rfl
@[simp] theorem State.updTsu_tsu (f : Tsu → Tsu) : (s.updTsu f).tsu = f s.tsu := rfl
@[simp] theorem State.updTsu_dsu (f : Tsu → Tsu) : (s.updTsu f).dsu = s.dsu := rfl
@[simp] theorem State.updTsu_subMs (f : Tsu → Tsu) : (s.updTsu f).subMs = s.subMs := rfl
@[simp] theorem State.updTsu_freeBytes (f : Tsu → Tsu) : (s.updTsu f).freeBytes = s.freeBytes := rfl
@[simp] theorem State.updTsu_emitted (f : Tsu → Tsu) : (s.updTsu f).emitted = s.emitted := rfl

/-! ## updDsu -/

@[simp] theorem State.updDsu_pending (f : Dsu → Dsu) : (s.updDsu f).pending = s.pending := rfl
@[simp] theorem State.updDsu_sli (f : Dsu → Dsu) : (s.updDsu f).sli = s.sli := rfl
@[simp] theorem State.updDsu_scu (f : Dsu → Dsu) : (s.updDsu f).scu = s.scu := rfl
@[simp] theorem State.updDsu_lkc (f : Dsu → Dsu) : (s.updDsu f).lkc = s.lkc := rfl
@[simp] theorem State.updDsu_tqm (f : Dsu → Dsu) : (s.updDsu f).tqm = s.tqm := rfl
@[simp] theorem State.updDsu_gre (f : Dsu → Dsu) : (s.updDsu f).gre = s.gre := rfl
@[simp] theorem State.updDsu_tmu (f : Dsu → Dsu) : (s.updDsu f).tmu = s.tmu := rfl
@[simp] theorem State.updDsu_tsu (f : Dsu → Dsu) : (s.updDsu f).tsu = s.tsu := rfl
@[simp] theorem State.updDsu_dsu (f : Dsu → Dsu) : (s.updDsu f).dsu = f s.dsu := rfl
@[simp] theorem State.updDsu_subMs (f : Dsu → Dsu) : (s.updDsu f).subMs = s.subMs := rfl
@[simp] theorem State.updDsu_freeBytes (f : Dsu → Dsu) : (s.updDsu f).freeBytes = s.freeBytes := rfl
@[simp] theorem State.updDsu_emitted (f : Dsu → Dsu) : (s.updDsu f).emitted = s.emitted := rfl

/-! ## emit and enqueue -/

@[simp] theorem State.emit_pending (e : Emission) : (s.emit e).pending = s.pending := rfl
@[simp] theorem State.emit_sli (e : Emission) : (s.emit e).sli = s.sli := rfl
@[simp] theorem State.emit_scu (e : Emission) : (s.emit e).scu = s.scu := rfl
@[simp] theorem State.emit_lkc (e : Emission) : (s.emit e).lkc = s.lkc := rfl
@[simp] theorem State.emit_tqm (e : Emission) : (s.emit e).tqm = s.tqm := rfl
@[simp] theorem State.emit_gre (e : Emission) : (s.emit e).gre = s.gre := rfl
@[simp] theorem State.emit_tmu (e : Emission) : (s.emit e).tmu = s.tmu := rfl
@[simp] theorem State.emit_tsu (e : Emission) : (s.emit e).tsu = s.tsu := rfl
@[simp] theorem State.emit_dsu (e : Emission) : (s.emit e).dsu = s.dsu := rfl
@[simp] theorem State.emit_subMs (e : Emission) : (s.emit e).subMs = s.subMs := rfl
@[simp] theorem State.emit_freeBytes (e : Emission) : (s.emit e).freeBytes = s.freeBytes := rfl
@[simp] theorem State.emit_emitted (e : Emission) : (s.emit e).emitted = s.emitted ++ [e] := rfl

@[simp] theorem State.enqueue_pending (c : Instr) : (s.enqueue c).pending = s.pending ++ [c] := rfl
@[simp] theorem State.enqueue_sli (c : Instr) : (s.enqueue c).sli = s.sli := rfl
@[simp] theorem State.enqueue_scu (c : Instr) : (s.enqueue c).scu = s.scu := rfl
@[simp] theorem State.enqueue_lkc (c : Instr) : (s.enqueue c).lkc = s.lkc := rfl
@[simp] theorem State.enqueue_tqm (c : Instr) : (s.enqueue c).tqm = s.tqm := rfl
@[simp] theorem State.enqueue_gre (c : Instr) : (s.enqueue c).gre = s.gre := rfl
@[simp] theorem State.enqueue_tmu (c : Instr) : (s.enqueue c).tmu = s.tmu := rfl
@[simp] theorem State.enqueue_tsu (c : Instr) : (s.enqueue c).tsu = s.tsu := rfl
@[simp] theorem State.enqueue_dsu (c : Instr) : (s.enqueue c).dsu = s.dsu := rfl
@[simp] theorem State.enqueue_subMs (c : Instr) : (s.enqueue c).subMs = s.subMs := rfl
@[simp] theorem State.enqueue_freeBytes (c : Instr) : (s.enqueue c).freeBytes = s.freeBytes := rfl
@[simp] theorem State.enqueue_emitted (c : Instr) : (s.enqueue c).emitted = s.emitted := rfl

@[simp] theorem State.enqueueIf_sli (b : Bool) (c : Instr) : (s.enqueueIf b c).sli = s.sli := by
  cases b <;> rfl
@[simp] theorem State.enqueueIf_scu (b : Bool) (c : Instr) : (s.enqueueIf b c).scu = s.scu := by
  cases b <;> rfl
@[simp] theorem State.enqueueIf_lkc (b : Bool) (c : Instr) : (s.enqueueIf b c).lkc = s.lkc := by
  cases b <;> rfl
@[simp] theorem State.enqueueIf_tqm (b : Bool) (c : Instr) : (s.enqueueIf b c).tqm = s.tqm := by
  cases b <;> rfl
@[simp] theorem State.enqueueIf_gre (b : Bool) (c : Instr) : (s.enqueueIf b c).gre = s.gre := by
  cases b <;> rfl
@[simp] theorem State.enqueueIf_tmu (b : Bool) (c : Instr) : (s.enqueueIf b c).tmu = s.tmu := by
  cases b <;> rfl
@[simp] theorem State.enqueueIf_tsu (b : Bool) (c : Instr) : (s.enqueueIf b c).tsu = s.tsu := by
  cases b <;> rfl
@[simp] theorem State.enqueueIf_dsu (b : Bool) (c : Instr) : (s.enqueueIf b c).dsu = s.dsu := by
  cases b <;> rfl
@[simp] theorem State.enqueueIf_subMs (b : Bool) (c : Instr) : (s.enqueueIf b c).subMs = s.subMs := by
  cases b <;> rfl
@[simp] theorem State.enqueueIf_freeBytes (b : Bool) (c : Instr) : (s.enqueueIf b c).freeBytes = s.freeBytes := by
  cases b <;> rfl
@[simp] theorem State.enqueueIf_emitted (b : Bool) (c : Instr) : (s.enqueueIf b c).emitted = s.emitted := by
  cases b <;> rfl

end Sys2Proof.Machine
end

