-- ==== Sys2Proof/Laws/Orders.lean ====
section
/-! SUPPORT. What the shared operations over events, the site, test orders and time fitness leave alone: one theorem for each, every part
of the state it does not touch. -/

namespace Sys2Proof.Machine

open Sys2Proof

variable (s : State)

/-! ## Events, responses and lines -/

@[simp] theorem raiseIn_frame (e : EventKind) (k : Slot) :
    (raiseIn e k s).pending = s.pending ∧ (raiseIn e k s).scu = s.scu ∧ (raiseIn e k s).lkc = s.lkc ∧ (raiseIn e k s).tqm = s.tqm ∧
    (raiseIn e k s).gre = s.gre ∧ (raiseIn e k s).tmu = s.tmu ∧ (raiseIn e k s).tsu = s.tsu ∧ (raiseIn e k s).dsu = s.dsu ∧
    (raiseIn e k s).subMs = s.subMs ∧ (raiseIn e k s).freeBytes = s.freeBytes ∧ (raiseIn e k s).emitted = s.emitted ∧
    (raiseIn e k s).sli.links = s.sli.links ∧ (raiseIn e k s).sli.access = s.sli.access ∧ (raiseIn e k s).sli.lock = s.sli.lock ∧
    (raiseIn e k s).sli.strap = s.sli.strap := by
  simp [raiseIn]

@[simp] theorem raiseAll_frame (e : EventKind) :
    (raiseAll e s).pending = s.pending ∧ (raiseAll e s).scu = s.scu ∧ (raiseAll e s).lkc = s.lkc ∧ (raiseAll e s).tqm = s.tqm ∧
    (raiseAll e s).gre = s.gre ∧ (raiseAll e s).tmu = s.tmu ∧ (raiseAll e s).tsu = s.tsu ∧ (raiseAll e s).dsu = s.dsu ∧
    (raiseAll e s).subMs = s.subMs ∧ (raiseAll e s).freeBytes = s.freeBytes ∧ (raiseAll e s).emitted = s.emitted ∧
    (raiseAll e s).sli.links = s.sli.links ∧ (raiseAll e s).sli.access = s.sli.access ∧ (raiseAll e s).sli.lock = s.sli.lock ∧
    (raiseAll e s).sli.strap = s.sli.strap := by
  simp [raiseAll]

@[simp] theorem answer_frame (k : Slot) (tag : Byte) (st : Status) (data : List Field) :
    (answer k tag st data s).pending = s.pending ∧ (answer k tag st data s).scu = s.scu ∧ (answer k tag st data s).lkc = s.lkc ∧
    (answer k tag st data s).tqm = s.tqm ∧ (answer k tag st data s).gre = s.gre ∧ (answer k tag st data s).tmu = s.tmu ∧
    (answer k tag st data s).tsu = s.tsu ∧ (answer k tag st data s).dsu = s.dsu ∧ (answer k tag st data s).subMs = s.subMs ∧
    (answer k tag st data s).freeBytes = s.freeBytes ∧ (answer k tag st data s).emitted = s.emitted ∧
    (answer k tag st data s).sli.events = s.sli.events ∧ (answer k tag st data s).sli.access = s.sli.access ∧
    (answer k tag st data s).sli.lock = s.sli.lock ∧ (answer k tag st data s).sli.strap = s.sli.strap := by
  simp [answer]

@[simp] theorem recomputeInhibit_frame :
    (recomputeInhibit s).pending = s.pending ∧ (recomputeInhibit s).sli = s.sli ∧ (recomputeInhibit s).lkc = s.lkc ∧
    (recomputeInhibit s).tqm = s.tqm ∧ (recomputeInhibit s).gre = s.gre ∧ (recomputeInhibit s).tmu = s.tmu ∧
    (recomputeInhibit s).tsu = s.tsu ∧ (recomputeInhibit s).dsu = s.dsu ∧ (recomputeInhibit s).subMs = s.subMs ∧
    (recomputeInhibit s).freeBytes = s.freeBytes ∧ (recomputeInhibit s).emitted = s.emitted ∧
    (recomputeInhibit s).scu.site = s.scu.site ∧ (recomputeInhibit s).scu.wait = s.scu.wait ∧
    (recomputeInhibit s).scu.tracking = s.scu.tracking ∧ (recomputeInhibit s).scu.failure = s.scu.failure ∧
    (recomputeInhibit s).scu.entry = s.scu.entry ∧ (recomputeInhibit s).scu.ceiling = s.scu.ceiling ∧
    (recomputeInhibit s).scu.siteClass = s.scu.siteClass ∧ (recomputeInhibit s).scu.acceptanceSet = s.scu.acceptanceSet ∧
    (recomputeInhibit s).scu.tenants = s.scu.tenants ∧ (recomputeInhibit s).scu.fit = s.scu.fit := by
  simp [recomputeInhibit]

@[simp] theorem setSiteState_frame (st : SiteState) :
    (setSiteState st s).pending = s.pending ∧ (setSiteState st s).lkc = s.lkc ∧ (setSiteState st s).tqm = s.tqm ∧
    (setSiteState st s).gre = s.gre ∧ (setSiteState st s).tmu = s.tmu ∧ (setSiteState st s).tsu = s.tsu ∧
    (setSiteState st s).dsu = s.dsu ∧ (setSiteState st s).subMs = s.subMs ∧ (setSiteState st s).freeBytes = s.freeBytes ∧
    (setSiteState st s).emitted = s.emitted ∧ (setSiteState st s).sli.links = s.sli.links ∧
    (setSiteState st s).sli.access = s.sli.access ∧ (setSiteState st s).sli.lock = s.sli.lock ∧
    (setSiteState st s).sli.strap = s.sli.strap ∧ (setSiteState st s).scu.wait = s.scu.wait ∧
    (setSiteState st s).scu.tracking = s.scu.tracking ∧ (setSiteState st s).scu.failure = s.scu.failure ∧
    (setSiteState st s).scu.entry = s.scu.entry ∧ (setSiteState st s).scu.ceiling = s.scu.ceiling ∧
    (setSiteState st s).scu.siteClass = s.scu.siteClass ∧ (setSiteState st s).scu.acceptanceSet = s.scu.acceptanceSet ∧
    (setSiteState st s).scu.tenants = s.scu.tenants ∧ (setSiteState st s).scu.fit = s.scu.fit := by
  simp [setSiteState]

/-! ## The bring-up step -/

@[simp] theorem setWait_frame (w : Option BringupWait) :
    (setWait w s).pending = s.pending ∧ (setWait w s).sli = s.sli ∧ (setWait w s).lkc = s.lkc ∧ (setWait w s).tqm = s.tqm ∧
    (setWait w s).gre = s.gre ∧ (setWait w s).tmu = s.tmu ∧ (setWait w s).tsu = s.tsu ∧ (setWait w s).dsu = s.dsu ∧
    (setWait w s).subMs = s.subMs ∧ (setWait w s).freeBytes = s.freeBytes ∧ (setWait w s).emitted = s.emitted ∧
    (setWait w s).scu.site = s.scu.site ∧ (setWait w s).scu.tracking = s.scu.tracking ∧ (setWait w s).scu.failure = s.scu.failure ∧
    (setWait w s).scu.entry = s.scu.entry ∧ (setWait w s).scu.ceiling = s.scu.ceiling ∧
    (setWait w s).scu.siteClass = s.scu.siteClass ∧ (setWait w s).scu.acceptanceSet = s.scu.acceptanceSet ∧
    (setWait w s).scu.tenants = s.scu.tenants ∧ (setWait w s).scu.fit = s.scu.fit ∧ (setWait w s).scu.inhibit = s.scu.inhibit := by
  simp [setWait]

@[simp] theorem enterService_frame (e : ServiceEntry) :
    (enterService e s).pending = s.pending ∧ (enterService e s).lkc = s.lkc ∧ (enterService e s).tqm = s.tqm ∧
    (enterService e s).gre = s.gre ∧ (enterService e s).tmu = s.tmu ∧ (enterService e s).tsu = s.tsu ∧
    (enterService e s).dsu = s.dsu ∧ (enterService e s).subMs = s.subMs ∧ (enterService e s).freeBytes = s.freeBytes ∧
    (enterService e s).emitted = s.emitted ∧ (enterService e s).sli.links = s.sli.links ∧
    (enterService e s).sli.access = s.sli.access ∧ (enterService e s).sli.lock = s.sli.lock ∧
    (enterService e s).sli.strap = s.sli.strap ∧ (enterService e s).scu.tracking = s.scu.tracking ∧
    (enterService e s).scu.failure = s.scu.failure ∧ (enterService e s).scu.ceiling = s.scu.ceiling ∧
    (enterService e s).scu.siteClass = s.scu.siteClass ∧ (enterService e s).scu.acceptanceSet = s.scu.acceptanceSet ∧
    (enterService e s).scu.tenants = s.scu.tenants ∧ (enterService e s).scu.fit = s.scu.fit := by
  simp [enterService]

@[simp] theorem queueTemplate_frame (it : Nat × Test) :
    (queueTemplate s it).pending = s.pending ∧ (queueTemplate s it).sli = s.sli ∧ (queueTemplate s it).lkc = s.lkc ∧
    (queueTemplate s it).tqm = s.tqm ∧ (queueTemplate s it).gre = s.gre ∧ (queueTemplate s it).tmu = s.tmu ∧
    (queueTemplate s it).dsu = s.dsu ∧ (queueTemplate s it).subMs = s.subMs ∧ (queueTemplate s it).freeBytes = s.freeBytes ∧
    (queueTemplate s it).emitted = s.emitted ∧ (queueTemplate s it).scu.site = s.scu.site ∧
    (queueTemplate s it).scu.wait = s.scu.wait ∧ (queueTemplate s it).scu.failure = s.scu.failure ∧
    (queueTemplate s it).scu.entry = s.scu.entry ∧ (queueTemplate s it).scu.ceiling = s.scu.ceiling ∧
    (queueTemplate s it).scu.siteClass = s.scu.siteClass ∧ (queueTemplate s it).scu.acceptanceSet = s.scu.acceptanceSet ∧
    (queueTemplate s it).scu.tenants = s.scu.tenants ∧ (queueTemplate s it).scu.fit = s.scu.fit ∧
    (queueTemplate s it).scu.inhibit = s.scu.inhibit ∧ (queueTemplate s it).tsu.running = s.tsu.running ∧
    (queueTemplate s it).tsu.log = s.tsu.log ∧ (queueTemplate s it).tsu.nextSeq = s.tsu.nextSeq := by
  simp [queueTemplate, Tsu.place]

/-- What a step of a fold keeps, the fold keeps. -/
theorem foldl_keeps {α β : Type} (p : State → β) (f : State → α → State) (h : ∀ s a, p (f s a) = p s) (l : List α) :
    ∀ s, p (l.foldl f s) = p s := by
  induction l with
  | nil => intro s; rfl
  | cons a l ih => intro s; simp [ih, h]

@[simp] theorem queueAcceptance_frame :
    (queueAcceptance s).pending = s.pending ∧ (queueAcceptance s).sli = s.sli ∧ (queueAcceptance s).lkc = s.lkc ∧
    (queueAcceptance s).tqm = s.tqm ∧ (queueAcceptance s).gre = s.gre ∧ (queueAcceptance s).tmu = s.tmu ∧
    (queueAcceptance s).dsu = s.dsu ∧ (queueAcceptance s).subMs = s.subMs ∧ (queueAcceptance s).freeBytes = s.freeBytes ∧
    (queueAcceptance s).emitted = s.emitted ∧ (queueAcceptance s).scu.site = s.scu.site ∧
    (queueAcceptance s).scu.wait = s.scu.wait ∧ (queueAcceptance s).scu.failure = s.scu.failure ∧
    (queueAcceptance s).scu.entry = s.scu.entry ∧ (queueAcceptance s).scu.ceiling = s.scu.ceiling ∧
    (queueAcceptance s).scu.siteClass = s.scu.siteClass ∧ (queueAcceptance s).scu.acceptanceSet = s.scu.acceptanceSet ∧
    (queueAcceptance s).scu.tenants = s.scu.tenants ∧ (queueAcceptance s).scu.fit = s.scu.fit ∧
    (queueAcceptance s).scu.inhibit = s.scu.inhibit ∧ (queueAcceptance s).tsu.running = s.tsu.running ∧
    (queueAcceptance s).tsu.log = s.tsu.log ∧ (queueAcceptance s).tsu.nextSeq = s.tsu.nextSeq := by
  unfold queueAcceptance
  refine ⟨foldl_keeps (fun s => s.pending) _ (by simp) _ s, foldl_keeps (fun s => s.sli) _ (by simp) _ s, foldl_keeps (fun s => s.lkc) _ (by simp) _ s, foldl_keeps (fun s => s.tqm) _ (by simp) _ s, foldl_keeps (fun s => s.gre) _ (by simp) _ s, foldl_keeps (fun s => s.tmu) _ (by simp) _ s, foldl_keeps (fun s => s.dsu) _ (by simp) _ s, foldl_keeps (fun s => s.subMs) _ (by simp) _ s, foldl_keeps (fun s => s.freeBytes) _ (by simp) _ s, foldl_keeps (fun s => s.emitted) _ (by simp) _ s, foldl_keeps (fun s => s.scu.site) _ (by simp) _ s, foldl_keeps (fun s => s.scu.wait) _ (by simp) _ s, foldl_keeps (fun s => s.scu.failure) _ (by simp) _ s, foldl_keeps (fun s => s.scu.entry) _ (by simp) _ s, foldl_keeps (fun s => s.scu.ceiling) _ (by simp) _ s, foldl_keeps (fun s => s.scu.siteClass) _ (by simp) _ s, foldl_keeps (fun s => s.scu.acceptanceSet) _ (by simp) _ s, foldl_keeps (fun s => s.scu.tenants) _ (by simp) _ s, foldl_keeps (fun s => s.scu.fit) _ (by simp) _ s, foldl_keeps (fun s => s.scu.inhibit) _ (by simp) _ s, foldl_keeps (fun s => s.tsu.running) _ (by simp) _ s, foldl_keeps (fun s => s.tsu.log) _ (by simp) _ s, foldl_keeps (fun s => s.tsu.nextSeq) _ (by simp) _ s⟩

@[simp] theorem bringupStep_frame :
    (bringupStep s).pending = s.pending ∧ (bringupStep s).lkc = s.lkc ∧ (bringupStep s).tqm = s.tqm ∧ (bringupStep s).gre = s.gre ∧
    (bringupStep s).tmu = s.tmu ∧ (bringupStep s).dsu = s.dsu ∧ (bringupStep s).subMs = s.subMs ∧
    (bringupStep s).freeBytes = s.freeBytes ∧ (bringupStep s).emitted = s.emitted ∧ (bringupStep s).sli.links = s.sli.links ∧
    (bringupStep s).sli.access = s.sli.access ∧ (bringupStep s).sli.lock = s.sli.lock ∧ (bringupStep s).sli.strap = s.sli.strap ∧
    (bringupStep s).scu.ceiling = s.scu.ceiling ∧ (bringupStep s).scu.siteClass = s.scu.siteClass ∧
    (bringupStep s).scu.acceptanceSet = s.scu.acceptanceSet ∧ (bringupStep s).scu.tenants = s.scu.tenants ∧
    (bringupStep s).scu.fit = s.scu.fit ∧ (bringupStep s).scu.failure = s.scu.failure ∧
    (bringupStep s).tsu.running = s.tsu.running ∧ (bringupStep s).tsu.log = s.tsu.log ∧ (bringupStep s).tsu.nextSeq = s.tsu.nextSeq := by
  unfold bringupStep; (repeat' split) <;> simp

/-! ## Completions and starts -/

@[simp] theorem writeEntry_frame (o : Order) (out : TestOutcome) (m : Measures) :
    (writeEntry o out m s).pending = s.pending ∧ (writeEntry o out m s).sli = s.sli ∧ (writeEntry o out m s).scu = s.scu ∧
    (writeEntry o out m s).lkc = s.lkc ∧ (writeEntry o out m s).tqm = s.tqm ∧ (writeEntry o out m s).gre = s.gre ∧
    (writeEntry o out m s).tmu = s.tmu ∧ (writeEntry o out m s).dsu = s.dsu ∧ (writeEntry o out m s).subMs = s.subMs ∧
    (writeEntry o out m s).freeBytes = s.freeBytes ∧ (writeEntry o out m s).emitted = s.emitted ∧
    (writeEntry o out m s).tsu.running = s.tsu.running ∧ (writeEntry o out m s).tsu.queued = s.tsu.queued ∧
    (writeEntry o out m s).tsu.nextId = s.tsu.nextId := by
  unfold writeEntry; (repeat' split) <;> simp

@[simp] theorem raiseTestDone_frame (r : Requester) :
    (raiseTestDone r s).pending = s.pending ∧ (raiseTestDone r s).scu = s.scu ∧ (raiseTestDone r s).lkc = s.lkc ∧
    (raiseTestDone r s).tqm = s.tqm ∧ (raiseTestDone r s).gre = s.gre ∧ (raiseTestDone r s).tmu = s.tmu ∧
    (raiseTestDone r s).tsu = s.tsu ∧ (raiseTestDone r s).dsu = s.dsu ∧ (raiseTestDone r s).subMs = s.subMs ∧
    (raiseTestDone r s).freeBytes = s.freeBytes ∧ (raiseTestDone r s).emitted = s.emitted ∧
    (raiseTestDone r s).sli.links = s.sli.links ∧ (raiseTestDone r s).sli.access = s.sli.access ∧
    (raiseTestDone r s).sli.lock = s.sli.lock ∧ (raiseTestDone r s).sli.strap = s.sli.strap := by
  unfold raiseTestDone; (repeat' split) <;> simp

@[simp] theorem followAcceptance_frame (o : Order) (out : TestOutcome) :
    (followAcceptance o out s).pending = s.pending ∧ (followAcceptance o out s).lkc = s.lkc ∧
    (followAcceptance o out s).tqm = s.tqm ∧ (followAcceptance o out s).gre = s.gre ∧ (followAcceptance o out s).tmu = s.tmu ∧
    (followAcceptance o out s).tsu = s.tsu ∧ (followAcceptance o out s).dsu = s.dsu ∧ (followAcceptance o out s).subMs = s.subMs ∧
    (followAcceptance o out s).freeBytes = s.freeBytes ∧ (followAcceptance o out s).emitted = s.emitted ∧
    (followAcceptance o out s).sli.links = s.sli.links ∧ (followAcceptance o out s).sli.access = s.sli.access ∧
    (followAcceptance o out s).sli.lock = s.sli.lock ∧ (followAcceptance o out s).sli.strap = s.sli.strap ∧
    (followAcceptance o out s).scu.ceiling = s.scu.ceiling ∧ (followAcceptance o out s).scu.siteClass = s.scu.siteClass ∧
    (followAcceptance o out s).scu.acceptanceSet = s.scu.acceptanceSet ∧ (followAcceptance o out s).scu.tenants = s.scu.tenants ∧
    (followAcceptance o out s).scu.fit = s.scu.fit := by
  unfold followAcceptance; dsimp only; (repeat' split) <;> simp

@[simp] theorem reportCompletion_frame (o : Order) (out : TestOutcome) :
    (reportCompletion o out s).pending = s.pending ∧ (reportCompletion o out s).lkc = s.lkc ∧
    (reportCompletion o out s).tqm = s.tqm ∧ (reportCompletion o out s).gre = s.gre ∧ (reportCompletion o out s).tmu = s.tmu ∧
    (reportCompletion o out s).dsu = s.dsu ∧ (reportCompletion o out s).subMs = s.subMs ∧
    (reportCompletion o out s).freeBytes = s.freeBytes ∧ (reportCompletion o out s).emitted = s.emitted ∧
    (reportCompletion o out s).sli.links = s.sli.links ∧ (reportCompletion o out s).sli.access = s.sli.access ∧
    (reportCompletion o out s).sli.lock = s.sli.lock ∧ (reportCompletion o out s).sli.strap = s.sli.strap ∧
    (reportCompletion o out s).scu.ceiling = s.scu.ceiling ∧ (reportCompletion o out s).scu.siteClass = s.scu.siteClass ∧
    (reportCompletion o out s).scu.acceptanceSet = s.scu.acceptanceSet ∧ (reportCompletion o out s).scu.tenants = s.scu.tenants ∧
    (reportCompletion o out s).scu.fit = s.scu.fit ∧ (reportCompletion o out s).tsu.running = s.tsu.running ∧
    (reportCompletion o out s).tsu.log = s.tsu.log ∧ (reportCompletion o out s).tsu.nextSeq = s.tsu.nextSeq := by
  unfold reportCompletion; (repeat' split) <;> simp

@[simp] theorem completeOrder_frame (o : Order) (out : TestOutcome) (m : Measures) :
    (completeOrder o out m s).pending = s.pending ∧ (completeOrder o out m s).lkc = s.lkc ∧ (completeOrder o out m s).tqm = s.tqm ∧
    (completeOrder o out m s).gre = s.gre ∧ (completeOrder o out m s).tmu = s.tmu ∧ (completeOrder o out m s).dsu = s.dsu ∧
    (completeOrder o out m s).subMs = s.subMs ∧ (completeOrder o out m s).freeBytes = s.freeBytes ∧
    (completeOrder o out m s).emitted = s.emitted ∧ (completeOrder o out m s).sli.links = s.sli.links ∧
    (completeOrder o out m s).sli.access = s.sli.access ∧ (completeOrder o out m s).sli.lock = s.sli.lock ∧
    (completeOrder o out m s).sli.strap = s.sli.strap ∧ (completeOrder o out m s).scu.ceiling = s.scu.ceiling ∧
    (completeOrder o out m s).scu.siteClass = s.scu.siteClass ∧ (completeOrder o out m s).scu.acceptanceSet = s.scu.acceptanceSet ∧
    (completeOrder o out m s).scu.tenants = s.scu.tenants ∧ (completeOrder o out m s).scu.fit = s.scu.fit ∧
    (completeOrder o out m s).tsu.running = s.tsu.running := by
  simp [completeOrder]

@[simp] theorem startOrder_frame (o : Order) :
    (startOrder o s).pending = s.pending ∧ (startOrder o s).sli = s.sli ∧ (startOrder o s).scu = s.scu ∧
    (startOrder o s).lkc = s.lkc ∧ (startOrder o s).gre = s.gre ∧ (startOrder o s).tmu = s.tmu ∧ (startOrder o s).dsu = s.dsu ∧
    (startOrder o s).subMs = s.subMs ∧ (startOrder o s).freeBytes = s.freeBytes ∧ (startOrder o s).emitted = s.emitted ∧
    (startOrder o s).tsu.queued = s.tsu.queued ∧ (startOrder o s).tsu.nextId = s.tsu.nextId ∧
    (startOrder o s).tsu.log = s.tsu.log ∧ (startOrder o s).tsu.nextSeq = s.tsu.nextSeq := by
  unfold startOrder; dsimp only; (repeat' split) <;> simp

@[simp] theorem considerStart_frame (n : Nat) :
    (considerStart n s).pending = s.pending ∧ (considerStart n s).lkc = s.lkc ∧ (considerStart n s).gre = s.gre ∧
    (considerStart n s).tmu = s.tmu ∧ (considerStart n s).dsu = s.dsu ∧ (considerStart n s).subMs = s.subMs ∧
    (considerStart n s).freeBytes = s.freeBytes ∧ (considerStart n s).emitted = s.emitted ∧
    (considerStart n s).sli.links = s.sli.links ∧ (considerStart n s).sli.access = s.sli.access ∧
    (considerStart n s).sli.lock = s.sli.lock ∧ (considerStart n s).sli.strap = s.sli.strap ∧
    (considerStart n s).scu.ceiling = s.scu.ceiling ∧ (considerStart n s).scu.siteClass = s.scu.siteClass ∧
    (considerStart n s).scu.acceptanceSet = s.scu.acceptanceSet ∧ (considerStart n s).scu.tenants = s.scu.tenants ∧
    (considerStart n s).scu.fit = s.scu.fit := by
  induction n generalizing s with
  | zero => simp [considerStart]
  | succ n ih =>
    unfold considerStart
    split
    · dsimp only
      split
      · simp
      · simp [ih]
    · simp

@[simp] theorem settle_frame :
    (settle s).pending = s.pending ∧ (settle s).lkc = s.lkc ∧ (settle s).gre = s.gre ∧ (settle s).tmu = s.tmu ∧
    (settle s).dsu = s.dsu ∧ (settle s).subMs = s.subMs ∧ (settle s).freeBytes = s.freeBytes ∧ (settle s).emitted = s.emitted ∧
    (settle s).sli.links = s.sli.links ∧ (settle s).sli.access = s.sli.access ∧ (settle s).sli.lock = s.sli.lock ∧
    (settle s).sli.strap = s.sli.strap ∧ (settle s).scu.ceiling = s.scu.ceiling ∧ (settle s).scu.siteClass = s.scu.siteClass ∧
    (settle s).scu.acceptanceSet = s.scu.acceptanceSet ∧ (settle s).scu.tenants = s.scu.tenants ∧ (settle s).scu.fit = s.scu.fit := by
  simp [settle]

@[simp] theorem bringup_frame :
    (bringup s).pending = s.pending ∧ (bringup s).lkc = s.lkc ∧ (bringup s).gre = s.gre ∧ (bringup s).tmu = s.tmu ∧
    (bringup s).dsu = s.dsu ∧ (bringup s).subMs = s.subMs ∧ (bringup s).freeBytes = s.freeBytes ∧ (bringup s).emitted = s.emitted ∧
    (bringup s).sli.links = s.sli.links ∧ (bringup s).sli.access = s.sli.access ∧ (bringup s).sli.lock = s.sli.lock ∧
    (bringup s).sli.strap = s.sli.strap ∧ (bringup s).scu.ceiling = s.scu.ceiling ∧ (bringup s).scu.siteClass = s.scu.siteClass ∧
    (bringup s).scu.acceptanceSet = s.scu.acceptanceSet ∧ (bringup s).scu.tenants = s.scu.tenants ∧ (bringup s).scu.fit = s.scu.fit := by
  simp [bringup]

@[simp] theorem endRunning_frame (out : TestOutcome) :
    (endRunning out s).pending = s.pending ∧ (endRunning out s).lkc = s.lkc ∧ (endRunning out s).gre = s.gre ∧
    (endRunning out s).tmu = s.tmu ∧ (endRunning out s).dsu = s.dsu ∧ (endRunning out s).subMs = s.subMs ∧
    (endRunning out s).freeBytes = s.freeBytes ∧ (endRunning out s).emitted = s.emitted ∧
    (endRunning out s).sli.links = s.sli.links ∧ (endRunning out s).sli.access = s.sli.access ∧
    (endRunning out s).sli.lock = s.sli.lock ∧ (endRunning out s).sli.strap = s.sli.strap ∧
    (endRunning out s).scu.ceiling = s.scu.ceiling ∧ (endRunning out s).scu.siteClass = s.scu.siteClass ∧
    (endRunning out s).scu.acceptanceSet = s.scu.acceptanceSet ∧ (endRunning out s).scu.tenants = s.scu.tenants ∧
    (endRunning out s).scu.fit = s.scu.fit := by
  unfold endRunning; (repeat' split) <;> simp

/-! ## The running order -/

@[simp] theorem setProgress_frame (p : Progress) :
    (setProgress p s).pending = s.pending ∧ (setProgress p s).sli = s.sli ∧ (setProgress p s).scu = s.scu ∧
    (setProgress p s).lkc = s.lkc ∧ (setProgress p s).tqm = s.tqm ∧ (setProgress p s).gre = s.gre ∧ (setProgress p s).tmu = s.tmu ∧
    (setProgress p s).dsu = s.dsu ∧ (setProgress p s).subMs = s.subMs ∧ (setProgress p s).freeBytes = s.freeBytes ∧
    (setProgress p s).emitted = s.emitted ∧ (setProgress p s).tsu.queued = s.tsu.queued ∧
    (setProgress p s).tsu.nextId = s.tsu.nextId ∧ (setProgress p s).tsu.log = s.tsu.log ∧
    (setProgress p s).tsu.nextSeq = s.tsu.nextSeq := by
  simp [setProgress]

@[simp] theorem updLoop_frame (f : LoopProgress → LoopProgress) :
    (updLoop f s).pending = s.pending ∧ (updLoop f s).sli = s.sli ∧ (updLoop f s).scu = s.scu ∧ (updLoop f s).lkc = s.lkc ∧
    (updLoop f s).tqm = s.tqm ∧ (updLoop f s).gre = s.gre ∧ (updLoop f s).tmu = s.tmu ∧ (updLoop f s).dsu = s.dsu ∧
    (updLoop f s).subMs = s.subMs ∧ (updLoop f s).freeBytes = s.freeBytes ∧ (updLoop f s).emitted = s.emitted ∧
    (updLoop f s).tsu.queued = s.tsu.queued ∧ (updLoop f s).tsu.nextId = s.tsu.nextId ∧ (updLoop f s).tsu.log = s.tsu.log ∧
    (updLoop f s).tsu.nextSeq = s.tsu.nextSeq := by
  unfold updLoop; (repeat' split) <;> simp

@[simp] theorem decideLoop_frame (out : TestOutcome) :
    (decideLoop out s).pending = s.pending ∧ (decideLoop out s).sli = s.sli ∧ (decideLoop out s).scu = s.scu ∧
    (decideLoop out s).lkc = s.lkc ∧ (decideLoop out s).tqm = s.tqm ∧ (decideLoop out s).gre = s.gre ∧
    (decideLoop out s).tmu = s.tmu ∧ (decideLoop out s).dsu = s.dsu ∧ (decideLoop out s).subMs = s.subMs ∧
    (decideLoop out s).freeBytes = s.freeBytes ∧ (decideLoop out s).emitted = s.emitted ∧
    (decideLoop out s).tsu.queued = s.tsu.queued ∧ (decideLoop out s).tsu.nextId = s.tsu.nextId ∧
    (decideLoop out s).tsu.log = s.tsu.log ∧ (decideLoop out s).tsu.nextSeq = s.tsu.nextSeq := by
  simp [decideLoop]

@[simp] theorem countLooped_frame (n : Nat) :
    (countLooped n s).pending = s.pending ∧ (countLooped n s).sli = s.sli ∧ (countLooped n s).scu = s.scu ∧
    (countLooped n s).lkc = s.lkc ∧ (countLooped n s).tqm = s.tqm ∧ (countLooped n s).gre = s.gre ∧ (countLooped n s).tmu = s.tmu ∧
    (countLooped n s).dsu = s.dsu ∧ (countLooped n s).subMs = s.subMs ∧ (countLooped n s).freeBytes = s.freeBytes ∧
    (countLooped n s).emitted = s.emitted ∧ (countLooped n s).tsu.queued = s.tsu.queued ∧
    (countLooped n s).tsu.nextId = s.tsu.nextId ∧ (countLooped n s).tsu.log = s.tsu.log ∧
    (countLooped n s).tsu.nextSeq = s.tsu.nextSeq := by
  simp [countLooped]

@[simp] theorem sendTestPacket_frame :
    (sendTestPacket s).pending = s.pending ∧ (sendTestPacket s).sli = s.sli ∧ (sendTestPacket s).scu = s.scu ∧
    (sendTestPacket s).lkc = s.lkc ∧ (sendTestPacket s).tqm = s.tqm ∧ (sendTestPacket s).gre = s.gre ∧
    (sendTestPacket s).tmu = s.tmu ∧ (sendTestPacket s).dsu = s.dsu ∧ (sendTestPacket s).subMs = s.subMs ∧
    (sendTestPacket s).freeBytes = s.freeBytes ∧ (sendTestPacket s).tsu.queued = s.tsu.queued ∧
    (sendTestPacket s).tsu.nextId = s.tsu.nextId ∧ (sendTestPacket s).tsu.log = s.tsu.log ∧
    (sendTestPacket s).tsu.nextSeq = s.tsu.nextSeq := by
  unfold sendTestPacket; (repeat' split) <;> simp

@[simp] theorem returnTestPacket_frame (q : TestPacket) :
    (returnTestPacket q s).pending = s.pending ∧ (returnTestPacket q s).lkc = s.lkc ∧ (returnTestPacket q s).gre = s.gre ∧
    (returnTestPacket q s).tmu = s.tmu ∧ (returnTestPacket q s).dsu = s.dsu ∧ (returnTestPacket q s).subMs = s.subMs ∧
    (returnTestPacket q s).freeBytes = s.freeBytes ∧ (returnTestPacket q s).emitted = s.emitted ∧
    (returnTestPacket q s).sli.links = s.sli.links ∧ (returnTestPacket q s).sli.access = s.sli.access ∧
    (returnTestPacket q s).sli.lock = s.sli.lock ∧ (returnTestPacket q s).sli.strap = s.sli.strap ∧
    (returnTestPacket q s).scu.ceiling = s.scu.ceiling ∧ (returnTestPacket q s).scu.siteClass = s.scu.siteClass ∧
    (returnTestPacket q s).scu.acceptanceSet = s.scu.acceptanceSet ∧ (returnTestPacket q s).scu.tenants = s.scu.tenants ∧
    (returnTestPacket q s).scu.fit = s.scu.fit := by
  unfold returnTestPacket; dsimp only; (repeat' split) <;> simp

@[simp] theorem expireLoopTimer_frame :
    (expireLoopTimer s).pending = s.pending ∧ (expireLoopTimer s).lkc = s.lkc ∧ (expireLoopTimer s).gre = s.gre ∧
    (expireLoopTimer s).tmu = s.tmu ∧ (expireLoopTimer s).dsu = s.dsu ∧ (expireLoopTimer s).subMs = s.subMs ∧
    (expireLoopTimer s).freeBytes = s.freeBytes ∧ (expireLoopTimer s).emitted = s.emitted ∧
    (expireLoopTimer s).sli.links = s.sli.links ∧ (expireLoopTimer s).sli.access = s.sli.access ∧
    (expireLoopTimer s).sli.lock = s.sli.lock ∧ (expireLoopTimer s).sli.strap = s.sli.strap ∧
    (expireLoopTimer s).scu.ceiling = s.scu.ceiling ∧ (expireLoopTimer s).scu.siteClass = s.scu.siteClass ∧
    (expireLoopTimer s).scu.acceptanceSet = s.scu.acceptanceSet ∧ (expireLoopTimer s).scu.tenants = s.scu.tenants ∧
    (expireLoopTimer s).scu.fit = s.scu.fit := by
  unfold expireLoopTimer; (repeat' split) <;> simp

@[simp] theorem judgeAir_frame :
    (judgeAir s).pending = s.pending ∧ (judgeAir s).lkc = s.lkc ∧ (judgeAir s).gre = s.gre ∧ (judgeAir s).tmu = s.tmu ∧
    (judgeAir s).dsu = s.dsu ∧ (judgeAir s).subMs = s.subMs ∧ (judgeAir s).freeBytes = s.freeBytes ∧
    (judgeAir s).emitted = s.emitted ∧ (judgeAir s).sli.links = s.sli.links ∧ (judgeAir s).sli.access = s.sli.access ∧
    (judgeAir s).sli.lock = s.sli.lock ∧ (judgeAir s).sli.strap = s.sli.strap ∧ (judgeAir s).scu.ceiling = s.scu.ceiling ∧
    (judgeAir s).scu.siteClass = s.scu.siteClass ∧ (judgeAir s).scu.acceptanceSet = s.scu.acceptanceSet ∧
    (judgeAir s).scu.tenants = s.scu.tenants ∧ (judgeAir s).scu.fit = s.scu.fit := by
  unfold judgeAir; (repeat' split) <;> simp

@[simp] theorem airFill_frame (frame t : Nat) :
    (airFill frame t s).pending = s.pending ∧ (airFill frame t s).sli = s.sli ∧ (airFill frame t s).scu = s.scu ∧
    (airFill frame t s).lkc = s.lkc ∧ (airFill frame t s).tqm = s.tqm ∧ (airFill frame t s).gre = s.gre ∧
    (airFill frame t s).tmu = s.tmu ∧ (airFill frame t s).dsu = s.dsu ∧ (airFill frame t s).subMs = s.subMs ∧
    (airFill frame t s).freeBytes = s.freeBytes ∧ (airFill frame t s).emitted = s.emitted ∧
    (airFill frame t s).tsu.queued = s.tsu.queued ∧ (airFill frame t s).tsu.nextId = s.tsu.nextId ∧
    (airFill frame t s).tsu.log = s.tsu.log ∧ (airFill frame t s).tsu.nextSeq = s.tsu.nextSeq := by
  unfold airFill; (repeat' split) <;> simp

@[simp] theorem airReport_frame (r : PatternReport) :
    (airReport r s).pending = s.pending ∧ (airReport r s).lkc = s.lkc ∧ (airReport r s).gre = s.gre ∧ (airReport r s).tmu = s.tmu ∧
    (airReport r s).dsu = s.dsu ∧ (airReport r s).subMs = s.subMs ∧ (airReport r s).freeBytes = s.freeBytes ∧
    (airReport r s).emitted = s.emitted ∧ (airReport r s).sli.links = s.sli.links ∧ (airReport r s).sli.access = s.sli.access ∧
    (airReport r s).sli.lock = s.sli.lock ∧ (airReport r s).sli.strap = s.sli.strap ∧ (airReport r s).scu.ceiling = s.scu.ceiling ∧
    (airReport r s).scu.siteClass = s.scu.siteClass ∧ (airReport r s).scu.acceptanceSet = s.scu.acceptanceSet ∧
    (airReport r s).scu.tenants = s.scu.tenants ∧ (airReport r s).scu.fit = s.scu.fit := by
  unfold airReport; (repeat' split) <;> simp

@[simp] theorem tsuDepart_frame (out : TestOutcome) :
    (tsuDepart out s).pending = s.pending ∧ (tsuDepart out s).lkc = s.lkc ∧ (tsuDepart out s).gre = s.gre ∧
    (tsuDepart out s).tmu = s.tmu ∧ (tsuDepart out s).dsu = s.dsu ∧ (tsuDepart out s).subMs = s.subMs ∧
    (tsuDepart out s).freeBytes = s.freeBytes ∧ (tsuDepart out s).emitted = s.emitted ∧ (tsuDepart out s).sli.links = s.sli.links ∧
    (tsuDepart out s).sli.access = s.sli.access ∧ (tsuDepart out s).sli.lock = s.sli.lock ∧
    (tsuDepart out s).sli.strap = s.sli.strap ∧ (tsuDepart out s).scu.ceiling = s.scu.ceiling ∧
    (tsuDepart out s).scu.siteClass = s.scu.siteClass ∧ (tsuDepart out s).scu.acceptanceSet = s.scu.acceptanceSet ∧
    (tsuDepart out s).scu.tenants = s.scu.tenants ∧ (tsuDepart out s).scu.fit = s.scu.fit := by
  unfold tsuDepart; (repeat' split) <;> simp

@[simp] theorem tsuSample_frame (src : Source) (x : Sample) :
    (tsuSample src x s).pending = s.pending ∧ (tsuSample src x s).lkc = s.lkc ∧ (tsuSample src x s).gre = s.gre ∧
    (tsuSample src x s).tmu = s.tmu ∧ (tsuSample src x s).dsu = s.dsu ∧ (tsuSample src x s).subMs = s.subMs ∧
    (tsuSample src x s).freeBytes = s.freeBytes ∧ (tsuSample src x s).emitted = s.emitted ∧
    (tsuSample src x s).sli.links = s.sli.links ∧ (tsuSample src x s).sli.access = s.sli.access ∧
    (tsuSample src x s).sli.lock = s.sli.lock ∧ (tsuSample src x s).sli.strap = s.sli.strap ∧
    (tsuSample src x s).scu.ceiling = s.scu.ceiling ∧ (tsuSample src x s).scu.siteClass = s.scu.siteClass ∧
    (tsuSample src x s).scu.acceptanceSet = s.scu.acceptanceSet ∧ (tsuSample src x s).scu.tenants = s.scu.tenants ∧
    (tsuSample src x s).scu.fit = s.scu.fit := by
  unfold tsuSample; dsimp only; (repeat' split) <;> simp

@[simp] theorem tsuBoundary_frame :
    (tsuBoundary s).pending = s.pending ∧ (tsuBoundary s).lkc = s.lkc ∧ (tsuBoundary s).gre = s.gre ∧ (tsuBoundary s).tmu = s.tmu ∧
    (tsuBoundary s).dsu = s.dsu ∧ (tsuBoundary s).subMs = s.subMs ∧ (tsuBoundary s).freeBytes = s.freeBytes ∧
    (tsuBoundary s).emitted = s.emitted ∧ (tsuBoundary s).sli.links = s.sli.links ∧ (tsuBoundary s).sli.access = s.sli.access ∧
    (tsuBoundary s).sli.lock = s.sli.lock ∧ (tsuBoundary s).sli.strap = s.sli.strap ∧ (tsuBoundary s).scu.ceiling = s.scu.ceiling ∧
    (tsuBoundary s).scu.siteClass = s.scu.siteClass ∧ (tsuBoundary s).scu.acceptanceSet = s.scu.acceptanceSet ∧
    (tsuBoundary s).scu.tenants = s.scu.tenants ∧ (tsuBoundary s).scu.fit = s.scu.fit := by
  unfold tsuBoundary; dsimp only; (repeat' split) <;> simp

@[simp] theorem tsuSourceLeft_frame :
    (tsuSourceLeft s).pending = s.pending ∧ (tsuSourceLeft s).lkc = s.lkc ∧ (tsuSourceLeft s).gre = s.gre ∧
    (tsuSourceLeft s).tmu = s.tmu ∧ (tsuSourceLeft s).dsu = s.dsu ∧ (tsuSourceLeft s).subMs = s.subMs ∧
    (tsuSourceLeft s).freeBytes = s.freeBytes ∧ (tsuSourceLeft s).emitted = s.emitted ∧ (tsuSourceLeft s).sli.links = s.sli.links ∧
    (tsuSourceLeft s).sli.access = s.sli.access ∧ (tsuSourceLeft s).sli.lock = s.sli.lock ∧
    (tsuSourceLeft s).sli.strap = s.sli.strap ∧ (tsuSourceLeft s).scu.ceiling = s.scu.ceiling ∧
    (tsuSourceLeft s).scu.siteClass = s.scu.siteClass ∧ (tsuSourceLeft s).scu.acceptanceSet = s.scu.acceptanceSet ∧
    (tsuSourceLeft s).scu.tenants = s.scu.tenants ∧ (tsuSourceLeft s).scu.fit = s.scu.fit := by
  unfold tsuSourceLeft; (repeat' split) <;> simp

@[simp] theorem tsuSiteReset_frame :
    (tsuSiteReset s).pending = s.pending ∧ (tsuSiteReset s).lkc = s.lkc ∧ (tsuSiteReset s).gre = s.gre ∧
    (tsuSiteReset s).tmu = s.tmu ∧ (tsuSiteReset s).dsu = s.dsu ∧ (tsuSiteReset s).subMs = s.subMs ∧
    (tsuSiteReset s).freeBytes = s.freeBytes ∧ (tsuSiteReset s).emitted = s.emitted ∧ (tsuSiteReset s).sli.links = s.sli.links ∧
    (tsuSiteReset s).sli.access = s.sli.access ∧ (tsuSiteReset s).sli.lock = s.sli.lock ∧
    (tsuSiteReset s).sli.strap = s.sli.strap ∧ (tsuSiteReset s).scu.ceiling = s.scu.ceiling ∧
    (tsuSiteReset s).scu.siteClass = s.scu.siteClass ∧ (tsuSiteReset s).scu.acceptanceSet = s.scu.acceptanceSet ∧
    (tsuSiteReset s).scu.tenants = s.scu.tenants ∧ (tsuSiteReset s).scu.fit = s.scu.fit := by
  simp [tsuSiteReset]

@[simp] theorem removeQueued_frame (k : Slot) :
    (removeQueued k s).pending = s.pending ∧ (removeQueued k s).lkc = s.lkc ∧ (removeQueued k s).tqm = s.tqm ∧
    (removeQueued k s).gre = s.gre ∧ (removeQueued k s).tmu = s.tmu ∧ (removeQueued k s).dsu = s.dsu ∧
    (removeQueued k s).subMs = s.subMs ∧ (removeQueued k s).freeBytes = s.freeBytes ∧ (removeQueued k s).emitted = s.emitted ∧
    (removeQueued k s).sli.links = s.sli.links ∧ (removeQueued k s).sli.access = s.sli.access ∧
    (removeQueued k s).sli.lock = s.sli.lock ∧ (removeQueued k s).sli.strap = s.sli.strap ∧
    (removeQueued k s).scu.ceiling = s.scu.ceiling ∧ (removeQueued k s).scu.siteClass = s.scu.siteClass ∧
    (removeQueued k s).scu.acceptanceSet = s.scu.acceptanceSet ∧ (removeQueued k s).scu.tenants = s.scu.tenants ∧
    (removeQueued k s).scu.fit = s.scu.fit ∧ (removeQueued k s).tsu.running = s.tsu.running ∧
    (removeQueued k s).tsu.log = s.tsu.log ∧ (removeQueued k s).tsu.nextSeq = s.tsu.nextSeq := by
  unfold removeQueued; dsimp only; (repeat' split) <;> simp

/-! ## Fitness and the published class -/

@[simp] theorem judgeFitness_frame (k : Slot) :
    (judgeFitness s k).pending = s.pending ∧ (judgeFitness s k).lkc = s.lkc ∧ (judgeFitness s k).tqm = s.tqm ∧
    (judgeFitness s k).gre = s.gre ∧ (judgeFitness s k).tmu = s.tmu ∧ (judgeFitness s k).tsu = s.tsu ∧
    (judgeFitness s k).dsu = s.dsu ∧ (judgeFitness s k).subMs = s.subMs ∧ (judgeFitness s k).freeBytes = s.freeBytes ∧
    (judgeFitness s k).emitted = s.emitted ∧ (judgeFitness s k).sli.links = s.sli.links ∧
    (judgeFitness s k).sli.access = s.sli.access ∧ (judgeFitness s k).sli.lock = s.sli.lock ∧
    (judgeFitness s k).sli.strap = s.sli.strap ∧ (judgeFitness s k).scu.site = s.scu.site ∧
    (judgeFitness s k).scu.wait = s.scu.wait ∧ (judgeFitness s k).scu.tracking = s.scu.tracking ∧
    (judgeFitness s k).scu.failure = s.scu.failure ∧ (judgeFitness s k).scu.entry = s.scu.entry ∧
    (judgeFitness s k).scu.ceiling = s.scu.ceiling ∧ (judgeFitness s k).scu.siteClass = s.scu.siteClass ∧
    (judgeFitness s k).scu.acceptanceSet = s.scu.acceptanceSet ∧ (judgeFitness s k).scu.tenants = s.scu.tenants ∧
    (judgeFitness s k).scu.inhibit = s.scu.inhibit := by
  unfold judgeFitness; dsimp only; (repeat' split) <;> simp

theorem judgeFitnessAll_keeps {β : Type} (p : State → β) (h : ∀ s k, p (judgeFitness s k) = p s) :
    p (allSlots.foldl judgeFitness s) = p s := foldl_keeps p _ h _ s

@[simp] theorem classPublished_frame :
    (classPublished s).pending = s.pending ∧ (classPublished s).lkc = s.lkc ∧ (classPublished s).gre = s.gre ∧
    (classPublished s).tmu = s.tmu ∧ (classPublished s).dsu = s.dsu ∧ (classPublished s).subMs = s.subMs ∧
    (classPublished s).freeBytes = s.freeBytes ∧ (classPublished s).emitted = s.emitted ∧
    (classPublished s).sli.links = s.sli.links ∧ (classPublished s).sli.access = s.sli.access ∧
    (classPublished s).sli.lock = s.sli.lock ∧ (classPublished s).sli.strap = s.sli.strap ∧
    (classPublished s).scu.ceiling = s.scu.ceiling ∧ (classPublished s).scu.siteClass = s.scu.siteClass ∧
    (classPublished s).scu.acceptanceSet = s.scu.acceptanceSet ∧ (classPublished s).scu.tenants = s.scu.tenants := by
  unfold classPublished
  simp [allSlots]

end Sys2Proof.Machine
end

