-- ==== Sys2Proof/Laws/Clock.lean ====
section
/-! SUPPORT. What the shared operations over the queues, the grants and site time leave alone: one theorem for each. -/

namespace Sys2Proof.Machine

open Sys2Proof

variable (s : State)

/-! ## Queues -/

@[simp] theorem offer_frame (k : Slot) (bytes : List Byte) :
    (offer k bytes s).pending = s.pending ∧ (offer k bytes s).scu = s.scu ∧ (offer k bytes s).lkc = s.lkc ∧
    (offer k bytes s).gre = s.gre ∧ (offer k bytes s).tmu = s.tmu ∧ (offer k bytes s).tsu = s.tsu ∧ (offer k bytes s).dsu = s.dsu ∧
    (offer k bytes s).subMs = s.subMs ∧ (offer k bytes s).freeBytes = s.freeBytes ∧ (offer k bytes s).emitted = s.emitted ∧
    (offer k bytes s).sli.links = s.sli.links ∧ (offer k bytes s).sli.access = s.sli.access ∧
    (offer k bytes s).sli.lock = s.sli.lock ∧ (offer k bytes s).sli.strap = s.sli.strap := by
  unfold offer; (repeat' split) <;> simp

@[simp] theorem dropMalformed_frame (k : Slot) :
    (dropMalformed k s).pending = s.pending ∧ (dropMalformed k s).sli = s.sli ∧ (dropMalformed k s).scu = s.scu ∧
    (dropMalformed k s).lkc = s.lkc ∧ (dropMalformed k s).gre = s.gre ∧ (dropMalformed k s).tmu = s.tmu ∧
    (dropMalformed k s).tsu = s.tsu ∧ (dropMalformed k s).dsu = s.dsu ∧ (dropMalformed k s).subMs = s.subMs ∧
    (dropMalformed k s).freeBytes = s.freeBytes ∧ (dropMalformed k s).emitted = s.emitted := by
  simp [dropMalformed]

@[simp] theorem arrive_frame (k : Slot) (bytes : List Byte) (cut : Bool) :
    (arrive k bytes cut s).pending = s.pending ∧ (arrive k bytes cut s).scu = s.scu ∧ (arrive k bytes cut s).lkc = s.lkc ∧
    (arrive k bytes cut s).gre = s.gre ∧ (arrive k bytes cut s).tmu = s.tmu ∧ (arrive k bytes cut s).tsu = s.tsu ∧
    (arrive k bytes cut s).dsu = s.dsu ∧ (arrive k bytes cut s).subMs = s.subMs ∧ (arrive k bytes cut s).freeBytes = s.freeBytes ∧
    (arrive k bytes cut s).emitted = s.emitted ∧ (arrive k bytes cut s).sli.links = s.sli.links ∧
    (arrive k bytes cut s).sli.access = s.sli.access ∧ (arrive k bytes cut s).sli.lock = s.sli.lock ∧
    (arrive k bytes cut s).sli.strap = s.sli.strap := by
  unfold arrive; (repeat' split) <;> simp

@[simp] theorem drainAll_frame (g : PerSlot Nat) :
    ((drainAll g s).2).pending = s.pending ∧ ((drainAll g s).2).sli = s.sli ∧ ((drainAll g s).2).scu = s.scu ∧
    ((drainAll g s).2).lkc = s.lkc ∧ ((drainAll g s).2).gre = s.gre ∧ ((drainAll g s).2).tmu = s.tmu ∧
    ((drainAll g s).2).tsu = s.tsu ∧ ((drainAll g s).2).dsu = s.dsu ∧ ((drainAll g s).2).subMs = s.subMs ∧
    ((drainAll g s).2).freeBytes = s.freeBytes ∧ ((drainAll g s).2).emitted = s.emitted := by
  simp [drainAll]

@[simp] theorem tqmDepart_frame :
    (tqmDepart s).pending = s.pending ∧ (tqmDepart s).sli = s.sli ∧ (tqmDepart s).scu = s.scu ∧ (tqmDepart s).lkc = s.lkc ∧
    (tqmDepart s).gre = s.gre ∧ (tqmDepart s).tmu = s.tmu ∧ (tqmDepart s).tsu = s.tsu ∧ (tqmDepart s).dsu = s.dsu ∧
    (tqmDepart s).subMs = s.subMs ∧ (tqmDepart s).freeBytes = s.freeBytes ∧ (tqmDepart s).emitted = s.emitted := by
  simp [tqmDepart]

@[simp] theorem tqmSlotState_frame (k : Slot) (new : SlotState) :
    (tqmSlotState k new s).pending = s.pending ∧ (tqmSlotState k new s).sli = s.sli ∧ (tqmSlotState k new s).scu = s.scu ∧
    (tqmSlotState k new s).lkc = s.lkc ∧ (tqmSlotState k new s).gre = s.gre ∧ (tqmSlotState k new s).tmu = s.tmu ∧
    (tqmSlotState k new s).tsu = s.tsu ∧ (tqmSlotState k new s).dsu = s.dsu ∧ (tqmSlotState k new s).subMs = s.subMs ∧
    (tqmSlotState k new s).freeBytes = s.freeBytes ∧ (tqmSlotState k new s).emitted = s.emitted := by
  simp [tqmSlotState]

@[simp] theorem takeSegment_frame (g : EgressSegment) :
    (takeSegment s g).pending = s.pending ∧ (takeSegment s g).sli = s.sli ∧ (takeSegment s g).scu = s.scu ∧
    (takeSegment s g).lkc = s.lkc ∧ (takeSegment s g).gre = s.gre ∧ (takeSegment s g).tmu = s.tmu ∧ (takeSegment s g).tsu = s.tsu ∧
    (takeSegment s g).dsu = s.dsu ∧ (takeSegment s g).subMs = s.subMs ∧ (takeSegment s g).freeBytes = s.freeBytes := by
  unfold takeSegment; dsimp only; (repeat' split) <;> simp

@[simp] theorem takeSegments_frame (gs : List EgressSegment) :
    (takeSegments gs s).pending = s.pending ∧ (takeSegments gs s).sli = s.sli ∧ (takeSegments gs s).scu = s.scu ∧
    (takeSegments gs s).lkc = s.lkc ∧ (takeSegments gs s).gre = s.gre ∧ (takeSegments gs s).tmu = s.tmu ∧
    (takeSegments gs s).tsu = s.tsu ∧ (takeSegments gs s).dsu = s.dsu ∧ (takeSegments gs s).subMs = s.subMs ∧
    (takeSegments gs s).freeBytes = s.freeBytes := by
  unfold takeSegments
  refine ⟨foldl_keeps (fun s => s.pending) _ (by simp) _ s, foldl_keeps (fun s => s.sli) _ (by simp) _ s, foldl_keeps (fun s => s.scu) _ (by simp) _ s, foldl_keeps (fun s => s.lkc) _ (by simp) _ s, foldl_keeps (fun s => s.gre) _ (by simp) _ s, foldl_keeps (fun s => s.tmu) _ (by simp) _ s, foldl_keeps (fun s => s.tsu) _ (by simp) _ s, foldl_keeps (fun s => s.dsu) _ (by simp) _ s, foldl_keeps (fun s => s.subMs) _ (by simp) _ s, foldl_keeps (fun s => s.freeBytes) _ (by simp) _ s⟩

/-! ## Grants -/

@[simp] theorem passEvents_frame (b a : GrantRec) (k : Slot) :
    (passEvents b a k s).pending = s.pending ∧ (passEvents b a k s).scu = s.scu ∧ (passEvents b a k s).lkc = s.lkc ∧
    (passEvents b a k s).tqm = s.tqm ∧ (passEvents b a k s).gre = s.gre ∧ (passEvents b a k s).tmu = s.tmu ∧
    (passEvents b a k s).tsu = s.tsu ∧ (passEvents b a k s).dsu = s.dsu ∧ (passEvents b a k s).subMs = s.subMs ∧
    (passEvents b a k s).freeBytes = s.freeBytes ∧ (passEvents b a k s).emitted = s.emitted ∧
    (passEvents b a k s).sli.links = s.sli.links ∧ (passEvents b a k s).sli.access = s.sli.access ∧
    (passEvents b a k s).sli.lock = s.sli.lock ∧ (passEvents b a k s).sli.strap = s.sli.strap := by
  unfold passEvents; dsimp only; (repeat' split) <;> simp

@[simp] theorem recordPass_frame (h : PassFrame) (es : PerSlot Entrant) (p : Pass) :
    (recordPass h es p s).pending = s.pending ∧ (recordPass h es p s).scu = s.scu ∧ (recordPass h es p s).lkc = s.lkc ∧
    (recordPass h es p s).tqm = s.tqm ∧ (recordPass h es p s).tmu = s.tmu ∧ (recordPass h es p s).tsu = s.tsu ∧
    (recordPass h es p s).dsu = s.dsu ∧ (recordPass h es p s).subMs = s.subMs ∧ (recordPass h es p s).freeBytes = s.freeBytes ∧
    (recordPass h es p s).emitted = s.emitted ∧ (recordPass h es p s).sli.links = s.sli.links ∧
    (recordPass h es p s).sli.access = s.sli.access ∧ (recordPass h es p s).sli.lock = s.sli.lock ∧
    (recordPass h es p s).sli.strap = s.sli.strap ∧ (recordPass h es p s).gre.metLimit = s.gre.metLimit ∧
    (recordPass h es p s).gre.agingLimit = s.gre.agingLimit := by
  unfold recordPass; simp [allSlots]

/-! ## Time -/

@[simp] theorem deriveClass_frame :
    (deriveClass s).pending = s.pending ∧ (deriveClass s).lkc = s.lkc ∧ (deriveClass s).gre = s.gre ∧ (deriveClass s).dsu = s.dsu ∧
    (deriveClass s).subMs = s.subMs ∧ (deriveClass s).freeBytes = s.freeBytes ∧ (deriveClass s).emitted = s.emitted ∧
    (deriveClass s).sli.links = s.sli.links ∧ (deriveClass s).sli.access = s.sli.access ∧ (deriveClass s).sli.lock = s.sli.lock ∧
    (deriveClass s).sli.strap = s.sli.strap ∧ (deriveClass s).scu.ceiling = s.scu.ceiling ∧
    (deriveClass s).scu.siteClass = s.scu.siteClass ∧ (deriveClass s).scu.acceptanceSet = s.scu.acceptanceSet ∧
    (deriveClass s).scu.tenants = s.scu.tenants ∧ (deriveClass s).tmu.site = s.tmu.site ∧
    (deriveClass s).tmu.residue = s.tmu.residue ∧ (deriveClass s).tmu.y = s.tmu.y ∧
    (deriveClass s).tmu.lastSecond = s.tmu.lastSecond ∧ (deriveClass s).tmu.timing = s.tmu.timing ∧
    (deriveClass s).tmu.everLocked = s.tmu.everLocked ∧ (deriveClass s).tmu.holdover = s.tmu.holdover ∧
    (deriveClass s).tmu.history = s.tmu.history ∧ (deriveClass s).tmu.sticky = s.tmu.sticky ∧
    (deriveClass s).tmu.integ = s.tmu.integ ∧ (deriveClass s).tmu.selected = s.tmu.selected ∧
    (deriveClass s).tmu.gnss = s.tmu.gnss ∧ (deriveClass s).tmu.link = s.tmu.link ∧ (deriveClass s).tmu.message = s.tmu.message ∧
    (deriveClass s).tmu.pulseTimer = s.tmu.pulseTimer ∧ (deriveClass s).tmu.exchange = s.tmu.exchange ∧
    (deriveClass s).tmu.pathDelay = s.tmu.pathDelay ∧ (deriveClass s).tmu.params = s.tmu.params ∧
    (deriveClass s).tmu.pps = s.tmu.pps ∧
    (deriveClass s).tmu.crossed = s.tmu.crossed := by
  unfold deriveClass; (repeat' split) <;> simp

@[simp] theorem Tmu.moveSelected_keeps (t : Tmu) (sel : Option Source) :
    (t.moveSelected sel).site = t.site ∧ (t.moveSelected sel).residue = t.residue ∧ (t.moveSelected sel).lastSecond = t.lastSecond ∧
    (t.moveSelected sel).cls = t.cls ∧ (t.moveSelected sel).everLocked = t.everLocked ∧ (t.moveSelected sel).sticky = t.sticky ∧
    (t.moveSelected sel).gnss = t.gnss ∧ (t.moveSelected sel).link = t.link ∧ (t.moveSelected sel).message = t.message ∧
    (t.moveSelected sel).pulseTimer = t.pulseTimer ∧ (t.moveSelected sel).exchange = t.exchange ∧
    (t.moveSelected sel).pathDelay = t.pathDelay ∧ (t.moveSelected sel).params = t.params ∧ (t.moveSelected sel).pps = t.pps ∧
    (t.moveSelected sel).crossed = t.crossed := by
  unfold Tmu.moveSelected; dsimp only; (repeat' split) <;> simp

@[simp] theorem judgeSelection_frame :
    (judgeSelection s).pending = s.pending ∧ (judgeSelection s).lkc = s.lkc ∧ (judgeSelection s).gre = s.gre ∧
    (judgeSelection s).dsu = s.dsu ∧ (judgeSelection s).subMs = s.subMs ∧ (judgeSelection s).freeBytes = s.freeBytes ∧
    (judgeSelection s).emitted = s.emitted ∧ (judgeSelection s).sli.links = s.sli.links ∧
    (judgeSelection s).sli.access = s.sli.access ∧ (judgeSelection s).sli.lock = s.sli.lock ∧
    (judgeSelection s).sli.strap = s.sli.strap ∧ (judgeSelection s).scu.ceiling = s.scu.ceiling ∧
    (judgeSelection s).scu.siteClass = s.scu.siteClass ∧ (judgeSelection s).scu.acceptanceSet = s.scu.acceptanceSet ∧
    (judgeSelection s).scu.tenants = s.scu.tenants ∧ (judgeSelection s).tmu.site = s.tmu.site ∧
    (judgeSelection s).tmu.residue = s.tmu.residue ∧ (judgeSelection s).tmu.lastSecond = s.tmu.lastSecond ∧
    (judgeSelection s).tmu.everLocked = s.tmu.everLocked ∧ (judgeSelection s).tmu.sticky = s.tmu.sticky ∧
    (judgeSelection s).tmu.gnss = s.tmu.gnss ∧ (judgeSelection s).tmu.link = s.tmu.link ∧
    (judgeSelection s).tmu.message = s.tmu.message ∧ (judgeSelection s).tmu.pulseTimer = s.tmu.pulseTimer ∧
    (judgeSelection s).tmu.exchange = s.tmu.exchange ∧ (judgeSelection s).tmu.pathDelay = s.tmu.pathDelay ∧
    (judgeSelection s).tmu.params = s.tmu.params ∧ (judgeSelection s).tmu.pps = s.tmu.pps ∧
    (judgeSelection s).tmu.crossed = s.tmu.crossed := by
  unfold judgeSelection; (repeat' split) <;> simp

@[simp] theorem qualificationChanged_frame (b : Qualification) (src : Source) :
    (qualificationChanged b src s).pending = s.pending ∧ (qualificationChanged b src s).lkc = s.lkc ∧
    (qualificationChanged b src s).gre = s.gre ∧ (qualificationChanged b src s).dsu = s.dsu ∧
    (qualificationChanged b src s).subMs = s.subMs ∧ (qualificationChanged b src s).freeBytes = s.freeBytes ∧
    (qualificationChanged b src s).emitted = s.emitted ∧ (qualificationChanged b src s).sli.links = s.sli.links ∧
    (qualificationChanged b src s).sli.access = s.sli.access ∧ (qualificationChanged b src s).sli.lock = s.sli.lock ∧
    (qualificationChanged b src s).sli.strap = s.sli.strap ∧ (qualificationChanged b src s).scu.ceiling = s.scu.ceiling ∧
    (qualificationChanged b src s).scu.siteClass = s.scu.siteClass ∧
    (qualificationChanged b src s).scu.acceptanceSet = s.scu.acceptanceSet ∧
    (qualificationChanged b src s).scu.tenants = s.scu.tenants ∧ (qualificationChanged b src s).tmu.site = s.tmu.site ∧
    (qualificationChanged b src s).tmu.residue = s.tmu.residue ∧ (qualificationChanged b src s).tmu.lastSecond = s.tmu.lastSecond ∧
    (qualificationChanged b src s).tmu.everLocked = s.tmu.everLocked ∧ (qualificationChanged b src s).tmu.sticky = s.tmu.sticky ∧
    (qualificationChanged b src s).tmu.gnss = s.tmu.gnss ∧ (qualificationChanged b src s).tmu.link = s.tmu.link ∧
    (qualificationChanged b src s).tmu.message = s.tmu.message ∧ (qualificationChanged b src s).tmu.pulseTimer = s.tmu.pulseTimer ∧
    (qualificationChanged b src s).tmu.exchange = s.tmu.exchange ∧ (qualificationChanged b src s).tmu.pathDelay = s.tmu.pathDelay ∧
    (qualificationChanged b src s).tmu.params = s.tmu.params ∧ (qualificationChanged b src s).tmu.pps = s.tmu.pps ∧
    (qualificationChanged b src s).tmu.crossed = s.tmu.crossed := by
  unfold qualificationChanged; (repeat' split) <;> simp

@[simp] theorem Tmu.updSource_keeps (t : Tmu) (src : Source) (f : SourceRec → SourceRec) :
    (t.updSource src f).site = t.site ∧ (t.updSource src f).residue = t.residue ∧ (t.updSource src f).y = t.y ∧
    (t.updSource src f).lastSecond = t.lastSecond ∧ (t.updSource src f).cls = t.cls ∧ (t.updSource src f).timing = t.timing ∧
    (t.updSource src f).everLocked = t.everLocked ∧ (t.updSource src f).holdover = t.holdover ∧
    (t.updSource src f).history = t.history ∧ (t.updSource src f).sticky = t.sticky ∧ (t.updSource src f).integ = t.integ ∧
    (t.updSource src f).selected = t.selected ∧ (t.updSource src f).message = t.message ∧
    (t.updSource src f).pulseTimer = t.pulseTimer ∧ (t.updSource src f).exchange = t.exchange ∧
    (t.updSource src f).pathDelay = t.pathDelay ∧ (t.updSource src f).params = t.params ∧ (t.updSource src f).pps = t.pps ∧
    (t.updSource src f).crossed = t.crossed := by
  cases src <;> simp [Tmu.updSource]

@[simp] theorem takeOutcome_frame (src : Source) (v : Bool) :
    (takeOutcome src v s).pending = s.pending ∧ (takeOutcome src v s).lkc = s.lkc ∧ (takeOutcome src v s).gre = s.gre ∧
    (takeOutcome src v s).dsu = s.dsu ∧ (takeOutcome src v s).subMs = s.subMs ∧ (takeOutcome src v s).freeBytes = s.freeBytes ∧
    (takeOutcome src v s).emitted = s.emitted ∧ (takeOutcome src v s).sli.links = s.sli.links ∧
    (takeOutcome src v s).sli.access = s.sli.access ∧ (takeOutcome src v s).sli.lock = s.sli.lock ∧
    (takeOutcome src v s).sli.strap = s.sli.strap ∧ (takeOutcome src v s).scu.ceiling = s.scu.ceiling ∧
    (takeOutcome src v s).scu.siteClass = s.scu.siteClass ∧ (takeOutcome src v s).scu.acceptanceSet = s.scu.acceptanceSet ∧
    (takeOutcome src v s).scu.tenants = s.scu.tenants ∧ (takeOutcome src v s).tmu.site = s.tmu.site ∧
    (takeOutcome src v s).tmu.residue = s.tmu.residue ∧ (takeOutcome src v s).tmu.lastSecond = s.tmu.lastSecond ∧
    (takeOutcome src v s).tmu.everLocked = s.tmu.everLocked ∧ (takeOutcome src v s).tmu.sticky = s.tmu.sticky ∧
    (takeOutcome src v s).tmu.message = s.tmu.message ∧ (takeOutcome src v s).tmu.pulseTimer = s.tmu.pulseTimer ∧
    (takeOutcome src v s).tmu.exchange = s.tmu.exchange ∧ (takeOutcome src v s).tmu.pathDelay = s.tmu.pathDelay ∧
    (takeOutcome src v s).tmu.params = s.tmu.params ∧ (takeOutcome src v s).tmu.pps = s.tmu.pps ∧
    (takeOutcome src v s).tmu.crossed = s.tmu.crossed := by
  unfold takeOutcome; (repeat' split) <;> simp

@[simp] theorem exchangeMissing_frame :
    (exchangeMissing s).pending = s.pending ∧ (exchangeMissing s).lkc = s.lkc ∧ (exchangeMissing s).gre = s.gre ∧
    (exchangeMissing s).dsu = s.dsu ∧ (exchangeMissing s).subMs = s.subMs ∧ (exchangeMissing s).freeBytes = s.freeBytes ∧
    (exchangeMissing s).emitted = s.emitted ∧ (exchangeMissing s).sli.links = s.sli.links ∧
    (exchangeMissing s).sli.access = s.sli.access ∧ (exchangeMissing s).sli.lock = s.sli.lock ∧
    (exchangeMissing s).sli.strap = s.sli.strap ∧ (exchangeMissing s).scu.ceiling = s.scu.ceiling ∧
    (exchangeMissing s).scu.siteClass = s.scu.siteClass ∧ (exchangeMissing s).scu.acceptanceSet = s.scu.acceptanceSet ∧
    (exchangeMissing s).scu.tenants = s.scu.tenants ∧ (exchangeMissing s).tmu.site = s.tmu.site ∧
    (exchangeMissing s).tmu.residue = s.tmu.residue ∧ (exchangeMissing s).tmu.lastSecond = s.tmu.lastSecond ∧
    (exchangeMissing s).tmu.everLocked = s.tmu.everLocked ∧ (exchangeMissing s).tmu.sticky = s.tmu.sticky ∧
    (exchangeMissing s).tmu.message = s.tmu.message ∧ (exchangeMissing s).tmu.pulseTimer = s.tmu.pulseTimer ∧
    (exchangeMissing s).tmu.pathDelay = s.tmu.pathDelay ∧ (exchangeMissing s).tmu.params = s.tmu.params ∧
    (exchangeMissing s).tmu.pps = s.tmu.pps ∧
    (exchangeMissing s).tmu.crossed = s.tmu.crossed := by
  unfold exchangeMissing; (repeat' split) <;> simp

@[simp] theorem tmuRungChange_frame (n : Nat) :
    (tmuRungChange n s).pending = s.pending ∧ (tmuRungChange n s).lkc = s.lkc ∧ (tmuRungChange n s).gre = s.gre ∧
    (tmuRungChange n s).dsu = s.dsu ∧ (tmuRungChange n s).subMs = s.subMs ∧ (tmuRungChange n s).freeBytes = s.freeBytes ∧
    (tmuRungChange n s).emitted = s.emitted ∧ (tmuRungChange n s).sli.links = s.sli.links ∧
    (tmuRungChange n s).sli.access = s.sli.access ∧ (tmuRungChange n s).sli.lock = s.sli.lock ∧
    (tmuRungChange n s).sli.strap = s.sli.strap ∧ (tmuRungChange n s).scu.ceiling = s.scu.ceiling ∧
    (tmuRungChange n s).scu.siteClass = s.scu.siteClass ∧ (tmuRungChange n s).scu.acceptanceSet = s.scu.acceptanceSet ∧
    (tmuRungChange n s).scu.tenants = s.scu.tenants ∧ (tmuRungChange n s).tmu.site = s.tmu.site ∧
    (tmuRungChange n s).tmu.residue = s.tmu.residue ∧ (tmuRungChange n s).tmu.lastSecond = s.tmu.lastSecond ∧
    (tmuRungChange n s).tmu.everLocked = s.tmu.everLocked ∧ (tmuRungChange n s).tmu.sticky = s.tmu.sticky ∧
    (tmuRungChange n s).tmu.message = s.tmu.message ∧ (tmuRungChange n s).tmu.pulseTimer = s.tmu.pulseTimer ∧
    (tmuRungChange n s).tmu.pathDelay = s.tmu.pathDelay ∧ (tmuRungChange n s).tmu.params = s.tmu.params ∧
    (tmuRungChange n s).tmu.pps = s.tmu.pps ∧
    (tmuRungChange n s).tmu.crossed = s.tmu.crossed := by
  unfold tmuRungChange; (repeat' split) <;> simp

@[simp] theorem placeRequest_frame (n : Nat) :
    ((placeRequest n s).2).pending = s.pending ∧ ((placeRequest n s).2).sli = s.sli ∧ ((placeRequest n s).2).scu = s.scu ∧
    ((placeRequest n s).2).lkc = s.lkc ∧ ((placeRequest n s).2).tqm = s.tqm ∧ ((placeRequest n s).2).gre = s.gre ∧
    ((placeRequest n s).2).tsu = s.tsu ∧ ((placeRequest n s).2).dsu = s.dsu ∧ ((placeRequest n s).2).subMs = s.subMs ∧
    ((placeRequest n s).2).freeBytes = s.freeBytes ∧ ((placeRequest n s).2).emitted = s.emitted ∧
    ((placeRequest n s).2).tmu.site = s.tmu.site ∧ ((placeRequest n s).2).tmu.residue = s.tmu.residue ∧
    ((placeRequest n s).2).tmu.y = s.tmu.y ∧ ((placeRequest n s).2).tmu.lastSecond = s.tmu.lastSecond ∧
    ((placeRequest n s).2).tmu.cls = s.tmu.cls ∧ ((placeRequest n s).2).tmu.timing = s.tmu.timing ∧
    ((placeRequest n s).2).tmu.everLocked = s.tmu.everLocked ∧ ((placeRequest n s).2).tmu.holdover = s.tmu.holdover ∧
    ((placeRequest n s).2).tmu.history = s.tmu.history ∧ ((placeRequest n s).2).tmu.sticky = s.tmu.sticky ∧
    ((placeRequest n s).2).tmu.integ = s.tmu.integ ∧ ((placeRequest n s).2).tmu.selected = s.tmu.selected ∧
    ((placeRequest n s).2).tmu.gnss = s.tmu.gnss ∧ ((placeRequest n s).2).tmu.link = s.tmu.link ∧
    ((placeRequest n s).2).tmu.message = s.tmu.message ∧ ((placeRequest n s).2).tmu.pulseTimer = s.tmu.pulseTimer ∧
    ((placeRequest n s).2).tmu.pathDelay = s.tmu.pathDelay ∧ ((placeRequest n s).2).tmu.params = s.tmu.params ∧
    ((placeRequest n s).2).tmu.pps = s.tmu.pps ∧
    ((placeRequest n s).2).tmu.crossed = s.tmu.crossed := by
  unfold placeRequest; (repeat' split) <;> simp

@[simp] theorem stampRequest_frame (n : Nat) :
    (stampRequest n s).pending = s.pending ∧ (stampRequest n s).sli = s.sli ∧ (stampRequest n s).scu = s.scu ∧
    (stampRequest n s).lkc = s.lkc ∧ (stampRequest n s).tqm = s.tqm ∧ (stampRequest n s).gre = s.gre ∧
    (stampRequest n s).tsu = s.tsu ∧ (stampRequest n s).dsu = s.dsu ∧ (stampRequest n s).subMs = s.subMs ∧
    (stampRequest n s).freeBytes = s.freeBytes ∧ (stampRequest n s).emitted = s.emitted ∧
    (stampRequest n s).tmu.site = s.tmu.site ∧ (stampRequest n s).tmu.residue = s.tmu.residue ∧
    (stampRequest n s).tmu.y = s.tmu.y ∧ (stampRequest n s).tmu.lastSecond = s.tmu.lastSecond ∧
    (stampRequest n s).tmu.cls = s.tmu.cls ∧ (stampRequest n s).tmu.timing = s.tmu.timing ∧
    (stampRequest n s).tmu.everLocked = s.tmu.everLocked ∧ (stampRequest n s).tmu.holdover = s.tmu.holdover ∧
    (stampRequest n s).tmu.history = s.tmu.history ∧ (stampRequest n s).tmu.sticky = s.tmu.sticky ∧
    (stampRequest n s).tmu.integ = s.tmu.integ ∧ (stampRequest n s).tmu.selected = s.tmu.selected ∧
    (stampRequest n s).tmu.gnss = s.tmu.gnss ∧ (stampRequest n s).tmu.link = s.tmu.link ∧
    (stampRequest n s).tmu.message = s.tmu.message ∧ (stampRequest n s).tmu.pulseTimer = s.tmu.pulseTimer ∧
    (stampRequest n s).tmu.pathDelay = s.tmu.pathDelay ∧ (stampRequest n s).tmu.params = s.tmu.params ∧
    (stampRequest n s).tmu.pps = s.tmu.pps ∧
    (stampRequest n s).tmu.crossed = s.tmu.crossed := by
  simp [stampRequest]

@[simp] theorem stepTime_frame (new : SiteTime) :
    (stepTime new s).pending = s.pending ∧ (stepTime new s).lkc = s.lkc ∧ (stepTime new s).gre = s.gre ∧
    (stepTime new s).dsu = s.dsu ∧ (stepTime new s).subMs = s.subMs ∧ (stepTime new s).freeBytes = s.freeBytes ∧
    (stepTime new s).emitted = s.emitted ∧ (stepTime new s).sli.links = s.sli.links ∧ (stepTime new s).sli.access = s.sli.access ∧
    (stepTime new s).sli.lock = s.sli.lock ∧ (stepTime new s).sli.strap = s.sli.strap ∧
    (stepTime new s).scu.ceiling = s.scu.ceiling ∧ (stepTime new s).scu.siteClass = s.scu.siteClass ∧
    (stepTime new s).scu.acceptanceSet = s.scu.acceptanceSet ∧ (stepTime new s).scu.tenants = s.scu.tenants ∧
    (stepTime new s).tmu.lastSecond = s.tmu.lastSecond ∧ (stepTime new s).tmu.everLocked = s.tmu.everLocked ∧
    (stepTime new s).tmu.message = s.tmu.message ∧ (stepTime new s).tmu.pulseTimer = s.tmu.pulseTimer ∧
    (stepTime new s).tmu.pathDelay = s.tmu.pathDelay ∧ (stepTime new s).tmu.params = s.tmu.params ∧
    (stepTime new s).tmu.pps = s.tmu.pps := by
  simp [stepTime, Tmu.stepTo]

@[simp] theorem Tmu.apply_keeps (t : Tmu) (b : LoopBank) (e : Int) :
    (t.apply b e).site = t.site ∧ (t.apply b e).lastSecond = t.lastSecond ∧ (t.apply b e).cls = t.cls ∧
    (t.apply b e).timing = t.timing ∧ (t.apply b e).everLocked = t.everLocked ∧ (t.apply b e).holdover = t.holdover ∧
    (t.apply b e).history = t.history ∧ (t.apply b e).selected = t.selected ∧ (t.apply b e).gnss = t.gnss ∧
    (t.apply b e).link = t.link ∧ (t.apply b e).message = t.message ∧ (t.apply b e).pulseTimer = t.pulseTimer ∧
    (t.apply b e).exchange = t.exchange ∧ (t.apply b e).pathDelay = t.pathDelay ∧ (t.apply b e).params = t.params ∧
    (t.apply b e).pps = t.pps ∧ (t.apply b e).residue = t.residue ∧ (t.apply b e).crossed = t.crossed := by
  simp [Tmu.apply]

@[simp] theorem Tmu.judgeMarks_keeps (t : Tmu) :
    t.judgeMarks.site = t.site ∧ t.judgeMarks.lastSecond = t.lastSecond ∧ t.judgeMarks.cls = t.cls ∧ t.judgeMarks.sticky = t.sticky ∧
    t.judgeMarks.selected = t.selected ∧ t.judgeMarks.gnss = t.gnss ∧ t.judgeMarks.link = t.link ∧
    t.judgeMarks.message = t.message ∧ t.judgeMarks.pulseTimer = t.pulseTimer ∧ t.judgeMarks.exchange = t.exchange ∧
    t.judgeMarks.pathDelay = t.pathDelay ∧ t.judgeMarks.params = t.params ∧ t.judgeMarks.pps = t.pps ∧ t.judgeMarks.crossed = t.crossed ∧ t.judgeMarks.y = t.y ∧
    t.judgeMarks.integ = t.integ ∧ t.judgeMarks.residue = t.residue := by
  unfold Tmu.judgeMarks; (repeat' split) <;> simp

@[simp] theorem screenSample_frame (x : Sample) :
    (screenSample x s).pending = s.pending ∧ (screenSample x s).lkc = s.lkc ∧ (screenSample x s).gre = s.gre ∧
    (screenSample x s).dsu = s.dsu ∧ (screenSample x s).subMs = s.subMs ∧ (screenSample x s).freeBytes = s.freeBytes ∧
    (screenSample x s).emitted = s.emitted ∧ (screenSample x s).sli.links = s.sli.links ∧
    (screenSample x s).sli.access = s.sli.access ∧ (screenSample x s).sli.lock = s.sli.lock ∧
    (screenSample x s).sli.strap = s.sli.strap ∧ (screenSample x s).scu.ceiling = s.scu.ceiling ∧
    (screenSample x s).scu.siteClass = s.scu.siteClass ∧ (screenSample x s).scu.acceptanceSet = s.scu.acceptanceSet ∧
    (screenSample x s).scu.tenants = s.scu.tenants ∧ (screenSample x s).tmu.lastSecond = s.tmu.lastSecond ∧
    (screenSample x s).tmu.message = s.tmu.message ∧ (screenSample x s).tmu.pulseTimer = s.tmu.pulseTimer ∧
    (screenSample x s).tmu.pathDelay = s.tmu.pathDelay ∧ (screenSample x s).tmu.params = s.tmu.params ∧
    (screenSample x s).tmu.pps = s.tmu.pps := by
  unfold screenSample; (repeat' split) <;> simp [Tmu.putMark]

@[simp] theorem takeSample_frame (src : Source) (x : Sample) :
    (takeSample src x s).pending = s.pending ∧ (takeSample src x s).lkc = s.lkc ∧ (takeSample src x s).gre = s.gre ∧
    (takeSample src x s).dsu = s.dsu ∧ (takeSample src x s).subMs = s.subMs ∧ (takeSample src x s).freeBytes = s.freeBytes ∧
    (takeSample src x s).emitted = s.emitted ∧ (takeSample src x s).sli.links = s.sli.links ∧
    (takeSample src x s).sli.access = s.sli.access ∧ (takeSample src x s).sli.lock = s.sli.lock ∧
    (takeSample src x s).sli.strap = s.sli.strap ∧ (takeSample src x s).scu.ceiling = s.scu.ceiling ∧
    (takeSample src x s).scu.siteClass = s.scu.siteClass ∧ (takeSample src x s).scu.acceptanceSet = s.scu.acceptanceSet ∧
    (takeSample src x s).scu.tenants = s.scu.tenants ∧ (takeSample src x s).tmu.lastSecond = s.tmu.lastSecond ∧
    (takeSample src x s).tmu.message = s.tmu.message ∧ (takeSample src x s).tmu.pulseTimer = s.tmu.pulseTimer ∧
    (takeSample src x s).tmu.pathDelay = s.tmu.pathDelay ∧ (takeSample src x s).tmu.params = s.tmu.params ∧
    (takeSample src x s).tmu.pps = s.tmu.pps := by
  unfold takeSample; dsimp only; (repeat' split) <;> simp

@[simp] theorem gnssPulse_frame :
    (gnssPulse s).pending = s.pending ∧ (gnssPulse s).lkc = s.lkc ∧ (gnssPulse s).gre = s.gre ∧ (gnssPulse s).dsu = s.dsu ∧
    (gnssPulse s).subMs = s.subMs ∧ (gnssPulse s).freeBytes = s.freeBytes ∧ (gnssPulse s).emitted = s.emitted ∧
    (gnssPulse s).sli.links = s.sli.links ∧ (gnssPulse s).sli.access = s.sli.access ∧ (gnssPulse s).sli.lock = s.sli.lock ∧
    (gnssPulse s).sli.strap = s.sli.strap ∧ (gnssPulse s).scu.ceiling = s.scu.ceiling ∧
    (gnssPulse s).scu.siteClass = s.scu.siteClass ∧ (gnssPulse s).scu.acceptanceSet = s.scu.acceptanceSet ∧
    (gnssPulse s).scu.tenants = s.scu.tenants ∧ (gnssPulse s).tmu.lastSecond = s.tmu.lastSecond ∧
    (gnssPulse s).tmu.pathDelay = s.tmu.pathDelay ∧ (gnssPulse s).tmu.params = s.tmu.params ∧ (gnssPulse s).tmu.pps = s.tmu.pps := by
  unfold gnssPulse; dsimp only; (repeat' split) <;> simp

@[simp] theorem pulseTimerExpiry_frame :
    (pulseTimerExpiry s).pending = s.pending ∧ (pulseTimerExpiry s).lkc = s.lkc ∧ (pulseTimerExpiry s).gre = s.gre ∧
    (pulseTimerExpiry s).dsu = s.dsu ∧ (pulseTimerExpiry s).subMs = s.subMs ∧ (pulseTimerExpiry s).freeBytes = s.freeBytes ∧
    (pulseTimerExpiry s).emitted = s.emitted ∧ (pulseTimerExpiry s).sli.links = s.sli.links ∧
    (pulseTimerExpiry s).sli.access = s.sli.access ∧ (pulseTimerExpiry s).sli.lock = s.sli.lock ∧
    (pulseTimerExpiry s).sli.strap = s.sli.strap ∧ (pulseTimerExpiry s).scu.ceiling = s.scu.ceiling ∧
    (pulseTimerExpiry s).scu.siteClass = s.scu.siteClass ∧ (pulseTimerExpiry s).scu.acceptanceSet = s.scu.acceptanceSet ∧
    (pulseTimerExpiry s).scu.tenants = s.scu.tenants ∧ (pulseTimerExpiry s).tmu.lastSecond = s.tmu.lastSecond ∧
    (pulseTimerExpiry s).tmu.pathDelay = s.tmu.pathDelay ∧ (pulseTimerExpiry s).tmu.params = s.tmu.params ∧
    (pulseTimerExpiry s).tmu.pps = s.tmu.pps ∧
    (pulseTimerExpiry s).tmu.crossed = s.tmu.crossed := by
  unfold pulseTimerExpiry; (repeat' split) <;> simp

@[simp] theorem takeReply_frame (r : TimeReply) :
    (takeReply r s).pending = s.pending ∧ (takeReply r s).lkc = s.lkc ∧ (takeReply r s).gre = s.gre ∧ (takeReply r s).dsu = s.dsu ∧
    (takeReply r s).subMs = s.subMs ∧ (takeReply r s).freeBytes = s.freeBytes ∧ (takeReply r s).emitted = s.emitted ∧
    (takeReply r s).sli.links = s.sli.links ∧ (takeReply r s).sli.access = s.sli.access ∧ (takeReply r s).sli.lock = s.sli.lock ∧
    (takeReply r s).sli.strap = s.sli.strap ∧ (takeReply r s).scu.ceiling = s.scu.ceiling ∧
    (takeReply r s).scu.siteClass = s.scu.siteClass ∧ (takeReply r s).scu.acceptanceSet = s.scu.acceptanceSet ∧
    (takeReply r s).scu.tenants = s.scu.tenants ∧ (takeReply r s).tmu.lastSecond = s.tmu.lastSecond ∧
    (takeReply r s).tmu.message = s.tmu.message ∧ (takeReply r s).tmu.pulseTimer = s.tmu.pulseTimer ∧
    (takeReply r s).tmu.params = s.tmu.params ∧ (takeReply r s).tmu.pps = s.tmu.pps := by
  unfold takeReply; dsimp only; (repeat' split) <;> simp

@[simp] theorem replyTimerExpiry_frame :
    (replyTimerExpiry s).pending = s.pending ∧ (replyTimerExpiry s).lkc = s.lkc ∧ (replyTimerExpiry s).gre = s.gre ∧
    (replyTimerExpiry s).dsu = s.dsu ∧ (replyTimerExpiry s).subMs = s.subMs ∧ (replyTimerExpiry s).freeBytes = s.freeBytes ∧
    (replyTimerExpiry s).emitted = s.emitted ∧ (replyTimerExpiry s).sli.links = s.sli.links ∧
    (replyTimerExpiry s).sli.access = s.sli.access ∧ (replyTimerExpiry s).sli.lock = s.sli.lock ∧
    (replyTimerExpiry s).sli.strap = s.sli.strap ∧ (replyTimerExpiry s).scu.ceiling = s.scu.ceiling ∧
    (replyTimerExpiry s).scu.siteClass = s.scu.siteClass ∧ (replyTimerExpiry s).scu.acceptanceSet = s.scu.acceptanceSet ∧
    (replyTimerExpiry s).scu.tenants = s.scu.tenants ∧ (replyTimerExpiry s).tmu.site = s.tmu.site ∧
    (replyTimerExpiry s).tmu.residue = s.tmu.residue ∧ (replyTimerExpiry s).tmu.lastSecond = s.tmu.lastSecond ∧
    (replyTimerExpiry s).tmu.everLocked = s.tmu.everLocked ∧ (replyTimerExpiry s).tmu.sticky = s.tmu.sticky ∧
    (replyTimerExpiry s).tmu.message = s.tmu.message ∧ (replyTimerExpiry s).tmu.pulseTimer = s.tmu.pulseTimer ∧
    (replyTimerExpiry s).tmu.pathDelay = s.tmu.pathDelay ∧ (replyTimerExpiry s).tmu.params = s.tmu.params ∧
    (replyTimerExpiry s).tmu.pps = s.tmu.pps ∧
    (replyTimerExpiry s).tmu.crossed = s.tmu.crossed := by
  unfold replyTimerExpiry; (repeat' split) <;> simp

@[simp] theorem boundaryExchange_frame (n : Nat) :
    (boundaryExchange n s).pending = s.pending ∧ (boundaryExchange n s).lkc = s.lkc ∧ (boundaryExchange n s).gre = s.gre ∧
    (boundaryExchange n s).dsu = s.dsu ∧ (boundaryExchange n s).subMs = s.subMs ∧ (boundaryExchange n s).freeBytes = s.freeBytes ∧
    (boundaryExchange n s).emitted = s.emitted ∧ (boundaryExchange n s).sli.links = s.sli.links ∧
    (boundaryExchange n s).sli.access = s.sli.access ∧ (boundaryExchange n s).sli.lock = s.sli.lock ∧
    (boundaryExchange n s).sli.strap = s.sli.strap ∧ (boundaryExchange n s).scu.ceiling = s.scu.ceiling ∧
    (boundaryExchange n s).scu.siteClass = s.scu.siteClass ∧ (boundaryExchange n s).scu.acceptanceSet = s.scu.acceptanceSet ∧
    (boundaryExchange n s).scu.tenants = s.scu.tenants ∧ (boundaryExchange n s).tmu.site = s.tmu.site ∧
    (boundaryExchange n s).tmu.residue = s.tmu.residue ∧ (boundaryExchange n s).tmu.lastSecond = s.tmu.lastSecond ∧
    (boundaryExchange n s).tmu.everLocked = s.tmu.everLocked ∧ (boundaryExchange n s).tmu.sticky = s.tmu.sticky ∧
    (boundaryExchange n s).tmu.message = s.tmu.message ∧ (boundaryExchange n s).tmu.pulseTimer = s.tmu.pulseTimer ∧
    (boundaryExchange n s).tmu.pathDelay = s.tmu.pathDelay ∧ (boundaryExchange n s).tmu.params = s.tmu.params ∧
    (boundaryExchange n s).tmu.pps = s.tmu.pps ∧
    (boundaryExchange n s).tmu.crossed = s.tmu.crossed := by
  unfold boundaryExchange; (repeat' split) <;> simp

@[simp] theorem Tmu.countHoldover_keeps (t : Tmu) :
    t.countHoldover.site = t.site ∧ t.countHoldover.residue = t.residue ∧ t.countHoldover.y = t.y ∧
    t.countHoldover.lastSecond = t.lastSecond ∧ t.countHoldover.cls = t.cls ∧ t.countHoldover.timing = t.timing ∧
    t.countHoldover.everLocked = t.everLocked ∧ t.countHoldover.history = t.history ∧ t.countHoldover.sticky = t.sticky ∧
    t.countHoldover.integ = t.integ ∧ t.countHoldover.selected = t.selected ∧ t.countHoldover.gnss = t.gnss ∧
    t.countHoldover.link = t.link ∧ t.countHoldover.message = t.message ∧ t.countHoldover.pulseTimer = t.pulseTimer ∧
    t.countHoldover.exchange = t.exchange ∧ t.countHoldover.pathDelay = t.pathDelay ∧ t.countHoldover.params = t.params ∧
    t.countHoldover.pps = t.pps ∧ t.countHoldover.crossed = t.crossed := by
  unfold Tmu.countHoldover; split <;> simp

@[simp] theorem raiseBoundary_frame (n : Nat) :
    (raiseBoundary n s).pending = s.pending ∧ (raiseBoundary n s).lkc = s.lkc ∧ (raiseBoundary n s).gre = s.gre ∧
    (raiseBoundary n s).dsu = s.dsu ∧ (raiseBoundary n s).subMs = s.subMs ∧ (raiseBoundary n s).freeBytes = s.freeBytes ∧
    (raiseBoundary n s).emitted = s.emitted ∧ (raiseBoundary n s).sli.links = s.sli.links ∧
    (raiseBoundary n s).sli.access = s.sli.access ∧ (raiseBoundary n s).sli.lock = s.sli.lock ∧
    (raiseBoundary n s).sli.strap = s.sli.strap ∧ (raiseBoundary n s).scu.ceiling = s.scu.ceiling ∧
    (raiseBoundary n s).scu.siteClass = s.scu.siteClass ∧ (raiseBoundary n s).scu.acceptanceSet = s.scu.acceptanceSet ∧
    (raiseBoundary n s).scu.tenants = s.scu.tenants ∧ (raiseBoundary n s).tmu.site = s.tmu.site ∧
    (raiseBoundary n s).tmu.residue = s.tmu.residue ∧ (raiseBoundary n s).tmu.message = s.tmu.message ∧
    (raiseBoundary n s).tmu.pulseTimer = s.tmu.pulseTimer ∧ (raiseBoundary n s).tmu.pathDelay = s.tmu.pathDelay ∧
    (raiseBoundary n s).tmu.params = s.tmu.params ∧ (raiseBoundary n s).tmu.pps = s.tmu.pps ∧
    (raiseBoundary n s).tmu.crossed = s.tmu.crossed ∧
    (raiseBoundary n s).tmu.everLocked = s.tmu.everLocked ∧ (raiseBoundary n s).tmu.sticky = s.tmu.sticky := by
  unfold raiseBoundary; dsimp only; (repeat' split) <;> simp

@[simp] theorem enterSecond_frame (n : Nat) :
    (enterSecond n s).pending = s.pending ∧ (enterSecond n s).lkc = s.lkc ∧ (enterSecond n s).gre = s.gre ∧
    (enterSecond n s).dsu = s.dsu ∧ (enterSecond n s).subMs = s.subMs ∧ (enterSecond n s).freeBytes = s.freeBytes ∧
    (enterSecond n s).emitted = s.emitted ∧ (enterSecond n s).sli.links = s.sli.links ∧
    (enterSecond n s).sli.access = s.sli.access ∧ (enterSecond n s).sli.lock = s.sli.lock ∧
    (enterSecond n s).sli.strap = s.sli.strap ∧ (enterSecond n s).scu.ceiling = s.scu.ceiling ∧
    (enterSecond n s).scu.siteClass = s.scu.siteClass ∧ (enterSecond n s).scu.acceptanceSet = s.scu.acceptanceSet ∧
    (enterSecond n s).scu.tenants = s.scu.tenants ∧ (enterSecond n s).tmu.site = s.tmu.site ∧
    (enterSecond n s).tmu.residue = s.tmu.residue ∧ (enterSecond n s).tmu.message = s.tmu.message ∧
    (enterSecond n s).tmu.pulseTimer = s.tmu.pulseTimer ∧ (enterSecond n s).tmu.pathDelay = s.tmu.pathDelay ∧
    (enterSecond n s).tmu.params = s.tmu.params ∧ (enterSecond n s).tmu.pps = s.tmu.pps ∧
    (enterSecond n s).tmu.crossed = s.tmu.crossed ∧
    (enterSecond n s).tmu.everLocked = s.tmu.everLocked ∧ (enterSecond n s).tmu.sticky = s.tmu.sticky := by
  unfold enterSecond; (repeat' split) <;> simp

@[simp] theorem Tmu.carryTo_keeps (t : Tmu) (ns : Int) :
    (t.carryTo ns).y = t.y ∧ (t.carryTo ns).cls = t.cls ∧ (t.carryTo ns).timing = t.timing ∧
    (t.carryTo ns).everLocked = t.everLocked ∧ (t.carryTo ns).holdover = t.holdover ∧ (t.carryTo ns).history = t.history ∧
    (t.carryTo ns).sticky = t.sticky ∧ (t.carryTo ns).integ = t.integ ∧ (t.carryTo ns).selected = t.selected ∧
    (t.carryTo ns).gnss = t.gnss ∧ (t.carryTo ns).link = t.link ∧ (t.carryTo ns).message = t.message ∧
    (t.carryTo ns).pulseTimer = t.pulseTimer ∧ (t.carryTo ns).exchange = t.exchange ∧ (t.carryTo ns).pathDelay = t.pathDelay ∧
    (t.carryTo ns).params = t.params ∧ (t.carryTo ns).residue = t.residue ∧ (t.carryTo ns).crossed = t.crossed := by
  unfold Tmu.carryTo
  generalize ((Config.secondsModulus * Config.nsPerSecond : Nat) : Int) = m
  by_cases h : m ≤ ns <;> simp [h, Tmu.wrapSeconds]

@[simp] theorem Tmu.takeSecond_keeps (t : Tmu) :
    t.takeSecond.site = t.site ∧ t.takeSecond.residue = t.residue ∧ t.takeSecond.y = t.y ∧ t.takeSecond.lastSecond = t.lastSecond ∧
    t.takeSecond.cls = t.cls ∧ t.takeSecond.timing = t.timing ∧ t.takeSecond.everLocked = t.everLocked ∧
    t.takeSecond.holdover = t.holdover ∧ t.takeSecond.history = t.history ∧ t.takeSecond.sticky = t.sticky ∧
    t.takeSecond.integ = t.integ ∧ t.takeSecond.selected = t.selected ∧ t.takeSecond.gnss = t.gnss ∧ t.takeSecond.link = t.link ∧
    t.takeSecond.message = t.message ∧ t.takeSecond.pulseTimer = t.pulseTimer ∧ t.takeSecond.exchange = t.exchange ∧
    t.takeSecond.pathDelay = t.pathDelay ∧ t.takeSecond.params = t.params ∧ t.takeSecond.pps = t.pps ∧
    t.takeSecond.crossed.second = none ∧ t.takeSecond.crossed.pulses = t.crossed.pulses := by
  simp [Tmu.takeSecond]

@[simp] theorem Tmu.takePulse_keeps (t : Tmu) (k : Slot) :
    (t.takePulse k).site = t.site ∧ (t.takePulse k).residue = t.residue ∧ (t.takePulse k).y = t.y ∧
    (t.takePulse k).lastSecond = t.lastSecond ∧ (t.takePulse k).cls = t.cls ∧ (t.takePulse k).timing = t.timing ∧
    (t.takePulse k).everLocked = t.everLocked ∧ (t.takePulse k).holdover = t.holdover ∧ (t.takePulse k).history = t.history ∧
    (t.takePulse k).sticky = t.sticky ∧ (t.takePulse k).integ = t.integ ∧ (t.takePulse k).selected = t.selected ∧
    (t.takePulse k).gnss = t.gnss ∧ (t.takePulse k).link = t.link ∧ (t.takePulse k).message = t.message ∧
    (t.takePulse k).pulseTimer = t.pulseTimer ∧ (t.takePulse k).exchange = t.exchange ∧ (t.takePulse k).pathDelay = t.pathDelay ∧
    (t.takePulse k).params = t.params ∧ (t.takePulse k).pps = t.pps ∧ (t.takePulse k).crossed.second = t.crossed.second ∧
    (t.takePulse k).crossed.pulses = t.crossed.pulses.set k none := by
  simp [Tmu.takePulse]

/-- What a second crossed can be: nothing, where the advance has not made that crossing, or the second entered. -/
theorem siteSecond_cases (n : Nat) (s : State) :
    (s.tmu.crossed.second ≠ some n ∧ siteSecond n s = s)
      ∨ (s.tmu.crossed.second = some n ∧ siteSecond n s = enterSecond n (s.updTmu Tmu.takeSecond)) := by
  unfold siteSecond; split <;> simp_all

/-- What a pulse crossing can be: nothing, where the advance has not made that crossing, or the emission judged. -/
theorem ppsCrossing_cases (k : Slot) (n : Int) (s : State) :
    (s.tmu.crossed.pulses.get k ≠ some n ∧ ppsCrossing k n s = s)
      ∨ (s.tmu.crossed.pulses.get k = some n ∧ ppsCrossing k n s = emitPulse k n (s.updTmu fun t => t.takePulse k)) := by
  unfold ppsCrossing; split <;> simp_all

@[simp] theorem siteSecond_frame (n : Nat) :
    (siteSecond n s).pending = s.pending ∧ (siteSecond n s).lkc = s.lkc ∧ (siteSecond n s).gre = s.gre ∧
    (siteSecond n s).dsu = s.dsu ∧ (siteSecond n s).subMs = s.subMs ∧ (siteSecond n s).freeBytes = s.freeBytes ∧
    (siteSecond n s).emitted = s.emitted ∧ (siteSecond n s).sli.links = s.sli.links ∧ (siteSecond n s).sli.access = s.sli.access ∧
    (siteSecond n s).sli.lock = s.sli.lock ∧ (siteSecond n s).sli.strap = s.sli.strap ∧
    (siteSecond n s).scu.ceiling = s.scu.ceiling ∧ (siteSecond n s).scu.siteClass = s.scu.siteClass ∧
    (siteSecond n s).scu.acceptanceSet = s.scu.acceptanceSet ∧ (siteSecond n s).scu.tenants = s.scu.tenants ∧
    (siteSecond n s).tmu.residue = s.tmu.residue ∧ (siteSecond n s).tmu.message = s.tmu.message ∧
    (siteSecond n s).tmu.pulseTimer = s.tmu.pulseTimer ∧ (siteSecond n s).tmu.pathDelay = s.tmu.pathDelay ∧
    (siteSecond n s).tmu.params = s.tmu.params ∧ (siteSecond n s).tmu.everLocked = s.tmu.everLocked ∧
    (siteSecond n s).tmu.sticky = s.tmu.sticky ∧ (siteSecond n s).tmu.site = s.tmu.site ∧
    (siteSecond n s).tmu.pps = s.tmu.pps := by
  obtain ⟨-, h⟩ | ⟨-, h⟩ := siteSecond_cases n s <;> rw [h] <;> simp

@[simp] theorem emitPulse_frame (k : Slot) (n : Int) :
    (emitPulse k n s).pending = s.pending ∧ (emitPulse k n s).sli = s.sli ∧ (emitPulse k n s).scu = s.scu ∧
    (emitPulse k n s).lkc = s.lkc ∧ (emitPulse k n s).tqm = s.tqm ∧ (emitPulse k n s).gre = s.gre ∧ (emitPulse k n s).tsu = s.tsu ∧
    (emitPulse k n s).dsu = s.dsu ∧ (emitPulse k n s).subMs = s.subMs ∧ (emitPulse k n s).freeBytes = s.freeBytes ∧
    (emitPulse k n s).emitted = s.emitted ∧ (emitPulse k n s).tmu.site = s.tmu.site ∧
    (emitPulse k n s).tmu.residue = s.tmu.residue ∧ (emitPulse k n s).tmu.y = s.tmu.y ∧
    (emitPulse k n s).tmu.lastSecond = s.tmu.lastSecond ∧ (emitPulse k n s).tmu.cls = s.tmu.cls ∧
    (emitPulse k n s).tmu.timing = s.tmu.timing ∧ (emitPulse k n s).tmu.everLocked = s.tmu.everLocked ∧
    (emitPulse k n s).tmu.holdover = s.tmu.holdover ∧ (emitPulse k n s).tmu.history = s.tmu.history ∧
    (emitPulse k n s).tmu.sticky = s.tmu.sticky ∧ (emitPulse k n s).tmu.integ = s.tmu.integ ∧
    (emitPulse k n s).tmu.selected = s.tmu.selected ∧ (emitPulse k n s).tmu.gnss = s.tmu.gnss ∧
    (emitPulse k n s).tmu.link = s.tmu.link ∧ (emitPulse k n s).tmu.message = s.tmu.message ∧
    (emitPulse k n s).tmu.pulseTimer = s.tmu.pulseTimer ∧ (emitPulse k n s).tmu.exchange = s.tmu.exchange ∧
    (emitPulse k n s).tmu.pathDelay = s.tmu.pathDelay ∧ (emitPulse k n s).tmu.params = s.tmu.params := by
  unfold emitPulse; (repeat' split) <;> simp

@[simp] theorem ppsCrossing_frame (k : Slot) (n : Int) :
    (ppsCrossing k n s).pending = s.pending ∧ (ppsCrossing k n s).sli = s.sli ∧ (ppsCrossing k n s).scu = s.scu ∧
    (ppsCrossing k n s).lkc = s.lkc ∧ (ppsCrossing k n s).tqm = s.tqm ∧ (ppsCrossing k n s).gre = s.gre ∧
    (ppsCrossing k n s).tsu = s.tsu ∧ (ppsCrossing k n s).dsu = s.dsu ∧ (ppsCrossing k n s).subMs = s.subMs ∧
    (ppsCrossing k n s).freeBytes = s.freeBytes ∧ (ppsCrossing k n s).emitted = s.emitted ∧
    (ppsCrossing k n s).tmu.residue = s.tmu.residue ∧ (ppsCrossing k n s).tmu.y = s.tmu.y ∧
    (ppsCrossing k n s).tmu.cls = s.tmu.cls ∧ (ppsCrossing k n s).tmu.timing = s.tmu.timing ∧
    (ppsCrossing k n s).tmu.everLocked = s.tmu.everLocked ∧ (ppsCrossing k n s).tmu.holdover = s.tmu.holdover ∧
    (ppsCrossing k n s).tmu.history = s.tmu.history ∧ (ppsCrossing k n s).tmu.sticky = s.tmu.sticky ∧
    (ppsCrossing k n s).tmu.integ = s.tmu.integ ∧ (ppsCrossing k n s).tmu.selected = s.tmu.selected ∧
    (ppsCrossing k n s).tmu.gnss = s.tmu.gnss ∧ (ppsCrossing k n s).tmu.link = s.tmu.link ∧
    (ppsCrossing k n s).tmu.message = s.tmu.message ∧ (ppsCrossing k n s).tmu.pulseTimer = s.tmu.pulseTimer ∧
    (ppsCrossing k n s).tmu.exchange = s.tmu.exchange ∧ (ppsCrossing k n s).tmu.pathDelay = s.tmu.pathDelay ∧
    (ppsCrossing k n s).tmu.params = s.tmu.params ∧ (ppsCrossing k n s).tmu.site = s.tmu.site ∧
    (ppsCrossing k n s).tmu.lastSecond = s.tmu.lastSecond := by
  unfold ppsCrossing; (repeat' split) <;> simp

@[simp] theorem ppsFollow_frame (k : Slot) :
    (ppsFollow k s).pending = s.pending ∧ (ppsFollow k s).sli = s.sli ∧ (ppsFollow k s).scu = s.scu ∧ (ppsFollow k s).lkc = s.lkc ∧
    (ppsFollow k s).tqm = s.tqm ∧ (ppsFollow k s).gre = s.gre ∧ (ppsFollow k s).tsu = s.tsu ∧ (ppsFollow k s).dsu = s.dsu ∧
    (ppsFollow k s).subMs = s.subMs ∧ (ppsFollow k s).freeBytes = s.freeBytes ∧ (ppsFollow k s).emitted = s.emitted ∧
    (ppsFollow k s).tmu.site = s.tmu.site ∧ (ppsFollow k s).tmu.residue = s.tmu.residue ∧ (ppsFollow k s).tmu.y = s.tmu.y ∧
    (ppsFollow k s).tmu.lastSecond = s.tmu.lastSecond ∧ (ppsFollow k s).tmu.cls = s.tmu.cls ∧
    (ppsFollow k s).tmu.timing = s.tmu.timing ∧ (ppsFollow k s).tmu.everLocked = s.tmu.everLocked ∧
    (ppsFollow k s).tmu.holdover = s.tmu.holdover ∧ (ppsFollow k s).tmu.history = s.tmu.history ∧
    (ppsFollow k s).tmu.sticky = s.tmu.sticky ∧ (ppsFollow k s).tmu.integ = s.tmu.integ ∧
    (ppsFollow k s).tmu.selected = s.tmu.selected ∧ (ppsFollow k s).tmu.gnss = s.tmu.gnss ∧ (ppsFollow k s).tmu.link = s.tmu.link ∧
    (ppsFollow k s).tmu.message = s.tmu.message ∧ (ppsFollow k s).tmu.pulseTimer = s.tmu.pulseTimer ∧
    (ppsFollow k s).tmu.exchange = s.tmu.exchange ∧ (ppsFollow k s).tmu.pathDelay = s.tmu.pathDelay ∧
    (ppsFollow k s).tmu.params = s.tmu.params := by
  unfold ppsFollow; (repeat' split) <;> simp

end Sys2Proof.Machine
end

