-- ==== Sys2Proof/Laws/Link.lean ====
section
/-! SUPPORT. What LKC's shared operations leave alone: one theorem for each. -/

namespace Sys2Proof.Machine

open Sys2Proof

variable (s : State)

/-! ## Commands, entries and departures -/

@[simp] theorem emitOdu_frame (c : OduCommand) :
    (emitOdu c s).pending = s.pending ∧ (emitOdu c s).sli = s.sli ∧ (emitOdu c s).scu = s.scu ∧ (emitOdu c s).tqm = s.tqm ∧
    (emitOdu c s).gre = s.gre ∧ (emitOdu c s).tmu = s.tmu ∧ (emitOdu c s).tsu = s.tsu ∧ (emitOdu c s).dsu = s.dsu ∧
    (emitOdu c s).subMs = s.subMs ∧ (emitOdu c s).freeBytes = s.freeBytes ∧ (emitOdu c s).lkc = { s.lkc with sent := s.lkc.sent + 1 } ∧
    (emitOdu c s).emitted = s.emitted ++ [.odu c] := by
  simp [emitOdu]

@[simp] theorem sendOdu_frame (c : OduCommand) (n : Nat) :
    (sendOdu c n s).pending = s.pending ∧ (sendOdu c n s).sli = s.sli ∧ (sendOdu c n s).scu = s.scu ∧ (sendOdu c n s).tqm = s.tqm ∧
    (sendOdu c n s).gre = s.gre ∧ (sendOdu c n s).tmu = s.tmu ∧ (sendOdu c n s).tsu = s.tsu ∧ (sendOdu c n s).dsu = s.dsu ∧
    (sendOdu c n s).subMs = s.subMs ∧ (sendOdu c n s).freeBytes = s.freeBytes := by
  simp [sendOdu]

@[simp] theorem endCommand_frame :
    (endCommand s).pending = s.pending ∧ (endCommand s).sli = s.sli ∧ (endCommand s).scu = s.scu ∧ (endCommand s).tqm = s.tqm ∧
    (endCommand s).gre = s.gre ∧ (endCommand s).tmu = s.tmu ∧ (endCommand s).tsu = s.tsu ∧ (endCommand s).dsu = s.dsu ∧
    (endCommand s).subMs = s.subMs ∧ (endCommand s).freeBytes = s.freeBytes ∧ (endCommand s).emitted = s.emitted := by
  simp [endCommand]

/-- All that a confirmation can do: with the late confirmations recounted, nothing more, or, where its command is outstanding, the answer's
effect. -/
theorem takeConfirm_cases (c : OduCommand) (answered : State → State) :
    ∃ l : LateConfirms,
      takeConfirm c answered s = s.updLkc (fun k => { k with late := l })
        ∨ (s.awaits c = true ∧ takeConfirm c answered s = answered (s.updLkc fun k => { k with late := l })) := by
  unfold takeConfirm
  split
  · split
    · next h => exact ⟨s.lkc.late, .inr ⟨h, rfl⟩⟩
    · exact ⟨s.lkc.late, .inl rfl⟩
  · dsimp only
    split
    · next h =>
      split
      · exact ⟨_, .inl rfl⟩
      · exact ⟨_, .inr ⟨h, rfl⟩⟩
    · exact ⟨_, .inl rfl⟩

/-- With no late confirmation to come, a confirmation answers the command outstanding or is discarded (R22). -/
theorem takeConfirm_none {c : OduCommand} (answered : State → State) (h : s.lkc.late.get c = 0) :
    takeConfirm c answered s = if s.awaits c then answered s else s := by
  simp [takeConfirm, h]

@[simp] theorem linkStateEvent_frame :
    (linkStateEvent s).pending = s.pending ∧ (linkStateEvent s).scu = s.scu ∧ (linkStateEvent s).lkc = s.lkc ∧
    (linkStateEvent s).tqm = s.tqm ∧ (linkStateEvent s).gre = s.gre ∧ (linkStateEvent s).tmu = s.tmu ∧
    (linkStateEvent s).tsu = s.tsu ∧ (linkStateEvent s).dsu = s.dsu ∧ (linkStateEvent s).subMs = s.subMs ∧
    (linkStateEvent s).freeBytes = s.freeBytes ∧ (linkStateEvent s).emitted = s.emitted ∧
    (linkStateEvent s).sli.links = s.sli.links ∧ (linkStateEvent s).sli.access = s.sli.access ∧
    (linkStateEvent s).sli.lock = s.sli.lock ∧ (linkStateEvent s).sli.strap = s.sli.strap := by
  simp [linkStateEvent]

@[simp] theorem judgeLooped_frame :
    (judgeLooped s).pending = s.pending ∧ (judgeLooped s).sli = s.sli ∧ (judgeLooped s).scu = s.scu ∧ (judgeLooped s).tqm = s.tqm ∧
    (judgeLooped s).gre = s.gre ∧ (judgeLooped s).tmu = s.tmu ∧ (judgeLooped s).dsu = s.dsu ∧ (judgeLooped s).subMs = s.subMs ∧
    (judgeLooped s).freeBytes = s.freeBytes ∧ (judgeLooped s).emitted = s.emitted ∧ (judgeLooped s).tsu.queued = s.tsu.queued ∧
    (judgeLooped s).tsu.nextId = s.tsu.nextId ∧ (judgeLooped s).tsu.log = s.tsu.log ∧ (judgeLooped s).tsu.nextSeq = s.tsu.nextSeq := by
  simp [judgeLooped]

@[simp] theorem departQueues_frame (w : LinkState) :
    (departQueues w s).pending = s.pending ∧ (departQueues w s).lkc = s.lkc ∧ (departQueues w s).gre = s.gre ∧
    (departQueues w s).dsu = s.dsu ∧ (departQueues w s).subMs = s.subMs ∧ (departQueues w s).freeBytes = s.freeBytes ∧
    (departQueues w s).emitted = s.emitted ∧ (departQueues w s).sli.links = s.sli.links ∧
    (departQueues w s).sli.access = s.sli.access ∧ (departQueues w s).sli.lock = s.sli.lock ∧
    (departQueues w s).sli.strap = s.sli.strap ∧ (departQueues w s).scu.ceiling = s.scu.ceiling ∧
    (departQueues w s).scu.siteClass = s.scu.siteClass ∧ (departQueues w s).scu.acceptanceSet = s.scu.acceptanceSet ∧
    (departQueues w s).scu.tenants = s.scu.tenants ∧ (departQueues w s).tmu.site = s.tmu.site ∧
    (departQueues w s).tmu.residue = s.tmu.residue ∧ (departQueues w s).tmu.lastSecond = s.tmu.lastSecond ∧
    (departQueues w s).tmu.everLocked = s.tmu.everLocked ∧ (departQueues w s).tmu.sticky = s.tmu.sticky ∧
    (departQueues w s).tmu.message = s.tmu.message ∧ (departQueues w s).tmu.pulseTimer = s.tmu.pulseTimer ∧
    (departQueues w s).tmu.pathDelay = s.tmu.pathDelay ∧ (departQueues w s).tmu.params = s.tmu.params ∧
    (departQueues w s).tmu.pps = s.tmu.pps ∧
    (departQueues w s).tmu.crossed = s.tmu.crossed := by
  unfold departQueues; (repeat' split) <;> simp

@[simp] theorem depart_frame (w : LinkState) (out : TestOutcome) :
    (depart w out s).pending = s.pending ∧ (depart w out s).lkc = s.lkc ∧ (depart w out s).gre = s.gre ∧
    (depart w out s).dsu = s.dsu ∧ (depart w out s).subMs = s.subMs ∧ (depart w out s).freeBytes = s.freeBytes ∧
    (depart w out s).emitted = s.emitted ∧ (depart w out s).sli.links = s.sli.links ∧ (depart w out s).sli.access = s.sli.access ∧
    (depart w out s).sli.lock = s.sli.lock ∧ (depart w out s).sli.strap = s.sli.strap ∧
    (depart w out s).scu.ceiling = s.scu.ceiling ∧ (depart w out s).scu.siteClass = s.scu.siteClass ∧
    (depart w out s).scu.acceptanceSet = s.scu.acceptanceSet ∧ (depart w out s).scu.tenants = s.scu.tenants ∧
    (depart w out s).tmu.site = s.tmu.site ∧ (depart w out s).tmu.residue = s.tmu.residue ∧
    (depart w out s).tmu.lastSecond = s.tmu.lastSecond ∧ (depart w out s).tmu.everLocked = s.tmu.everLocked ∧
    (depart w out s).tmu.sticky = s.tmu.sticky ∧ (depart w out s).tmu.message = s.tmu.message ∧
    (depart w out s).tmu.pulseTimer = s.tmu.pulseTimer ∧ (depart w out s).tmu.pathDelay = s.tmu.pathDelay ∧
    (depart w out s).tmu.params = s.tmu.params ∧ (depart w out s).tmu.pps = s.tmu.pps ∧
    (depart w out s).tmu.crossed = s.tmu.crossed := by
  unfold depart; (repeat' split) <;> simp

@[simp] theorem releaseHold_frame :
    (releaseHold s).pending = s.pending ∧ (releaseHold s).sli = s.sli ∧ (releaseHold s).scu = s.scu ∧ (releaseHold s).tqm = s.tqm ∧
    (releaseHold s).gre = s.gre ∧ (releaseHold s).tmu = s.tmu ∧ (releaseHold s).dsu = s.dsu ∧ (releaseHold s).subMs = s.subMs ∧
    (releaseHold s).freeBytes = s.freeBytes ∧ (releaseHold s).tsu.queued = s.tsu.queued ∧
    (releaseHold s).tsu.nextId = s.tsu.nextId ∧ (releaseHold s).tsu.log = s.tsu.log ∧ (releaseHold s).tsu.nextSeq = s.tsu.nextSeq := by
  unfold releaseHold; (repeat' split) <;> simp

@[simp] theorem discoveryEntry_frame :
    (discoveryEntry s).pending = s.pending ∧ (discoveryEntry s).scu = s.scu ∧ (discoveryEntry s).tqm = s.tqm ∧
    (discoveryEntry s).gre = s.gre ∧ (discoveryEntry s).tmu = s.tmu ∧ (discoveryEntry s).dsu = s.dsu ∧
    (discoveryEntry s).subMs = s.subMs ∧ (discoveryEntry s).freeBytes = s.freeBytes ∧ (discoveryEntry s).sli.links = s.sli.links ∧
    (discoveryEntry s).sli.access = s.sli.access ∧ (discoveryEntry s).sli.lock = s.sli.lock ∧
    (discoveryEntry s).sli.strap = s.sli.strap ∧ (discoveryEntry s).tsu.queued = s.tsu.queued ∧
    (discoveryEntry s).tsu.nextId = s.tsu.nextId ∧ (discoveryEntry s).tsu.log = s.tsu.log ∧
    (discoveryEntry s).tsu.nextSeq = s.tsu.nextSeq := by
  simp [discoveryEntry]

@[simp] theorem enterDiscovery_frame :
    (enterDiscovery s).pending = s.pending ∧ (enterDiscovery s).gre = s.gre ∧ (enterDiscovery s).dsu = s.dsu ∧
    (enterDiscovery s).subMs = s.subMs ∧ (enterDiscovery s).freeBytes = s.freeBytes ∧ (enterDiscovery s).sli.links = s.sli.links ∧
    (enterDiscovery s).sli.access = s.sli.access ∧ (enterDiscovery s).sli.lock = s.sli.lock ∧
    (enterDiscovery s).sli.strap = s.sli.strap ∧ (enterDiscovery s).scu.ceiling = s.scu.ceiling ∧
    (enterDiscovery s).scu.siteClass = s.scu.siteClass ∧ (enterDiscovery s).scu.acceptanceSet = s.scu.acceptanceSet ∧
    (enterDiscovery s).scu.tenants = s.scu.tenants ∧ (enterDiscovery s).tmu.params = s.tmu.params := by
  simp [enterDiscovery]

@[simp] theorem siteResetLink_frame :
    (siteResetLink s).pending = s.pending ∧ (siteResetLink s).scu = s.scu ∧ (siteResetLink s).tqm = s.tqm ∧
    (siteResetLink s).gre = s.gre ∧ (siteResetLink s).tmu = s.tmu ∧ (siteResetLink s).dsu = s.dsu ∧
    (siteResetLink s).subMs = s.subMs ∧ (siteResetLink s).freeBytes = s.freeBytes ∧ (siteResetLink s).sli.links = s.sli.links ∧
    (siteResetLink s).sli.access = s.sli.access ∧ (siteResetLink s).sli.lock = s.sli.lock ∧
    (siteResetLink s).sli.strap = s.sli.strap ∧ (siteResetLink s).tsu.queued = s.tsu.queued ∧
    (siteResetLink s).tsu.nextId = s.tsu.nextId ∧ (siteResetLink s).tsu.log = s.tsu.log ∧
    (siteResetLink s).tsu.nextSeq = s.tsu.nextSeq := by
  unfold siteResetLink; (repeat' split) <;> simp

@[simp] theorem enterLost_frame (x : LossCause) :
    (enterLost x s).pending = s.pending ∧ (enterLost x s).gre = s.gre ∧ (enterLost x s).dsu = s.dsu ∧
    (enterLost x s).subMs = s.subMs ∧ (enterLost x s).freeBytes = s.freeBytes ∧ (enterLost x s).sli.links = s.sli.links ∧
    (enterLost x s).sli.access = s.sli.access ∧ (enterLost x s).sli.lock = s.sli.lock ∧ (enterLost x s).sli.strap = s.sli.strap ∧
    (enterLost x s).scu.ceiling = s.scu.ceiling ∧ (enterLost x s).scu.siteClass = s.scu.siteClass ∧
    (enterLost x s).scu.acceptanceSet = s.scu.acceptanceSet ∧ (enterLost x s).scu.tenants = s.scu.tenants ∧
    (enterLost x s).tmu.params = s.tmu.params ∧ (enterLost x s).emitted = s.emitted := by
  simp [enterLost]

@[simp] theorem enterAcquiring_frame :
    (enterAcquiring s).pending = s.pending ∧ (enterAcquiring s).gre = s.gre ∧ (enterAcquiring s).tmu = s.tmu ∧
    (enterAcquiring s).dsu = s.dsu ∧ (enterAcquiring s).subMs = s.subMs ∧ (enterAcquiring s).freeBytes = s.freeBytes ∧
    (enterAcquiring s).emitted = s.emitted ∧ (enterAcquiring s).sli.links = s.sli.links ∧
    (enterAcquiring s).sli.access = s.sli.access ∧ (enterAcquiring s).sli.lock = s.sli.lock ∧
    (enterAcquiring s).sli.strap = s.sli.strap ∧ (enterAcquiring s).scu.ceiling = s.scu.ceiling ∧
    (enterAcquiring s).scu.siteClass = s.scu.siteClass ∧ (enterAcquiring s).scu.acceptanceSet = s.scu.acceptanceSet ∧
    (enterAcquiring s).scu.tenants = s.scu.tenants ∧ (enterAcquiring s).scu.fit = s.scu.fit := by
  simp [enterAcquiring]

@[simp] theorem enterUp_frame :
    (enterUp s).pending = s.pending ∧ (enterUp s).gre = s.gre ∧ (enterUp s).tmu = s.tmu ∧ (enterUp s).dsu = s.dsu ∧
    (enterUp s).subMs = s.subMs ∧ (enterUp s).freeBytes = s.freeBytes ∧ (enterUp s).emitted = s.emitted ∧
    (enterUp s).sli.links = s.sli.links ∧ (enterUp s).sli.access = s.sli.access ∧ (enterUp s).sli.lock = s.sli.lock ∧
    (enterUp s).sli.strap = s.sli.strap ∧ (enterUp s).scu.ceiling = s.scu.ceiling ∧ (enterUp s).scu.siteClass = s.scu.siteClass ∧
    (enterUp s).scu.acceptanceSet = s.scu.acceptanceSet ∧ (enterUp s).scu.tenants = s.scu.tenants ∧ (enterUp s).scu.fit = s.scu.fit := by
  simp [enterUp]

@[simp] theorem failDiscovery_frame (r : OffReason) :
    (failDiscovery r s).pending = s.pending ∧ (failDiscovery r s).gre = s.gre ∧ (failDiscovery r s).tmu = s.tmu ∧
    (failDiscovery r s).dsu = s.dsu ∧ (failDiscovery r s).subMs = s.subMs ∧ (failDiscovery r s).freeBytes = s.freeBytes ∧
    (failDiscovery r s).emitted = s.emitted ∧ (failDiscovery r s).sli.links = s.sli.links ∧
    (failDiscovery r s).sli.access = s.sli.access ∧ (failDiscovery r s).sli.lock = s.sli.lock ∧
    (failDiscovery r s).sli.strap = s.sli.strap ∧ (failDiscovery r s).scu.ceiling = s.scu.ceiling ∧
    (failDiscovery r s).scu.siteClass = s.scu.siteClass ∧ (failDiscovery r s).scu.acceptanceSet = s.scu.acceptanceSet ∧
    (failDiscovery r s).scu.tenants = s.scu.tenants ∧ (failDiscovery r s).scu.fit = s.scu.fit := by
  simp [failDiscovery]

@[simp] theorem installLadder_frame (b : Option (Ladder × LadderSource)) :
    (installLadder b s).pending = s.pending ∧ (installLadder b s).gre = s.gre ∧ (installLadder b s).tmu = s.tmu ∧
    (installLadder b s).dsu = s.dsu ∧ (installLadder b s).subMs = s.subMs ∧ (installLadder b s).freeBytes = s.freeBytes ∧
    (installLadder b s).emitted = s.emitted ∧ (installLadder b s).sli.links = s.sli.links ∧
    (installLadder b s).sli.access = s.sli.access ∧ (installLadder b s).sli.lock = s.sli.lock ∧
    (installLadder b s).sli.strap = s.sli.strap ∧ (installLadder b s).scu.ceiling = s.scu.ceiling ∧
    (installLadder b s).scu.siteClass = s.scu.siteClass ∧ (installLadder b s).scu.acceptanceSet = s.scu.acceptanceSet ∧
    (installLadder b s).scu.tenants = s.scu.tenants ∧ (installLadder b s).scu.fit = s.scu.fit := by
  unfold installLadder; (repeat' split) <;> simp

@[simp] theorem buildLadder_frame (p : Option CapabilityPage) :
    (buildLadder p s).pending = s.pending ∧ (buildLadder p s).gre = s.gre ∧ (buildLadder p s).tmu = s.tmu ∧
    (buildLadder p s).dsu = s.dsu ∧ (buildLadder p s).subMs = s.subMs ∧ (buildLadder p s).freeBytes = s.freeBytes ∧
    (buildLadder p s).emitted = s.emitted ∧ (buildLadder p s).sli.links = s.sli.links ∧
    (buildLadder p s).sli.access = s.sli.access ∧ (buildLadder p s).sli.lock = s.sli.lock ∧
    (buildLadder p s).sli.strap = s.sli.strap ∧ (buildLadder p s).scu.ceiling = s.scu.ceiling ∧
    (buildLadder p s).scu.siteClass = s.scu.siteClass ∧ (buildLadder p s).scu.acceptanceSet = s.scu.acceptanceSet ∧
    (buildLadder p s).scu.tenants = s.scu.tenants ∧ (buildLadder p s).scu.fit = s.scu.fit := by
  unfold buildLadder; dsimp only; (repeat' split) <;> simp

/-! ## Margins, far frames and the hold -/

@[simp] theorem rungDecision_frame (m : Int) :
    (rungDecision m s).pending = s.pending ∧ (rungDecision m s).sli = s.sli ∧ (rungDecision m s).scu = s.scu ∧
    (rungDecision m s).tqm = s.tqm ∧ (rungDecision m s).gre = s.gre ∧ (rungDecision m s).tmu = s.tmu ∧
    (rungDecision m s).tsu = s.tsu ∧ (rungDecision m s).dsu = s.dsu ∧ (rungDecision m s).subMs = s.subMs ∧
    (rungDecision m s).freeBytes = s.freeBytes ∧ (rungDecision m s).emitted = s.emitted := by
  unfold rungDecision; (repeat' split) <;> simp

@[simp] theorem takeReport_frame (m : Int) :
    (takeReport m s).pending = s.pending ∧ (takeReport m s).gre = s.gre ∧ (takeReport m s).dsu = s.dsu ∧
    (takeReport m s).subMs = s.subMs ∧ (takeReport m s).freeBytes = s.freeBytes ∧ (takeReport m s).sli.links = s.sli.links ∧
    (takeReport m s).sli.access = s.sli.access ∧ (takeReport m s).sli.lock = s.sli.lock ∧
    (takeReport m s).sli.strap = s.sli.strap ∧ (takeReport m s).scu.ceiling = s.scu.ceiling ∧
    (takeReport m s).scu.siteClass = s.scu.siteClass ∧ (takeReport m s).scu.acceptanceSet = s.scu.acceptanceSet ∧
    (takeReport m s).scu.tenants = s.scu.tenants ∧ (takeReport m s).tmu.params = s.tmu.params ∧ (takeReport m s).emitted = s.emitted := by
  unfold takeReport; dsimp only; (repeat' split) <;> simp

@[simp] theorem missFrame_frame :
    (missFrame s).pending = s.pending ∧ (missFrame s).gre = s.gre ∧ (missFrame s).dsu = s.dsu ∧ (missFrame s).subMs = s.subMs ∧
    (missFrame s).freeBytes = s.freeBytes ∧ (missFrame s).sli.links = s.sli.links ∧ (missFrame s).sli.access = s.sli.access ∧
    (missFrame s).sli.lock = s.sli.lock ∧ (missFrame s).sli.strap = s.sli.strap ∧ (missFrame s).scu.ceiling = s.scu.ceiling ∧
    (missFrame s).scu.siteClass = s.scu.siteClass ∧ (missFrame s).scu.acceptanceSet = s.scu.acceptanceSet ∧
    (missFrame s).scu.tenants = s.scu.tenants ∧ (missFrame s).tmu.params = s.tmu.params ∧ (missFrame s).emitted = s.emitted := by
  unfold missFrame; dsimp only; (repeat' split) <;> simp

@[simp] theorem handOn_frame (f : FarFrame) :
    (handOn f s).pending = s.pending ∧ (handOn f s).gre = s.gre ∧ (handOn f s).dsu = s.dsu ∧ (handOn f s).subMs = s.subMs ∧
    (handOn f s).freeBytes = s.freeBytes ∧ (handOn f s).sli.links = s.sli.links ∧ (handOn f s).sli.access = s.sli.access ∧
    (handOn f s).sli.lock = s.sli.lock ∧ (handOn f s).sli.strap = s.sli.strap ∧ (handOn f s).scu.ceiling = s.scu.ceiling ∧
    (handOn f s).scu.siteClass = s.scu.siteClass ∧ (handOn f s).scu.acceptanceSet = s.scu.acceptanceSet ∧
    (handOn f s).scu.tenants = s.scu.tenants ∧ (handOn f s).tmu.params = s.tmu.params := by
  unfold handOn; dsimp only; (repeat' split) <;> simp

@[simp] theorem takeFarFrame_frame (f : FarFrame) :
    (takeFarFrame f s).pending = s.pending ∧ (takeFarFrame f s).gre = s.gre ∧ (takeFarFrame f s).dsu = s.dsu ∧
    (takeFarFrame f s).subMs = s.subMs ∧ (takeFarFrame f s).freeBytes = s.freeBytes ∧ (takeFarFrame f s).sli.links = s.sli.links ∧
    (takeFarFrame f s).sli.access = s.sli.access ∧ (takeFarFrame f s).sli.lock = s.sli.lock ∧
    (takeFarFrame f s).sli.strap = s.sli.strap ∧ (takeFarFrame f s).scu.ceiling = s.scu.ceiling ∧
    (takeFarFrame f s).scu.siteClass = s.scu.siteClass ∧ (takeFarFrame f s).scu.acceptanceSet = s.scu.acceptanceSet ∧
    (takeFarFrame f s).scu.tenants = s.scu.tenants ∧ (takeFarFrame f s).tmu.params = s.tmu.params := by
  unfold takeFarFrame; (repeat' split) <;> simp

@[simp] theorem enterLoopExit_frame :
    (enterLoopExit s).pending = s.pending ∧ (enterLoopExit s).sli = s.sli ∧ (enterLoopExit s).scu = s.scu ∧
    (enterLoopExit s).tqm = s.tqm ∧ (enterLoopExit s).gre = s.gre ∧ (enterLoopExit s).tmu = s.tmu ∧ (enterLoopExit s).tsu = s.tsu ∧
    (enterLoopExit s).dsu = s.dsu ∧ (enterLoopExit s).subMs = s.subMs ∧ (enterLoopExit s).freeBytes = s.freeBytes := by
  simp [enterLoopExit]

@[simp] theorem leavePending_frame (b : Bool) :
    (leavePending b s).pending = s.pending ∧ (leavePending b s).sli = s.sli ∧ (leavePending b s).scu = s.scu ∧
    (leavePending b s).tqm = s.tqm ∧ (leavePending b s).gre = s.gre ∧ (leavePending b s).tmu = s.tmu ∧
    (leavePending b s).tsu = s.tsu ∧ (leavePending b s).dsu = s.dsu ∧ (leavePending b s).subMs = s.subMs ∧
    (leavePending b s).freeBytes = s.freeBytes := by
  unfold leavePending; (repeat' split) <;> simp

@[simp] theorem askLoopEnd_frame :
    (askLoopEnd s).pending = s.pending ∧ (askLoopEnd s).sli = s.sli ∧ (askLoopEnd s).scu = s.scu ∧ (askLoopEnd s).tqm = s.tqm ∧
    (askLoopEnd s).gre = s.gre ∧ (askLoopEnd s).tmu = s.tmu ∧ (askLoopEnd s).tsu = s.tsu ∧ (askLoopEnd s).dsu = s.dsu ∧
    (askLoopEnd s).subMs = s.subMs ∧ (askLoopEnd s).freeBytes = s.freeBytes := by
  unfold askLoopEnd; (repeat' split) <;> simp

@[simp] theorem abortLoop_frame (r : AbortReason) :
    (abortLoop r s).pending = s.pending ∧ (abortLoop r s).gre = s.gre ∧ (abortLoop r s).tmu = s.tmu ∧ (abortLoop r s).dsu = s.dsu ∧
    (abortLoop r s).subMs = s.subMs ∧ (abortLoop r s).freeBytes = s.freeBytes ∧ (abortLoop r s).sli.links = s.sli.links ∧
    (abortLoop r s).sli.access = s.sli.access ∧ (abortLoop r s).sli.lock = s.sli.lock ∧ (abortLoop r s).sli.strap = s.sli.strap ∧
    (abortLoop r s).scu.ceiling = s.scu.ceiling ∧ (abortLoop r s).scu.siteClass = s.scu.siteClass ∧
    (abortLoop r s).scu.acceptanceSet = s.scu.acceptanceSet ∧ (abortLoop r s).scu.tenants = s.scu.tenants ∧
    (abortLoop r s).scu.fit = s.scu.fit := by
  unfold abortLoop; (repeat' split) <;> simp

@[simp] theorem enterHold_frame :
    (enterHold s).pending = s.pending ∧ (enterHold s).gre = s.gre ∧ (enterHold s).dsu = s.dsu ∧ (enterHold s).subMs = s.subMs ∧
    (enterHold s).freeBytes = s.freeBytes ∧ (enterHold s).sli.links = s.sli.links ∧ (enterHold s).sli.access = s.sli.access ∧
    (enterHold s).sli.lock = s.sli.lock ∧ (enterHold s).sli.strap = s.sli.strap ∧ (enterHold s).scu.ceiling = s.scu.ceiling ∧
    (enterHold s).scu.siteClass = s.scu.siteClass ∧ (enterHold s).scu.acceptanceSet = s.scu.acceptanceSet ∧
    (enterHold s).scu.tenants = s.scu.tenants ∧ (enterHold s).tmu.params = s.tmu.params := by
  unfold enterHold; dsimp only; (repeat' split) <;> simp

@[simp] theorem endHold_frame :
    (endHold s).pending = s.pending ∧ (endHold s).gre = s.gre ∧ (endHold s).tmu = s.tmu ∧ (endHold s).dsu = s.dsu ∧
    (endHold s).subMs = s.subMs ∧ (endHold s).freeBytes = s.freeBytes ∧ (endHold s).emitted = s.emitted ∧
    (endHold s).sli.links = s.sli.links ∧ (endHold s).sli.access = s.sli.access ∧ (endHold s).sli.lock = s.sli.lock ∧
    (endHold s).sli.strap = s.sli.strap ∧ (endHold s).scu.ceiling = s.scu.ceiling ∧ (endHold s).scu.siteClass = s.scu.siteClass ∧
    (endHold s).scu.acceptanceSet = s.scu.acceptanceSet ∧ (endHold s).scu.tenants = s.scu.tenants ∧ (endHold s).scu.fit = s.scu.fit := by
  unfold endHold; dsimp only; (repeat' split) <;> simp

@[simp] theorem returnLooped_frame (n e : Nat) :
    (returnLooped n e s).pending = s.pending ∧ (returnLooped n e s).sli = s.sli ∧ (returnLooped n e s).scu = s.scu ∧
    (returnLooped n e s).tqm = s.tqm ∧ (returnLooped n e s).gre = s.gre ∧ (returnLooped n e s).tmu = s.tmu ∧
    (returnLooped n e s).dsu = s.dsu ∧ (returnLooped n e s).subMs = s.subMs ∧ (returnLooped n e s).freeBytes = s.freeBytes ∧
    (returnLooped n e s).emitted = s.emitted ∧ (returnLooped n e s).tsu.queued = s.tsu.queued ∧
    (returnLooped n e s).tsu.nextId = s.tsu.nextId ∧ (returnLooped n e s).tsu.log = s.tsu.log ∧
    (returnLooped n e s).tsu.nextSeq = s.tsu.nextSeq := by
  unfold returnLooped; (repeat' split) <;> simp

/-! ## Frame fills -/

@[simp] theorem takeEffect_frame (n : Notice) :
    (takeEffect n s).pending = s.pending ∧ (takeEffect n s).sli.links = s.sli.links ∧ (takeEffect n s).sli.access = s.sli.access ∧
    (takeEffect n s).sli.lock = s.sli.lock ∧ (takeEffect n s).sli.strap = s.sli.strap ∧ (takeEffect n s).scu = s.scu ∧
    (takeEffect n s).tqm = s.tqm ∧ (takeEffect n s).gre = s.gre ∧ (takeEffect n s).tmu = s.tmu ∧ (takeEffect n s).tsu = s.tsu ∧
    (takeEffect n s).dsu = s.dsu ∧ (takeEffect n s).subMs = s.subMs ∧ (takeEffect n s).freeBytes = s.freeBytes ∧
    (takeEffect n s).emitted = s.emitted := by
  unfold takeEffect; dsimp only; (repeat' split) <;> simp

theorem takeEffect_lkc (n : Notice) :
    (takeEffect n s).lkc = { s.lkc with rung := n.target, notice := none, voided := none } := by
  unfold takeEffect; dsimp only; split <;> simp

@[simp] theorem fixRung_frame :
    (fixRung s).pending = s.pending ∧ (fixRung s).sli.links = s.sli.links ∧ (fixRung s).sli.access = s.sli.access ∧
    (fixRung s).sli.lock = s.sli.lock ∧ (fixRung s).sli.strap = s.sli.strap ∧ (fixRung s).scu = s.scu ∧ (fixRung s).tqm = s.tqm ∧
    (fixRung s).gre = s.gre ∧ (fixRung s).tmu = s.tmu ∧ (fixRung s).tsu = s.tsu ∧ (fixRung s).dsu = s.dsu ∧
    (fixRung s).subMs = s.subMs ∧ (fixRung s).freeBytes = s.freeBytes ∧ (fixRung s).emitted = s.emitted := by
  unfold fixRung; (repeat' split) <;> simp

@[simp] theorem reportRung_frame (n : Nat) :
    (reportRung n s).pending = s.pending ∧ (reportRung n s).lkc = s.lkc ∧ (reportRung n s).gre = s.gre ∧
    (reportRung n s).dsu = s.dsu ∧ (reportRung n s).subMs = s.subMs ∧ (reportRung n s).freeBytes = s.freeBytes ∧
    (reportRung n s).emitted = s.emitted ∧ (reportRung n s).sli.links = s.sli.links ∧ (reportRung n s).sli.access = s.sli.access ∧
    (reportRung n s).sli.lock = s.sli.lock ∧ (reportRung n s).sli.strap = s.sli.strap ∧
    (reportRung n s).scu.ceiling = s.scu.ceiling ∧ (reportRung n s).scu.siteClass = s.scu.siteClass ∧
    (reportRung n s).scu.acceptanceSet = s.scu.acceptanceSet ∧ (reportRung n s).scu.tenants = s.scu.tenants ∧
    (reportRung n s).tmu.site = s.tmu.site ∧ (reportRung n s).tmu.residue = s.tmu.residue ∧
    (reportRung n s).tmu.lastSecond = s.tmu.lastSecond ∧ (reportRung n s).tmu.everLocked = s.tmu.everLocked ∧
    (reportRung n s).tmu.sticky = s.tmu.sticky ∧ (reportRung n s).tmu.message = s.tmu.message ∧
    (reportRung n s).tmu.pulseTimer = s.tmu.pulseTimer ∧ (reportRung n s).tmu.pathDelay = s.tmu.pathDelay ∧
    (reportRung n s).tmu.params = s.tmu.params ∧ (reportRung n s).tmu.pps = s.tmu.pps ∧
    (reportRung n s).tmu.crossed = s.tmu.crossed := by
  unfold reportRung; split <;> simp

@[simp] theorem reportRung_same : reportRung s.lkc.rung s = s := by simp [reportRung]

@[simp] theorem pushFrame_frame (b : Bool) (p : Nat) (g : List Segment) :
    (pushFrame b p g s).pending = s.pending ∧ (pushFrame b p g s).sli = s.sli ∧ (pushFrame b p g s).scu = s.scu ∧
    (pushFrame b p g s).tqm = s.tqm ∧ (pushFrame b p g s).gre = s.gre ∧ (pushFrame b p g s).tmu = s.tmu ∧
    (pushFrame b p g s).tsu = s.tsu ∧ (pushFrame b p g s).dsu = s.dsu ∧ (pushFrame b p g s).subMs = s.subMs ∧
    (pushFrame b p g s).freeBytes = s.freeBytes ∧ (pushFrame b p g s).emitted = s.emitted := by
  simp [pushFrame]

@[simp] theorem ageLooped_frame :
    (ageLooped s).pending = s.pending ∧ (ageLooped s).sli = s.sli ∧ (ageLooped s).scu = s.scu ∧ (ageLooped s).tqm = s.tqm ∧
    (ageLooped s).gre = s.gre ∧ (ageLooped s).tmu = s.tmu ∧ (ageLooped s).dsu = s.dsu ∧ (ageLooped s).subMs = s.subMs ∧
    (ageLooped s).freeBytes = s.freeBytes ∧ (ageLooped s).emitted = s.emitted ∧ (ageLooped s).tsu.queued = s.tsu.queued ∧
    (ageLooped s).tsu.nextId = s.tsu.nextId ∧ (ageLooped s).tsu.log = s.tsu.log ∧ (ageLooped s).tsu.nextSeq = s.tsu.nextSeq := by
  unfold ageLooped; dsimp only; (repeat' split) <;> simp

@[simp] theorem fillHeld_frame :
    (fillHeld s).pending = s.pending ∧ (fillHeld s).sli = s.sli ∧ (fillHeld s).scu = s.scu ∧ (fillHeld s).tqm = s.tqm ∧
    (fillHeld s).gre = s.gre ∧ (fillHeld s).tmu = s.tmu ∧ (fillHeld s).dsu = s.dsu ∧ (fillHeld s).subMs = s.subMs ∧
    (fillHeld s).freeBytes = s.freeBytes ∧ (fillHeld s).tsu.queued = s.tsu.queued ∧ (fillHeld s).tsu.nextId = s.tsu.nextId ∧
    (fillHeld s).tsu.log = s.tsu.log ∧ (fillHeld s).tsu.nextSeq = s.tsu.nextSeq := by
  unfold fillHeld; dsimp only; (repeat' split) <;> simp

@[simp] theorem passAndDrain_frame :
    ((passAndDrain s).2.2).pending = s.pending ∧ ((passAndDrain s).2.2).scu = s.scu ∧ ((passAndDrain s).2.2).lkc = s.lkc ∧
    ((passAndDrain s).2.2).tmu = s.tmu ∧ ((passAndDrain s).2.2).tsu = s.tsu ∧ ((passAndDrain s).2.2).dsu = s.dsu ∧
    ((passAndDrain s).2.2).subMs = s.subMs ∧ ((passAndDrain s).2.2).freeBytes = s.freeBytes ∧
    ((passAndDrain s).2.2).emitted = s.emitted ∧ ((passAndDrain s).2.2).sli.links = s.sli.links ∧
    ((passAndDrain s).2.2).sli.access = s.sli.access ∧ ((passAndDrain s).2.2).sli.lock = s.sli.lock ∧
    ((passAndDrain s).2.2).sli.strap = s.sli.strap ∧ ((passAndDrain s).2.2).gre.metLimit = s.gre.metLimit ∧
    ((passAndDrain s).2.2).gre.agingLimit = s.gre.agingLimit := by
  simp [passAndDrain]

@[simp] theorem fillUp_frame :
    (fillUp s).pending = s.pending ∧ (fillUp s).dsu = s.dsu ∧ (fillUp s).subMs = s.subMs ∧ (fillUp s).freeBytes = s.freeBytes ∧
    (fillUp s).sli.links = s.sli.links ∧ (fillUp s).sli.access = s.sli.access ∧ (fillUp s).sli.lock = s.sli.lock ∧
    (fillUp s).sli.strap = s.sli.strap ∧ (fillUp s).scu.ceiling = s.scu.ceiling ∧ (fillUp s).scu.siteClass = s.scu.siteClass ∧
    (fillUp s).scu.acceptanceSet = s.scu.acceptanceSet ∧ (fillUp s).scu.tenants = s.scu.tenants ∧
    (fillUp s).tmu.params = s.tmu.params ∧ (fillUp s).gre.metLimit = s.gre.metLimit ∧
    (fillUp s).gre.agingLimit = s.gre.agingLimit ∧ (fillUp s).emitted = s.emitted := by
  simp [fillUp]

@[simp] theorem fillFrame_frame :
    (fillFrame s).pending = s.pending ∧ (fillFrame s).dsu = s.dsu ∧ (fillFrame s).subMs = s.subMs ∧
    (fillFrame s).freeBytes = s.freeBytes ∧ (fillFrame s).sli.links = s.sli.links ∧ (fillFrame s).sli.access = s.sli.access ∧
    (fillFrame s).sli.lock = s.sli.lock ∧ (fillFrame s).sli.strap = s.sli.strap ∧ (fillFrame s).scu.ceiling = s.scu.ceiling ∧
    (fillFrame s).scu.siteClass = s.scu.siteClass ∧ (fillFrame s).scu.acceptanceSet = s.scu.acceptanceSet ∧
    (fillFrame s).scu.tenants = s.scu.tenants ∧ (fillFrame s).tmu.params = s.tmu.params ∧
    (fillFrame s).gre.metLimit = s.gre.metLimit ∧ (fillFrame s).gre.agingLimit = s.gre.agingLimit := by
  unfold fillFrame; dsimp only; (repeat' split) <;> simp

@[simp] theorem sendFrame_frame :
    (sendFrame s).pending = s.pending ∧ (sendFrame s).sli = s.sli ∧ (sendFrame s).scu = s.scu ∧ (sendFrame s).tqm = s.tqm ∧
    (sendFrame s).gre = s.gre ∧ (sendFrame s).tsu = s.tsu ∧ (sendFrame s).dsu = s.dsu ∧ (sendFrame s).subMs = s.subMs ∧
    (sendFrame s).freeBytes = s.freeBytes ∧ (sendFrame s).tmu.site = s.tmu.site ∧ (sendFrame s).tmu.residue = s.tmu.residue ∧
    (sendFrame s).tmu.y = s.tmu.y ∧ (sendFrame s).tmu.lastSecond = s.tmu.lastSecond ∧ (sendFrame s).tmu.cls = s.tmu.cls ∧
    (sendFrame s).tmu.timing = s.tmu.timing ∧ (sendFrame s).tmu.everLocked = s.tmu.everLocked ∧
    (sendFrame s).tmu.holdover = s.tmu.holdover ∧ (sendFrame s).tmu.history = s.tmu.history ∧
    (sendFrame s).tmu.sticky = s.tmu.sticky ∧ (sendFrame s).tmu.integ = s.tmu.integ ∧ (sendFrame s).tmu.selected = s.tmu.selected ∧
    (sendFrame s).tmu.gnss = s.tmu.gnss ∧ (sendFrame s).tmu.link = s.tmu.link ∧ (sendFrame s).tmu.message = s.tmu.message ∧
    (sendFrame s).tmu.pulseTimer = s.tmu.pulseTimer ∧ (sendFrame s).tmu.pathDelay = s.tmu.pathDelay ∧
    (sendFrame s).tmu.params = s.tmu.params ∧ (sendFrame s).tmu.pps = s.tmu.pps ∧
    (sendFrame s).tmu.crossed = s.tmu.crossed := by
  unfold sendFrame; dsimp only; (repeat' split) <;> simp

end Sys2Proof.Machine
end

