-- ==== Sys2Proof/Laws/Requests.lean ====
section
/-! SUPPORT. How a request ends, once and for all: the cases of `serve`, the answer it leaves, the numbers of its parameters read back, and
the start that `settle` considers when no order waits. -/

namespace Sys2Proof.Machine

open Sys2Proof

variable (k : Slot) (tag : Byte) (permitted frozen : Bool) (v : Verdict) (s : State)

/-! ## Numbers in bytes (R217) -/

theorem toBE_length (w n : Nat) : (toBE w n).length = w := by
  induction w generalizing n with
  | zero => rfl
  | succ w ih => simp [toBE, ih]

theorem beNat_cons (b : Byte) (bs : List Byte) : beNat (b :: bs) = b.toNat * 256 ^ bs.length + beNat bs := by
  have h : ∀ (l : List Byte) (a : Nat),
      l.foldl (fun n x => n * 256 + x.toNat) a = a * 256 ^ l.length + l.foldl (fun n x => n * 256 + x.toNat) 0 := by
    intro l
    induction l with
    | nil => simp
    | cons x xs ih =>
      intro a
      simp only [List.foldl_cons, List.length_cons]
      rw [ih (a * 256 + x.toNat), ih (0 * 256 + x.toNat), pow_succ]
      ring
  simpa [beNat] using h bs b.toNat

theorem beNat_toBE (w n : Nat) : beNat (toBE w n) = n % 256 ^ w := by
  induction w generalizing n with
  | zero => simp [toBE, beNat, Nat.mod_one]
  | succ w ih =>
    rw [toBE, beNat_cons, ih, toBE_length, BitVec.toNat_ofNat, show 256 ^ (w + 1) = 256 ^ w * 256 from rfl, Nat.mod_mul]
    norm_num
    ring

/-- A number written in as many bytes as it needs is read back with what follows it. -/
theorem takeNat_toBE {w n : Nat} (h : n < 256 ^ w) (bs : List Byte) : takeNat w (toBE w n ++ bs) = some (n, bs) := by
  have hl := toBE_length w n
  simp [takeNat, hl, beNat_toBE, Nat.mod_eq_of_lt h]

theorem numParam_toBE {w n : Nat} (h : n < 256 ^ w) : numParam w (toBE w n) = some n := by
  simpa [numParam, whole] using congrArg (fun o => o.bind fun p : Nat × List Byte => if p.2 = [] then some p.1 else none) (takeNat_toBE h [])

@[simp] theorem slotParam_val : slotParam [BitVec.ofNat 8 k.val] = some k.val := by fin_cases k <;> rfl

@[simp] theorem slotOf_val : slotOf k.val = some k := by fin_cases k <;> rfl

@[simp] theorem targetOf_val : targetOf [BitVec.ofNat 8 k.val] = some k := by fin_cases k <;> rfl

/-! ## The answer (R188) -/

@[simp] theorem answer_link (st : Status) (data : List Field) :
    (answer k tag st data s).sli.links.get k = ⟨false, some ⟨tag, st, data⟩, true⟩ := by
  simp [answer]

theorem answer_link_ne {j : Slot} (h : j ≠ k) (st : Status) (data : List Field) :
    (answer k tag st data s).sli.links.get j = s.sli.links.get j := by
  simp [answer, PerSlot.get_set_ne _ h]

/-! ## The steps of the judgement (R192) -/

/-- Everything `serve` can do: the three refusals of SLI, or the owner's judgement. -/
theorem serve_cases :
    (s.standing k = false ∧ serve k tag permitted frozen v s = answer k tag .wrongState [] s)
    ∨ (s.standing k = true ∧ permitted = false ∧ serve k tag permitted frozen v s = answer k tag .denied [] s)
    ∨ (s.standing k = true ∧ permitted = true ∧ frozen = true ∧ s.sli.lock = true
        ∧ serve k tag permitted frozen v s = answer k tag .locked [] s)
    ∨ (s.standing k = true ∧ permitted = true ∧ (frozen = false ∨ s.sli.lock = false)
        ∧ ((∃ st data, v = .error (st, data) ∧ serve k tag permitted frozen v s = answer k tag st data s)
          ∨ ∃ data t, v = .ok (data, t) ∧ serve k tag permitted frozen v s = answer k tag .ok data t)) := by
  unfold serve
  cases h1 : s.standing k <;> cases permitted <;> cases frozen <;> cases h2 : s.sli.lock <;> simp <;>
    (match v with
     | .error (st, data) => exact .inl ⟨st, data, rfl, rfl⟩
     | .ok (data, t) => exact .inr ⟨data, t, rfl, rfl⟩)

variable {k permitted frozen s}

theorem serve_wrongState (h : s.standing k = false) : serve k tag permitted frozen v s = answer k tag .wrongState [] s := by
  simp [serve, h]

theorem serve_denied (h : s.standing k = true) : serve k tag false frozen v s = answer k tag .denied [] s := by
  simp [serve, h]

theorem serve_locked (h : s.standing k = true) (hl : s.sli.lock = true) :
    serve k tag true true v s = answer k tag .locked [] s := by
  simp [serve, h, hl]

theorem serve_owner (h : s.standing k = true) (hf : frozen = false ∨ s.sli.lock = false) :
    serve k tag true frozen v s = conclude k tag v s := by
  rcases hf with hf | hf <;> simp [serve, h, hf]

@[simp] theorem conclude_taken (data : List Field) (t : State) : conclude k tag (taken data t) s = answer k tag .ok data t := rfl

@[simp] theorem conclude_refuse (st : Status) : conclude k tag (refuse st) s = answer k tag st [] s := rfl

@[simp] theorem withParams_some {α : Type} (a : α) (f : α → Verdict) : withParams (some a) f = f a := rfl

@[simp] theorem withParams_none {α : Type} (f : α → Verdict) : withParams none f = refuse .badValue := rfl

@[simp] theorem noParams_nil : noParams [] = some () := rfl

/-! ## The attention line (R205) -/

theorem attentionLevel_iff (p e : EventSet) : attentionLevel p e = true ↔ ∃ x, p.has x = true ∧ e.has x = true := by
  simp only [attentionLevel, List.any_eq_true, Bool.and_eq_true]
  exact ⟨fun ⟨x, _, h⟩ => ⟨x, h⟩, fun ⟨x, h⟩ => ⟨x, by cases x <;> decide, h⟩⟩

/-! ## The start considered (R166) -/

/-- With an order running, or none waiting, no start is considered. -/
theorem settle_of_noStart (h : s.tsu.running.isSome = true ∨ s.tsu.queued = []) : settle s = s := by
  rcases h with h | h
  · obtain ⟨r, hr⟩ := Option.isSome_iff_exists.mp h
    simp [settle, considerStart, hr]
  · unfold settle
    cases hr : s.tsu.running <;> simp [considerStart, h, hr]

/-- Outside BRINGUP the bring-up step does nothing. -/
theorem bringupStep_of_ne (h : s.scu.site ≠ .bringup) : bringupStep s = s := by simp [bringupStep, h]

end Sys2Proof.Machine
end

