-- ==== Sys2Proof/Tests/Slice0.lean ====
section
/-! SUPPORT. Tests of this model on its own: the well-formedness checks, the manual's worked examples and tables, and for every statement
with hypotheses a state and operands that meet them together. Each expected result is taken from the manual's text, as its comment says. -/

namespace Sys2Proof.Tests

set_option Elab.async false

open Sys2Proof Sys2Proof.Machine

/-! ## Small states -/

/-- The state a command leaves; the state it started from where it has no next state. -/
def after (c : Instr) (s : State) : State :=
  match exec c s with
  | .next t => t
  | _ => s

/-- Whether a command has a next state. -/
def goes (c : Instr) (s : State) : Bool :=
  match exec c s with
  | .next _ => true
  | _ => false

theorem after_of_goes {c : Instr} {s : State} (h : goes c s = true) : exec c s = .next (after c s) := by
  unfold goes at h; unfold after; split at h <;> simp_all

/-- The state one step leaves. -/
def stepped (s : State) : State :=
  match step s with
  | .next t => t
  | _ => s

theorem stepped_of_goes {s : State} {c : Instr} {rest : List Instr} (h : s.pending = c :: rest)
    (hg : goes c { s with pending := rest } = true) : step s = .next (stepped s) := by
  have := after_of_goes hg
  unfold stepped; simp [step, h, this]

/-- The status of the response waiting on a link. -/
def statusOf (k : Slot) (s : State) : Option Status := (s.sli.links.get k).waiting.map Response.status

/-- The response data waiting on a link. -/
def dataOf (k : Slot) (s : State) : Option (List Field) := (s.sli.links.get k).waiting.map Response.data

/-- The example ladder of chapter 3. -/
def exampleLadder : Ladder :=
  { rungs := [⟨120, 0, 12⟩, ⟨240, 48, 40⟩, ⟨480, 64, 56⟩, ⟨720, 80, 72⟩, ⟨960, 96, 88⟩, ⟨1200, 112, 104⟩, ⟨1440, 128, 120⟩,
      ⟨1920, 148, 140⟩],
    loop := true, asymmetry := 350 }

/-- The contracts of the worked frames of chapter 6. -/
def contracts : PerSlot TenantRec :=
  ⟨{ state := .enabled, committed := 20, peak := 60, weight := 1, priority := 1 },
   { state := .enabled, committed := 200, peak := 400, weight := 4, priority := 1 },
   { state := .enabled, committed := 200, peak := 400, weight := 4, priority := 1 },
   { state := .enabled, committed := 150, peak := 300, weight := 2, priority := 1 }⟩

/-- A site in service with the link up at rung 0, the four slots enabled, slot 0 with every class and the others with none. -/
def served : State :=
  { State.reset with
    sli := { State.reset.sli with access := defaultAccess }
    scu := { State.reset.scu with
      site := .inService, entry := some .emptySet, ceiling := 600, tenants := some contracts, inhibit := ⟨false, false, false, false⟩ }
    lkc := { Lkc.reset with
      state := .up, odu := some ⟨1, 2⟩, ladder := some exampleLadder, source := some ⟨.page, .profile, .profile⟩ }
    tmu := { Tmu.reset with pulseTimer := some 0 }
    dsu := { State.reset.dsu with load := some .valid } }

/-- That site in another site state, with the wait that BRINGUP shows. -/
def atSite (x : SiteState) : State :=
  { served with scu := { served.scu with site := x, entry := none, wait := if x = .bringup then some .timeClass else none } }

/-- That site with its link in another state. -/
def atLink (x : LinkState) : State := { served with lkc := { served.lkc with state := x } }

/-- A BULK queue of so many PB, in packets of at most 144 PB. -/
def bulkOf : Nat → Nat → List Packet
  | 0, _ => []
  | n + 1, pb =>
    if pb = 0 then [] else ⟨0, .bulk, 64 * min pb 144, min pb 144, min pb 144, []⟩ :: bulkOf n (pb - 144)

/-- That site with the given backlogs, at the given rung. -/
def loaded (rung b0 b1 b2 b3 : Nat) : State :=
  { served with
    lkc := { served.lkc with rung := rung }
    tqm := ⟨{ bulk := bulkOf 9 b0 }, { bulk := bulkOf 9 b1 }, { bulk := bulkOf 9 b2 }, { bulk := bulkOf 9 b3 }⟩
    gre := { served.gre with agingLimit := 254 } }

/-- A site with a test order running. -/
def running (t : Test) (p : Progress) : State :=
  { served with tsu := { served.tsu with running := some ⟨⟨7, .slot 0, t⟩, p⟩, nextId := 8 } }

/-- A text as a parameter or a response carries it: its length and its characters (R219). -/
def textBytes (s : String) : List Byte := BitVec.ofNat 8 s.length :: txt s

/-- A PORT_LOOP of 3 packets of 100 bytes on port 1, with its progress. -/
def portLooping (sent returned timer : Nat) : State :=
  running (.portLoop 1 3 100) (.portLoop { sent := sent, returned := returned, timer := timer })

/-! ## Well-formedness: one ill-formed term for each check -/

theorem test_wf_corruptFrame_wellFormedFrame :
    (Instr.corruptFrame 0 (frameBytes (txt "SITE_STATUS") 1 [])).wf = false := by decide +kernel
theorem test_wf_corruptFrame_empty : (Instr.corruptFrame 0 []).wf = false := by decide +kernel
theorem test_wf_corruptFrame_cut : (Instr.corruptFrame 0 [0x03, 0x41]).wf = true := by decide +kernel
theorem test_wf_unknownName_long : (Instr.unknownName 0 (List.replicate 256 0x41) 0 []).wf = false := by decide +kernel
theorem test_wf_unknownName_params : (Instr.unknownName 0 [0x41] 0 (List.replicate 253 0)).wf = false := by decide +kernel
theorem test_wf_unknownName_known : (Instr.unknownName 0 (txt "SET_LOCK") 0 []).wf = false := by decide +kernel
theorem test_wf_request_params : (Instr.siteStatus 0 0 (List.replicate 253 0)).wf = false := by decide +kernel
theorem test_wf_request_longest : (Instr.siteStatus 0 0 (List.replicate 252 0)).wf = true := by decide +kernel
theorem test_wf_identifyReply_maker : (Instr.oduIdentifyReply 0 ⟨65536, 0⟩).wf = false := by decide
theorem test_wf_identifyReply_model : (Instr.oduIdentifyReply 0 ⟨0, 65536⟩).wf = false := by decide
theorem test_wf_loopedFrame_number : (Instr.loopedFrameReturn 65536 0).wf = false := by decide
theorem test_wf_loopedFrame_errored : (Instr.loopedFrameReturn 0 4092).wf = false := by decide
theorem test_wf_farFrame_segment_offset :
    (Instr.farFrame ⟨true, 0, [⟨0, 0, 144, 1, true, 0, List.replicate 64 0⟩], none, none, none⟩).wf = false := by decide +kernel
theorem test_wf_farFrame_segment_pad :
    (Instr.farFrame ⟨true, 0, [⟨0, 0, 0, 1, false, 1, List.replicate 64 0⟩], none, none, none⟩).wf = false := by decide +kernel
theorem test_wf_farFrame_segment_data :
    (Instr.farFrame ⟨true, 0, [⟨0, 0, 0, 1, true, 0, List.replicate 63 0⟩], none, none, none⟩).wf = false := by decide +kernel
theorem test_wf_farFrame_reply :
    (Instr.farFrame ⟨true, 0, [], some ⟨⟨0, 1000000000⟩, ⟨0, 0⟩, ⟨0, 0⟩, true⟩, none, none⟩).wf = false := by decide +kernel
theorem test_wf_farFrame_report : (Instr.farFrame ⟨true, 0, [], none, some ⟨0, 4092, 0⟩, none⟩).wf = false := by decide +kernel
theorem test_wf_farFrame_pattern : (Instr.farFrame ⟨true, 0, [], none, none, some ⟨0, 4092⟩⟩).wf = false := by decide +kernel
theorem test_wf_siteSecond : (Instr.siteSecondBoundary 281474976710656).wf = false := by decide
theorem test_wf_ppsEmission_low : (Instr.ppsEmission 0 (-2)).wf = false := by decide
theorem test_wf_ppsEmission_high : (Instr.ppsEmission 0 281474976710657).wf = false := by decide

/-! ## Check values and frames (R217, R219) -/

/-- The check value of the nine characters 123456789 by each of R217's three polynomials: the published check figures. -/
theorem test_crc8_check : crc8 (txt "123456789") = 0xF4 := by decide +kernel
theorem test_crc16_check : crc16 (txt "123456789") = 0x29B1 := by decide +kernel
theorem test_crc32_check : crc32 (txt "123456789") = 0xCBF43926 := by decide +kernel

/-- A frame written out from R219: the name's length and characters, the tag, the parameter length, the parameters, the check value. -/
theorem test_frame_bytes :
    (frameBytes (txt "READ_TENANT") 0x2A [0x03]).dropLast
      = [0x0B, 0x52, 0x45, 0x41, 0x44, 0x5F, 0x54, 0x45, 0x4E, 0x41, 0x4E, 0x54, 0x2A, 0x01, 0x03] := by decide +kernel
theorem test_frame_reads_back :
    decodeFrame 2 (frameBytes (txt "READ_TENANT") 0x2A [0x03]) = .readTenant 2 0x2A [0x03] := by decide +kernel
/-- No row of the table has bits. -/
theorem test_no_table_word : decodeTableWord 8 0 = none := rfl
theorem test_withFetchWord : served.withFetchWord 8 0 = served := rfl

/-! ## The worked examples of chapter 10 -/

/-- Slot 2 of the example "one frame through the checks": OWN_TUNING and TEST_OWN, the lock set, the strap not latched. -/
def slot2 : State :=
  { served with sli := { served.sli with
      lock := true, access := ⟨.full, {}, { ownTuning := true, testOwn := true }, {}⟩ } }

theorem test_example_checks_denied : statusOf 2 (after (.writeShare 2 1 [2, 1, 0, 180, 0, 0, 0]) slot2) = some .denied := by
  decide +kernel
theorem test_example_checks_weight : statusOf 2 (after (.writeTuning 2 1 [2, 1, 20, 0, 0, 0, 0, 0]) slot2) = some .badValue := by
  decide +kernel
theorem test_example_checks_tuned :
    (after (.writeTuning 2 1 [2, 1, 9, 0, 0, 0, 0, 0]) slot2).scu.tenants.map (fun t => t.s2.weight) = some 9 := by decide +kernel
theorem test_example_checks_other_port :
    statusOf 2 (after (.orderTest 2 1 (textBytes "PORT_LOOP" ++ [3, 0, 1, 0, 64])) slot2) = some .denied := by decide +kernel
theorem test_example_checks_count :
    statusOf 2 (after (.orderTest 2 1 (textBytes "PORT_LOOP" ++ [2, 0, 0, 0, 64])) slot2) = some .badValue := by decide +kernel
/-- "Had the strap been latched, the second request would have passed step 4 and been refused LOCKED at step 5." -/
theorem test_example_checks_strap :
    statusOf 2 (after (.writeShare 2 1 [2, 1, 0, 180, 0, 0, 0]) { slot2 with sli := { slot2.sli with strap := true } }) = some .locked := by
  decide +kernel

/-! ## The worked frames of chapter 6 -/

/-- "A shortage at rung 2": the grants. -/
theorem test_frame_shortage_grants :
    ((after .frameFill (loaded 2 10 600 90 400)).gre.slots.map fun r => r.committed + r.surplus) = ⟨10, 218, 90, 158⟩ := by
  decide +kernel
/-- The same frame's committed counters, deficits and aging counts. -/
theorem test_frame_shortage_records :
    ((after .frameFill (loaded 2 10 600 90 400)).gre.slots.map fun r => (r.committed, r.deficit, r.history, r.aging))
      = ⟨(10, 0, [true], 0), (167, 0, [true], 1), (90, 0, [true], 0), (125, 0, [true], 1)⟩ := by decide +kernel
/-- "A deficit carried at rung 0": the grants, the new deficits and the met flags. -/
theorem test_frame_deficit :
    ((after .frameFill (loaded 0 8 382 40 242)).gre.slots.map fun r => (r.committed + r.surplus, r.deficit, r.history))
      = ⟨(4, 4, [false]), (42, 158, [false]), (40, 0, [true]), (30, 120, [false])⟩ := by decide +kernel

/-- "Make-good beside a test borrow": an AIR_PATTERN of 100 PB runs, slot 3 is time-unfit, deficits stand at 0, 158, 0 and 120. -/
def borrowing : State :=
  let s := loaded 2 14 340 100 212
  { s with
    scu := { s.scu with fit := ⟨true, true, true, false⟩ }
    gre := { s.gre with slots := ⟨{}, { deficit := 158 }, {}, { deficit := 120 }⟩ }
    tsu := { s.tsu with running := some ⟨⟨7, .slot 0, .airPattern 100000 100 1000 0⟩, .airPattern {}⟩, nextId := 8 } }

theorem test_frame_borrow :
    ((after .frameFill borrowing).gre.slots.map fun r => (r.committed + r.surplus, r.deficit, r.history))
      = ⟨(14, 0, [true]), (306, 52, [true]), (100, 0, [true]), (0, 120, [true])⟩ := by decide +kernel
theorem test_frame_borrow_pattern :
    (after .frameFill borrowing).lkc.unsent.map (fun f => (f.pattern, (f.segments.map Segment.length).sum, f.idle)) = [(56, 420, 0)] := by
  decide +kernel

/-! ## The worked examples of chapter 4 -/

/-- "A grant across three packets": the segments cut and what is left. -/
def threePackets : Traffic :=
  { express := [⟨501, .express, 192, 3, 3, []⟩], bulk := [⟨498, .bulk, 9216, 144, 100, []⟩, ⟨499, .bulk, 1280, 20, 20, []⟩] }

theorem test_drain_segments :
    (threePackets.drain 1 110).1.map (fun g => (g.seq, g.offset, g.length, g.last)) = [(501, 0, 3, true), (498, 44, 100, true), (499, 0, 7, false)] := by
  decide +kernel
theorem test_drain_left :
    (threePackets.drain 1 110).2.express = [] ∧ (threePackets.drain 1 110).2.bulk.map (fun p => (p.seq, p.remaining)) = [(499, 13)] := by
  decide +kernel

/-- "A broken packet and a stray": slot 3 holds 30 PB of packet 7,002, and one far frame brings three segments. -/
def broken : State :=
  { served with tqm := { served.tqm with s3 := { egress := some ⟨7002, 30, List.replicate 1920 0⟩, egressDiscarded := 12 } } }
def strays : FarFrame :=
  { sync := true, margin := 100, reply := none, report := none, pattern := none,
    segments := [⟨3, 7003, 0, 24, true, 36, List.replicate 1536 1⟩, ⟨3, 7002, 30, 10, false, 0, List.replicate 640 2⟩,
      ⟨3, 7004, 0, 2, true, 0, List.replicate 128 3⟩] }

theorem test_strays_discarded :
    (after (.farFrame strays) broken).tqm.s3.egressDiscarded = 14 ∧ (after (.farFrame strays) broken).tqm.s3.egress = none := by
  decide +kernel
theorem test_strays_delivered :
    (after (.farFrame strays) broken).emitted = [.delivered 3 (List.replicate 1500 1), .delivered 3 (List.replicate 128 3)] := by
  decide +kernel

/-! ## The worked figures of chapter 8 -/

/-- "Acquisition on GNSS": the four samples by the ACQUIRE bank, and what I and y become. -/
def acquired (es : List Int) : Tmu := es.foldl (fun t e => t.apply ⟨2, 6⟩ e) Tmu.reset

theorem test_acquisition_first : ((acquired [1800]).integ, (acquired [1800]).y) = (7200, 122400) := by decide +kernel
theorem test_acquisition_second : ((acquired [1800, 640]).integ, (acquired [1800, 640]).y) = (9760, 50720) := by decide +kernel
theorem test_acquisition_fourth :
    ((acquired [1800, 640, 90, -30]).integ, (acquired [1800, 640, 90, -30]).y) = (10000, 8080) := by decide +kernel

/-- "The TRACK bank": I = 5,000, a = 4, b = 11. -/
def tracked (r : Rounding) (es : List Int) : Tmu :=
  es.foldl (fun t e => t.apply ⟨4, 11⟩ e) { Tmu.reset with integ := 5000, params := { rounding := r } }

theorem test_track_nearest :
    [((tracked .nearestEven [37]).integ, (tracked .nearestEven [37]).y),
      ((tracked .nearestEven [37, -45]).integ, (tracked .nearestEven [37, -45]).y)] = [(5005, 5597), (4999, 4279)] := by decide +kernel
theorem test_track_toward_zero : [(tracked .towardZero [37]).integ, (tracked .towardZero [37, -45]).integ] = [5004, 4999] := by
  decide +kernel

/-- "One exchange": e and the path delay, without asymmetry, one nanosecond later, and with +350 ns. -/
theorem test_exchange :
    linkOutcome 500 ⟨500, 1200000⟩ ⟨500, 1340700⟩ ⟨⟨500, 1200000⟩, ⟨500, 1220400⟩, ⟨500, 1320400⟩, true⟩ 0
      = some (⟨-50, 0, 500⟩, 20350) := by decide +kernel
theorem test_exchange_later :
    linkOutcome 500 ⟨500, 1200000⟩ ⟨500, 1340701⟩ ⟨⟨500, 1200000⟩, ⟨500, 1220400⟩, ⟨500, 1320400⟩, true⟩ 0
      = some (⟨-50, 0, 500⟩, 20350) := by decide +kernel
theorem test_exchange_asymmetry :
    linkOutcome 500 ⟨500, 1200000⟩ ⟨500, 1340700⟩ ⟨⟨500, 1200000⟩, ⟨500, 1220400⟩, ⟨500, 1320400⟩, true⟩ 350
      = some (⟨125, 0, 500⟩, 20350) := by decide +kernel

/-! ## The tables of chapter 3 -/

/-- That site at rung 6, where a report's margin is given. -/
def atRung6 : State := { served with lkc := { served.lkc with rung := 6 } }

/-- R52's table: the target for each margin at rung 6. -/
theorem test_down_targets :
    [110, 100, 70, 20, 6].map (fun m => (after (.statusReport m) atRung6).lkc.notice)
      = [some ⟨5, .marginDown, .decided⟩, some ⟨4, .marginDown, .decided⟩, some ⟨2, .marginDown, .decided⟩,
        some ⟨0, .marginDown, .decided⟩, some ⟨0, .marginDown, .decided⟩] := by decide +kernel
/-- R52: one missing report takes the target to rung 0. -/
theorem test_missing_report : (after .missingStatusReport atRung6).lkc.notice = some ⟨0, .marginDown, .decided⟩ := by decide +kernel

/-! ## Witnesses: states and operands that meet the hypotheses of each statement together

Each theorem is named after the statement it serves; where a statement has several clauses there is one conjunct or theorem for each. -/

/-- A state with commands waiting. -/
def State.withQueue (s : State) (cs : List Instr) : State := { s with pending := cs }

/-! ### Time, the link and the frame -/

theorem witness_EmptyQueuePassesOneNanosecond :
    State.reset.pending = [] ∧ State.reset.ratesBounded ∧ State.reset.tmu.site.wf = true ∧ State.reset.tmu.residue.natAbs < 256000000000 := by
  unfold State.ratesBounded; decide
/-- The last nanosecond before site time wraps, at F_max either way: the gains 0 and 2. -/
def lastNs (y : Int) : State :=
  { State.reset with tmu := { Tmu.reset with site := ⟨281474976710655, 999999999⟩, y := y, residue := if 0 < y then 255999999999 else -255999999999 } }
theorem witness_EmptyQueuePassesOneNanosecond_wraps :
    (lastNs (-12800000)).ratesBounded ∧ (lastNs (-12800000)).tmu.site.wf = true
      ∧ (281474976710656 * 1000000000 : Int) ≤ timeNs (lastNs (-12800000)).tmu.site + 2
      ∧ (tick (lastNs (-12800000))).tmu.site = ⟨0, 1⟩ := by
  unfold State.ratesBounded; decide +kernel
theorem witness_EmptyQueuePassesOneNanosecond_stays :
    (lastNs 12800000).ratesBounded ∧ timeNs (lastNs 12800000).tmu.site + 0 < 281474976710656 * 1000000000
      ∧ (tick (lastNs 12800000)).tmu.site = ⟨281474976710655, 999999999⟩ := by
  unfold State.ratesBounded; decide +kernel

/-- Slot 1's response to a CLEAR_COUNTERS waits: R219's layout gives it 4 bytes and the check value. -/
def answered : State := answer 1 9 .ok [] served

/-- That site 1 ns before the end of a local millisecond, with every timer one short of its limit, or two. -/
def timersAt (left : Nat) (cmd : OduCommand) (st : LinkState) : State :=
  { served with
    subMs := 999999
    lkc := { served.lkc with state := st, outstanding := some ⟨cmd, 100 - left, 100, 4⟩, sent := 5 }
    tmu := { served.tmu with
      pulseTimer := some (1100 - left), exchange := some ⟨7, some 8, some ⟨⟨7, 1⟩, 50 - left⟩⟩,
      pps := { served.tmu.pps with s1 := ⟨some 7, true, some (100 - left), []⟩, s2 := ⟨some 7, false, none, [0, 0]⟩ } }
    tsu := { served.tsu with
      running := some ⟨⟨7, .slot 0, .portLoop 1 1000 100⟩, .portLoop { sent := 999, timer := 2000 - left }⟩, nextId := 8 }
    dsu := { served.dsu with save := some ⟨.erasing, 0, [1, 2, 3], 3000 - left⟩ } }
theorem witness_LocalTimersRunOut :
    (timersAt 1 .identify (.discovery .identify 1)).pending = [] ∧ 1000000 ≤ (timersAt 1 .identify (.discovery .identify 1)).subMs + 1
      ∧ State.reset.pending = [] ∧ ¬1000000 ≤ State.reset.subMs + 1
      ∧ (timersAt 1 .identify (.discovery .identify 1)).ratesBounded
      ∧ (timersAt 1 .identify (.discovery .identify 1)).tmu.site.wf = true := by
  unfold State.ratesBounded; decide +kernel
/-- Each limit reached: IDENTIFY, the pulse and reply timers, a width, two delays, a packet due, the PORT_LOOP timer, the save timer. -/
theorem test_timers_run_out :
    (tick (timersAt 1 .identify (.discovery .identify 1))).pending
      = [.identifyReplyLimit, .pulseTimerExpiry, .replyTimerExpiry, .ppsPulseEnd 1, .ppsDelayedEmission 2, .ppsDelayedEmission 2,
          .portLoopPacketSend,
          .loopTimerExpiry, .saveTimerExpiry] := by decide +kernel
/-- One local ms short of each, the delays of 1 ms and the next packet alone are due; and READ_PAGE, LOOP_ON and the backoff likewise. -/
theorem test_timers_short :
    (tick (timersAt 2 .identify (.discovery .identify 1))).pending
        = [.ppsDelayedEmission 2, .ppsDelayedEmission 2, .portLoopPacketSend]
      ∧ .readPageReplyLimit ∈ (tick (timersAt 1 .readPage (.discovery .readPage 1))).pending
      ∧ .loopOnLimit ∈ (tick (timersAt 0 .loopOn (.held .loopEntry))).pending
      ∧ .loopOnLimit ∉ (tick (timersAt 1 .loopOn (.held .loopEntry))).pending
      ∧ .loopOffLimit ∈ (tick (timersAt 0 .loopOff (.held .loopExit))).pending
      ∧ .backoffExpiry ∈ (tick (timersAt 1 .identify (.lost 999))).pending
      ∧ .backoffExpiry ∉ (tick (timersAt 1 .identify (.lost 998))).pending := by decide +kernel
/-- That site one nanosecond before a second, with slot 1's offset at −1 ns, so that its shifted time stands at that second. -/
def beforeSecond : State :=
  { served with
    scu := { served.scu with tenants := some { contracts with s1 := { contracts.s1 with ppsOffset := -1 } } }
    tmu := { served.tmu with site := ⟨7, 999999999⟩ } }
/-- R122, R125: the advance enters second 8 for site time and for every slot's shifted time but slot 1's. -/
theorem test_crossings :
    (tick beforeSecond).pending = [.siteSecondBoundary 8, .ppsEmission 0 8, .ppsEmission 2 8, .ppsEmission 3 8]
      ∧ (tick (tick beforeSecond)).tmu.crossed.pulses = ⟨none, some 8, none, none⟩ := by decide +kernel

theorem witness_FormErrorsAreAnswered_corrupt : isCorrupt [0x01] = true ∧ [(0x01 : Byte)] ≠ [] := by decide +kernel
/-- R188: a write of no byte is no frame, and no command. -/
theorem test_empty_write : decodeTransaction 0 [0x51] = [] ∧ exec (.corruptFrame 1 []) answered = .next answered := ⟨rfl, rfl⟩
theorem witness_FormErrorsAreAnswered_formed : isCorrupt (frameBytes (txt "SET_LOCK") 1 []) = false := by decide +kernel
theorem witness_FormErrorsAreAnswered_names :
    requestNamed (txt "READ_NOTHING") = none ∧ (requestNamed (txt "SET_LOCK")).isSome = true := by decide +kernel
theorem witness_FormErrorsAreAnswered_wf : (Instr.responseRead 0 0).wf = true := by decide

theorem witness_ResponsesWaitAndAreRead :
    (served.sli.links.get 1).waiting = none ∧ (answered.sli.links.get 1).waiting = some ⟨9, .ok, []⟩
      ∧ (responseBytes ⟨9, .ok, []⟩).length - 1 < (responseBytes ⟨9, .ok, []⟩).length := by decide +kernel
theorem test_response_read_short :
    ((after (.responseRead 1 1) answered).sli.links.get 1).ready = true := by decide +kernel
theorem test_response_read_through :
    (after (.responseRead 1 (responseBytes ⟨9, .ok, []⟩).length) answered).sli.links.get 1 = ⟨false, none, false⟩ := by decide +kernel

theorem witness_FramesReadBack :
    (Instr.readTenant 1 9 [3]).wf = true ∧ requestParts (.readTenant 1 9 [3]) = some ⟨1, txt "READ_TENANT", 9, [3]⟩
      ∧ isCorrupt [0x00, 0x01] = true := by decide +kernel
theorem witness_FramesReadBack_damaged :
    (txt "IDENTIFY").length ≤ 255 ∧ (List.replicate 252 (0x00 : Byte)).length ≤ 252 ∧ 0 < (frameBytes (txt "IDENTIFY") 1 []).length
      ∧ [(0x00 : Byte)] ≠ [] ∧ (frameBytes (txt "IDENTIFY") 1 []).getLastD 0 + 1 ≠ (frameBytes (txt "IDENTIFY") 1 []).getLastD 0 := by
  decide +kernel

/-- R188: the marking byte 0x51 writes what follows it, 0x52 reads as many bytes as follow, any other is ignored. -/
theorem test_marking_bytes :
    decodeTransaction 2 (0x51 :: frameBytes (txt "READ_TENANT") 0x2A [0x03]) = [.requestWriteBegin 2, .readTenant 2 0x2A [0x03]]
      ∧ decodeTransaction 2 [0x52, 0, 0, 0] = [.responseRead 2 3] ∧ decodeTransaction 2 [0x53, 0, 0] = [] ∧ decodeTransaction 2 [] = [] := by
  decide +kernel

theorem witness_RefusedRequestsChangeNothing :
    requestParts (.setLock 0 9 []) = some ⟨0, txt "SET_LOCK", 9, []⟩ ∧ exec (.setLock 0 9 []) State.reset = .next (after (.setLock 0 9 []) State.reset)
      ∧ statusOf 0 (after (.setLock 0 9 []) State.reset) = some .wrongState :=
  ⟨by decide +kernel, after_of_goes (by decide +kernel), by decide +kernel⟩

/-- That site with slot 3 vacant. -/
def vacant3 : State :=
  { served with scu := { served.scu with tenants := some { contracts with s3 := { contracts.s3 with state := .vacant } }, inhibit := ⟨false, false, false, true⟩ } }
/-- That site with the configuration lock set. -/
def locked : State := { served with sli := { served.sli with lock := true } }
theorem witness_SlotInterfaceRefusals_loading :
    requestParts (.setLock 0 9 []) = some ⟨0, txt "SET_LOCK", 9, []⟩ ∧ isRequest (.setLock 0 9 []) = true
      ∧ txt "SET_LOCK" ≠ txt "IDENTIFY" ∧ State.reset.scu.site = .loading := by decide +kernel
theorem witness_SlotInterfaceRefusals_vacant :
    isRequest (.siteStatus 3 9 []) = true ∧ vacant3.slotState 3 = some .vacant := by decide +kernel
theorem witness_SlotInterfaceRefusals_denied :
    served.standing 1 = true ∧ served.permits (.setLock 1 9 []) = false := by decide +kernel
theorem witness_SlotInterfaceRefusals_locked :
    locked.standing 0 = true ∧ locked.permits (.saveDescriptor 0 9 []) = true ∧ frozen (.saveDescriptor 0 9 []) = true
      ∧ locked.sli.lock = true := by decide +kernel

theorem witness_LockStandsUntilPowerOnReset :
    step (State.withQueue locked [.setLock 0 9 []]) = .next (stepped (State.withQueue locked [.setLock 0 9 []]))
      ∧ (∀ b, (State.withQueue locked [.setLock 0 9 []]).pending.head? ≠ some (.powerOnReset b)) ∧ locked.sli.lock = true :=
  ⟨stepped_of_goes rfl (by decide +kernel), by decide +kernel, by decide⟩
theorem witness_LockStandsUntilPowerOnReset_access :
    goes (.writeAccess 0 9 [1, 0]) served = true ∧ (after (.writeAccess 0 9 ([1, 1] ++ textBytes "OWN_TUNING")) served).sli.access ≠ served.sli.access := by
  decide +kernel

/-- That site with SITE_STATE pending and enabled in slot 1. -/
def attended : State :=
  { served with sli := { served.sli with events :=
    { served.sli.events with s1 := ⟨{ siteState := true }, { siteState := true, rung := true }, true⟩ } } }
theorem witness_AttentionLinesFollowTheSets :
    attended.linesDriven ∧ (State.withQueue attended [.readEvents 1 9 []]).linesDriven
      ∧ step (State.withQueue attended [.readEvents 1 9 []]) = .next (stepped (State.withQueue attended [.readEvents 1 9 []])) :=
  ⟨by unfold State.linesDriven; decide +kernel, by unfold State.linesDriven; decide +kernel, stepped_of_goes rfl (by decide +kernel)⟩
theorem witness_AttentionLinesFollowTheSets_reset : exec (.powerOnReset true) attended = .next (after (.powerOnReset true) attended) :=
  after_of_goes (by decide +kernel)
/-- R205: the line falls at the acknowledgement of the last enabled kind pending. -/
theorem test_attention_falls :
    ((after (.ackEvents 1 9 ([1] ++ textBytes "SITE_STATE")) attended).sli.events.get 1).attention = false := by decide +kernel
/-- R205: the line rises at the enabling of a kind already pending. -/
theorem test_attention_rises :
    ((after (.setEventEnables 1 9 ([1] ++ textBytes "SITE_STATE"))
      (after (.setEventEnables 1 8 [0]) attended)).sli.events.get 1).attention = true := by decide +kernel

theorem witness_SlotInterfaceWrites_access :
    served.mayAsk 0 .siteControl ∧ served.sli.lock = false
      ∧ accessParams ([0, 1] ++ textBytes "SITE_CONTROL") = some (0, [.siteControl]) ∧ [PermClass.siteControl].Nodup := by
  unfold State.mayAsk; decide +kernel
theorem witness_SlotInterfaceWrites_events :
    attended.standing 1 = true ∧ kindParams ([1] ++ textBytes "RUNG") = some [.rung] ∧ kindParams [0] = some [] := by decide +kernel

theorem witness_ReadingsChangeNothing :
    served.standing 1 = true ∧ 4294967295 < 4294967296 ∧ served.holds 0 .observeAll = true ∧ served.tsu.log = [] := by decide +kernel
/-- That site with a log of two entries. -/
def logged : State :=
  { served with tsu := { served.tsu with
    log := [⟨4, ⟨2, .site, .linkLoop 1⟩, .pass, {}, ⟨0, 0⟩, .none⟩, ⟨5, ⟨3, .slot 1, .linkLoop 1⟩, .notRun, {}, ⟨1, 0⟩, .none⟩], nextSeq := some 6 } }
theorem witness_ReadingsChangeNothing_log :
    logged.tsu.log.head? = some ⟨4, ⟨2, .site, .linkLoop 1⟩, .pass, {}, ⟨0, 0⟩, .none⟩
      ∧ logged.tsu.log.getLast? = some ⟨5, ⟨3, .slot 1, .linkLoop 1⟩, .notRun, {}, ⟨1, 0⟩, .none⟩
      ∧ (∀ x ∈ logged.tsu.log, 4 ≤ x.seq) ∧ (∀ x ∈ logged.tsu.log.take 1, x.seq < 5) ∧ (∀ x ∈ logged.tsu.log.drop 1, 5 ≤ x.seq)
      ∧ (∀ x ∈ logged.tsu.log, x.seq < 6) := by decide +kernel
/-- R185: from inside the log the entries below are left out, and above its last number there is none. -/
theorem test_results_inside :
    [resultsData 5 logged, resultsData 6 logged].map (fun d => ((d.drop 4).take 3))
      = [[.text (txt "clear"), .count 1, .num 4 5], [.text (txt "clear"), .count 0]] := by decide +kernel
/-- R185: from number 3, an entry before the first held has been dropped, and the flag is set. -/
theorem test_results_lost : (resultsData 3 logged).take 5 = [.present true, .num 4 4, .present true, .num 4 5, .text (txt "set")] := by
  decide +kernel

/-! ### The tables -/

theorem witness_DescriptorLoadInstalls : State.reset.scu.site = .loading ∧ State.reset.loadingQuiet := by
  unfold State.loadingQuiet; decide
/-- A load's result as an option, to compare it. -/
theorem ok_of_toOption {r : Except LoadFailure Tables} {t : Tables} (h : r.toOption = some t) : r = .ok t := by
  cases r <;> simp_all [Except.toOption]
set_option maxRecDepth 20000 in
theorem witness_DescriptorLoadInstalls_valid : judgeDescriptor (descriptorImage markCommitted defaultTables) = .ok defaultTables :=
  ok_of_toOption (by decide +kernel)
theorem witness_DescriptorLoadInstalls_invalid : ∃ f, judgeDescriptor [] = .error f := ⟨.noDescriptor, rfl⟩
/-- R211: a mark that is not 0xA5 is NOT_COMMITTED. -/
theorem test_load_not_committed :
    (after (.descriptorLoad (descriptorImage markErased defaultTables)) State.reset).dsu.load = some (.defaults .notCommitted) := by
  decide +kernel

/-- Tables at the ends of their ranges. -/
def edgeTables : Tables :=
  { served.tables with
    ceiling := 4095, rungCeiling := 7, upLimit := 255, lossLimit := 1000, confirmLimit := 255, metLimit := 8, agingLimit := 255,
    acceptanceSet := List.replicate 6 (.linkLoop 1), profiles := [⟨⟨65535, 65535⟩, exampleLadder⟩] }
theorem witness_DescriptorReadsBack : defaultTables.inRange = true ∧ edgeTables.inRange = true := by decide +kernel
theorem witness_TablesStayInRange :
    served.tablesRight ∧ served.contractsKept ∧ step (State.withQueue served [.frameFill]) = .next (stepped (State.withQueue served [.frameFill])) :=
  ⟨by unfold State.tablesRight; decide +kernel, by rintro t ⟨⟩; unfold contractsHold; decide +kernel,
    stepped_of_goes rfl (by decide +kernel)⟩

/-- That site with a save in a phase, its timer at a number of local ms. -/
def saving (p : SavePhase) (n : Nat) : State := { served with dsu := { served.dsu with save := some ⟨p, 0, [1, 2, 3], n⟩ } }
theorem witness_SavePhasesFollow :
    served.mayAsk 0 .siteControl ∧ served.sli.lock = false ∧ served.dsu.save = none
      ∧ (saving .erasing 5).mayAsk 0 .siteControl ∧ (saving .erasing 5).dsu.save.isSome = true := by
  unfold State.mayAsk; decide +kernel
theorem witness_SavePhasesFollow_phases :
    [SavePhase.erasing, .programming, .verifying, .committing].map (fun p => (saving p 3000).dsu.save.map fun v => (v.phase, decide (3000 ≤ v.timer)))
      = [some (.erasing, true), some (.programming, true), some (.verifying, true), some (.committing, true)] := by decide
/-- R213: the timer at 3,000 ends the save, at 2,999 it does not; a completion of another phase does nothing. -/
theorem test_save_timer :
    (after .saveTimerExpiry (saving .verifying 3000)).dsu.last.map LastSave.good = some false
      ∧ exec .saveTimerExpiry (saving .verifying 2999) = .next (saving .verifying 2999)
      ∧ exec .eraseComplete (saving .verifying 5) = .next (saving .verifying 5) := ⟨by decide +kernel, rfl, rfl⟩
/-- R215: a mark that does not read back ends the save FLASH_ERROR. -/
theorem test_commit_fails : (after (.commitComplete 0xFF) (saving .committing 5)).dsu.last.map LastSave.good = some false := by decide +kernel

/-! ### The site -/

/-- The site in BRINGUP with the link up and an acceptance set. -/
def bringing (set : List Test) (queued : List Order) : State :=
  let s := atSite .bringup
  { s with
    scu := { s.scu with acceptanceSet := set }
    tsu := { s.tsu with
      running := some ⟨⟨1, .slot 0, .linkLoop 5⟩, .linkLoop {}⟩, queued := queued, nextId := 9 } }
theorem witness_BringupStepAndSettings :
    served.scu.site ≠ .bringup
      ∧ ((bringing [] []).scu.site = .bringup ∧ (bringing [] []).lkc.state = .up ∧ (bringing [] []).siteClassMet = true
          ∧ (bringing [] []).scu.acceptanceSet.length = 0)
      ∧ ((bringing [.linkLoop 1] []).scu.acceptanceSet.length = 1 ∧ 1 ≤ 8 - (bringing [.linkLoop 1] []).tsu.orders.length)
      ∧ (8 - (bringing (List.replicate 6 (.linkLoop 1)) [⟨2, .slot 0, .linkLoop 1⟩, ⟨3, .slot 0, .linkLoop 1⟩]).tsu.orders.length < 6)
      ∧ ((bringing [] []).tsu.orders.map Order.id).Nodup := by decide +kernel
theorem witness_BringupStepAndSettings_waits :
    let s := { atSite .bringup with lkc := Lkc.reset }
    s.scu.site = .bringup ∧ ¬(s.lkc.state = .up ∧ s.siteClassMet = true) := by decide +kernel
/-- R4: an empty set enters IN_SERVICE with service entry EMPTY_SET. -/
theorem test_bringup_empty : (bringupStep (bringing [] [])).scu.entry = some .emptySet := by decide +kernel

theorem witness_BringupStepAndSettings_settings :
    served.mayAsk 0 .siteControl ∧ served.noIdleQueue ∧ classParam (textBytes "PHASE") = some .phase ∧ served.scu.site ≠ .bringup
      ∧ (bringing [] []).mayAsk 0 .siteControl ∧ (bringing [] []).noIdleQueue ∧ served.sli.lock = false
      ∧ templateParams ([1] ++ textBytes "LINK_LOOP" ++ [1]) = some [.linkLoop 1] := by
  unfold State.mayAsk State.noIdleQueue; decide +kernel
theorem witness_BringupStepAndSettings_seven :
    (templateParams ([7] ++ (List.replicate 7 (textBytes "LINK_LOOP" ++ [1])).flatten)).map List.length = some 7 := by decide +kernel

/-- The site UNCONFIGURED, with the priorities of its two sources. -/
def unconfigured (gnss link : Nat) (cls : TimeClass) (set : List Test) : State :=
  let s := { vacant3 with scu := { vacant3.scu with site := .unconfigured, entry := none, siteClass := cls, acceptanceSet := set }, lkc := Lkc.reset }
  { s with lkc := { s.lkc with state := .off .unconfigured }, tmu := { s.tmu with params := { gnssPriority := gnss, linkPriority := link } } }
theorem witness_BeginBringupChecksThenStarts :
    (unconfigured 2 1 .none []).mayAsk 0 .siteControl ∧ served.mayAsk 0 .siteControl ∧ served.scu.site ≠ .unconfigured
      ∧ (unconfigured 2 1 .none [.linkLoop 1, .portLoop 3 1 64]).scu.acceptanceSet.findIdx?
          (unconfigured 2 1 .none [.linkLoop 1, .portLoop 3 1 64]).loopsVacant = some 1
      ∧ (unconfigured 0 0 .frequency []).scu.acceptanceSet.findIdx? (unconfigured 0 0 .frequency []).loopsVacant = none
      ∧ (unconfigured 0 0 .frequency []).scu.siteClass ≠ .none ∧ (unconfigured 0 0 .frequency []).tmu.params.gnssPriority = 0
      ∧ (unconfigured 0 0 .frequency []).tmu.params.linkPriority = 0 := by
  unfold State.mayAsk; decide +kernel
theorem witness_BeginBringupChecksThenStarts_compare :
    (unconfigured 0 1 .none [.timeCompare 1 1]).scu.acceptanceSet.findIdx? Test.isCompare = some 0
      ∧ (unconfigured 0 1 .none [.timeCompare 1 1]).tmu.params.gnssPriority = 0
      ∧ (unconfigured 0 1 .none [.timeCompare 1 1]).scu.siteClass = .none := by decide +kernel
theorem test_begin_bringup : (after (.beginBringup 0 9 []) (unconfigured 2 1 .none [])).scu.wait = some .linkNotUp := by decide +kernel

/-- The site in ACCEPT_FAILED with a test of a slot running. -/
def failedSite (set : List Test) (queued : List Order) : State :=
  let s := bringing set queued
  { s with scu := { s.scu with site := .acceptFailed, wait := none, failure := some ⟨0, 1, .linkLoop 1, .fail⟩ } }
theorem witness_RetryAcceptanceQueuesTheSet :
    (failedSite [] []).mayAsk 0 .siteControl ∧ served.scu.site ≠ .acceptFailed ∧ (failedSite [] []).scu.site = .acceptFailed
      ∧ (failedSite [] []).scu.acceptanceSet = []
      ∧ (failedSite [.linkLoop 1] []).tsu.orders.length + 1 ≤ 8 ∧ (failedSite [.linkLoop 1] []).tsu.running.isSome = true
      ∧ 8 < (failedSite (List.replicate 6 (.linkLoop 1)) [⟨2, .slot 0, .linkLoop 1⟩, ⟨3, .slot 0, .linkLoop 1⟩]).tsu.orders.length + 6 := by
  unfold State.mayAsk; decide +kernel
/-- The site in ACCEPT_FAILED with no order held, its link up or acquiring. -/
def failedIdle (set : List Test) (st : LinkState) : State :=
  let s := failedSite set []
  { s with tsu := { s.tsu with running := none }, lkc := { s.lkc with state := st } }
theorem witness_RetryAcceptanceQueuesTheSet_idle :
    (failedIdle [.linkLoop 1, .linkLoop 2] .up).mayAsk 0 .siteControl ∧ (failedIdle [.linkLoop 1, .linkLoop 2] .up).tsu.running = none
      ∧ (failedIdle [.linkLoop 1, .linkLoop 2] .up).noIdleQueue ∧ (failedIdle [.linkLoop 1, .linkLoop 2] .up).scu.tracking = []
      ∧ (failedIdle [.linkLoop 1, .linkLoop 2] .up).startable (.linkLoop 1) = true
      ∧ (failedIdle [.linkLoop 1, .linkLoop 2] .acquiring).startable (.linkLoop 1) = false
      ∧ (failedIdle [.linkLoop 1, .linkLoop 2] .acquiring).mayAsk 0 .siteControl
      ∧ (failedIdle [.linkLoop 1, .linkLoop 2] .acquiring).tsu.nextSeq = some 1 := by
  unfold State.mayAsk State.noIdleQueue; decide +kernel
/-- R6, R12, R166: with the link up the first entry starts; with it acquiring both complete NOT_RUN, the first of them failing the site. -/
theorem test_retry_idle :
    [LinkState.up, .acquiring].map (fun st =>
        let t := after (.retryAcceptance 0 9 []) (failedIdle [.linkLoop 1, .linkLoop 2] st)
        (t.scu.site, t.scu.failure.map AcceptFailure.template, t.tsu.orders.length, t.tsu.log.length))
      = [(.acceptance, none, 2, 0), (.acceptFailed, some 0, 0, 2)] := by decide +kernel

theorem witness_ForceServiceEntersService :
    (failedSite [] []).mayAsk 0 .siteControl ∧ (failedSite [] []).scu.site = .acceptFailed
      ∧ (failedSite [] []).standing 1 = true ∧ (failedSite [] []).holds 1 .siteControl = false
      ∧ served.scu.site ≠ .acceptance ∧ served.scu.site ≠ .acceptFailed := by
  unfold State.mayAsk; decide +kernel
/-- R13: the acceptance failure field is kept. -/
theorem test_force_keeps_failure :
    (after (.forceService 0 9 []) (failedSite [] [])).scu.failure = some ⟨0, 1, .linkLoop 1, .fail⟩ := by decide +kernel

theorem witness_CommitCeilingReplaced :
    served.standing 0 = true ∧ served.scu.tenants = some contracts ∧ served.holds 1 .siteControl = false
      ∧ served.holds 0 .siteControl = true ∧ locked.sli.lock = true ∧ served.sli.lock = false ∧ commitSum contracts = 570 := by decide +kernel
/-- R83 at the present sum, one below it, and at the ends of the range. -/
theorem test_ceiling_bounds :
    [570, 569, 4095, 4096].map (fun n => statusOf 0 (after (.setCommitCeiling 0 9 (toBE 2 n)) served))
      = [some .ok, some .overcommit, some .ok, some .badValue] := by decide +kernel

theorem witness_SiteResetRestartsTheBlocks :
    (running (.linkLoop 5) (.linkLoop {})).mayAsk 0 .siteControl ∧ (running (.linkLoop 5) (.linkLoop {})).tsu.nextSeq = some 1
      ∧ (running (.linkLoop 5) (.linkLoop {})).lkc.state.carries = true ∧ served.tsu.running = none
      ∧ (unconfigured 2 1 .none []).scu.site = .unconfigured := by
  unfold State.mayAsk; decide +kernel
theorem witness_SlotResetAndClearCounters :
    served.standing 1 = true ∧ served.holds 0 .siteControl = true ∧ served.holds 0 .shareControl = true ∧ served.tsu.orders = [] := by
  decide +kernel
/-- That site in HOLDOVER at a count of seconds, with class PHASE published and slot 2 requiring it, and the second 7 just entered. -/
def fading (n : Nat) : State :=
  { vacant3 with
    scu := { vacant3.scu with tenants := vacant3.scu.tenants.map fun ts => { ts with s2 := { ts.s2 with required := .phase } } }
    tmu := { vacant3.tmu with timing := .holdover, holdover := n, cls := .phase, everLocked := true, crossed := { second := some 7 } } }
theorem witness_FitnessAndLinesFollow :
    served.inhibitsRight ∧ State.reset.inhibitsRight ∧ (fading 14399).inhibitsRight ∧ (fading 14399).fitnessRight
      ∧ step (State.withQueue served [.siteReset 0 9 []]) = .next (stepped (State.withQueue served [.siteReset 0 9 []])) :=
  ⟨by unfold State.inhibitsRight; decide +kernel, by unfold State.inhibitsRight; decide +kernel, by unfold State.inhibitsRight; decide +kernel,
    by rintro ts ⟨⟩; decide +kernel, stepped_of_goes rfl (by decide +kernel)⟩
/-- The step in which that class falls. -/
def falls : State := State.withQueue (fading 14399) [.siteSecondBoundary 7]
theorem witness_FitnessAndLinesFollow_class :
    step falls = .next (stepped falls) ∧ (∀ b, falls.pending.head? ≠ some (.powerOnReset b))
      ∧ (∀ flash, falls.pending.head? ≠ some (.descriptorLoad flash))
      ∧ (stepped falls).tmu.cls ≠ falls.tmu.cls ∧ falls.scu.fit.get 2 = true ∧ (stepped falls).scu.fit.get 2 = false :=
  ⟨stepped_of_goes rfl (by decide +kernel), (by rintro b ⟨⟩), (by rintro b ⟨⟩), by decide +kernel, by decide +kernel, by decide +kernel⟩
theorem witness_FitnessAndLinesFollow_derived :
    (fading 14400).tmu.derivedClass ≠ (fading 14400).tmu.cls ∧ (fading 14399).tmu.derivedClass = (fading 14399).tmu.cls
      ∧ (fading 14400).scu.tenants.map (fun ts => (decide ((ts.get 3).state = .vacant), decide ((ts.get 2).state = .vacant))) = some (true, false) := by
  decide +kernel
/-- R90, R128, R129: the second in which the class falls from PHASE makes slot 2 unfit, with TIME_UNFIT in it alone and its line asserted. -/
theorem test_class_falls :
    let t := after (.siteSecondBoundary 7) (fading 14399)
    (t.tmu.cls, t.scu.fit, t.scu.inhibit, t.sli.events.map fun r => (r.pending.timeQuality, r.pending.timeUnfit))
      = (.frequency, ⟨true, true, false, true⟩, ⟨false, false, true, true⟩, ⟨(true, false), (true, false), (true, true), (true, false)⟩) := by
  decide +kernel
/-- R18: a site reset from service asserts the operators' lines and leaves the site slot's. -/
theorem test_site_reset_inhibits : (after (.siteReset 0 9 []) served).scu.inhibit = ⟨false, true, true, true⟩ := by decide +kernel

/-- The site in ACCEPTANCE with two orders tracked. -/
def accepting (es : List Tracked) : State :=
  let s := atSite .acceptance
  { s with scu := { s.scu with tracking := es, acceptanceSet := [.linkLoop 1, .linkLoop 2] } }
theorem witness_AcceptanceIsFollowed :
    (accepting [⟨0, 4⟩, ⟨1, 5⟩]).scu.site = .acceptance
      ∧ (accepting [⟨0, 4⟩, ⟨1, 5⟩]).scu.tracking = [⟨0, 4⟩] ++ ⟨1, 5⟩ :: [] ∧ (∀ x ∈ [(⟨0, 4⟩ : Tracked)] ++ [], x.order ≠ 5)
      ∧ (accepting [⟨1, 5⟩]).scu.tracking = [] ++ ⟨1, 5⟩ :: [] ∧ (TestOutcome.timeout ≠ .aborted .siteReset ∧ TestOutcome.timeout ≠ .pass)
      ∧ (∀ e ∈ (accepting [⟨0, 4⟩]).scu.tracking, e.order ≠ 6) ∧ Requester.slot 1 ≠ .site := by decide +kernel

/-! ### Tenant records -/

theorem witness_SlotStateIsSet :
    slotStateParams ([2] ++ textBytes "SUSPENDED") = some (2, .suspended) ∧ served.scu.tenants = some contracts
      ∧ served.mayAsk 0 (served.slotStateClass ([2] ++ textBytes "SUSPENDED")) ∧ (contracts.get 2).state ≠ .suspended
      ∧ slotStateParams ([0] ++ textBytes "SUSPENDED") = some (0, .suspended)
      ∧ served.mayAsk 0 (served.slotStateClass ([0] ++ textBytes "SUSPENDED"))
      ∧ slotStateParams ([2] ++ textBytes "ENABLED") = some (2, .enabled) ∧ (contracts.get 2).state = .enabled := by
  unfold State.mayAsk; decide +kernel
/-- That site with SHARE_CONTROL in slot 1. -/
def sharing : State := { served with sli := { served.sli with access := { served.sli.access with s1 := { shareControl := true } } } }
/-- That site with slot 3 vacant and the ceiling at 420, which its contract of 150 PB would pass. -/
def tight : State := { vacant3 with scu := { vacant3.scu with ceiling := 420 } }
theorem witness_SlotStateIsSet_overcommit :
    tight.mayAsk 0 (tight.slotStateClass ([3] ++ textBytes "ENABLED")) ∧ tight.slotVacant 3 = true
      ∧ tight.scu.tenants.map (fun ts => decide (tight.scu.ceiling < commitSum (ts.modify 3 fun r => { r with state := .enabled }))) = some true
      ∧ vacant3.scu.tenants.map (fun ts => decide (commitSum (ts.modify 3 fun r => { r with state := .enabled }) ≤ vacant3.scu.ceiling))
          = some true := by
  unfold State.mayAsk; decide +kernel
/-- R84, R192, R195: a slot with SHARE_CONTROL alone that asks for VACANT, with a byte too many, is DENIED, not answered BAD_VALUE. -/
theorem test_vacant_trailing :
    [statusOf 1 (after (.setSlotState 1 9 ([3] ++ textBytes "VACANT" ++ [0])) sharing),
      statusOf 1 (after (.setSlotState 1 9 ([3] ++ textBytes "SUSPENDED" ++ [0])) sharing)] = [some .denied, some .badValue] := by decide +kernel
theorem test_vacate : statusOf 0 (after (.setSlotState 0 9 ([3] ++ textBytes "ENABLED")) tight) = some .overcommit := by decide +kernel

theorem witness_SharesAndTuningWritten_share :
    served.mayAsk 0 .shareControl ∧ served.sli.lock = false ∧ shareParams [2, 1, 0, 230, 0, 0, 0] = some ⟨2, some 230, none, none, none⟩
      ∧ (ShareWrite.mk 2 (some 230) none none none).valid (contracts.get 2) = true
      ∧ commitSum (contracts.modify 2 (ShareWrite.mk 2 (some 230) none none none).into) = served.scu.ceiling
      ∧ served.scu.ceiling < commitSum (contracts.modify 2 (ShareWrite.mk 2 (some 231) none none none).into)
      ∧ (ShareWrite.mk 2 (some 401) none none none).valid (contracts.get 2) = false ∧ (contracts.get 2).state ≠ .vacant := by
  unfold State.mayAsk; decide +kernel
theorem witness_SharesAndTuningWritten_locked :
    locked.mayAsk 0 .shareControl ∧ locked.sli.lock = true ∧ shareParams [2, 0, 0, 1, 9, 1, 3] = some ⟨2, none, none, some 9, some 3⟩
      ∧ (ShareWrite.mk 2 none none (some 9) (some 3)).valid (contracts.get 2) = true ∧ locked.scu.tenants = some contracts
      ∧ commitSum (contracts.modify 2 (ShareWrite.mk 2 none none (some 9) (some 3)).into) ≤ locked.scu.ceiling
      ∧ shareParams [2, 1, 0, 200, 0, 0, 0] = some ⟨2, some 200, none, none, none⟩ := by
  unfold State.mayAsk; decide +kernel
/-- R86: under the lock, weight and priority pass, the committed value and the peak do not. -/
theorem test_share_locked :
    [[2, 0, 0, 1, 9, 1, 3], [2, 1, 0, 200, 0, 0, 0], [2, 0, 1, 1, 144, 1, 9, 0]].map (fun ps => statusOf 0 (after (.writeShare 0 9 ps) locked))
      = [some .ok, some .locked, some .locked] := by decide +kernel
theorem witness_SharesAndTuningWritten_tuning :
    tuningParams [2, 1, 9, 0, 0, 0, 0, 0] = some ⟨2, some 9, none, none, none, none, none⟩ ∧ slot2.standing 2 = true
      ∧ slot2.holds 2 .ownTuning = true ∧ (TuningWrite.mk 2 (some 9) none none none none none).valid = true
      ∧ (TuningWrite.mk 2 (some 20) none none none none none).valid = false
      ∧ tuningParams ([2, 0, 0, 1] ++ textBytes "PHASE" ++ [0, 0, 0]) = some ⟨2, none, none, some .phase, none, none, none⟩ := by
  decide +kernel
theorem witness_SharesAndTuningWritten_offset :
    tuningParams [2, 0, 0, 0, 0, 1, 255, 255, 0] = some ⟨2, none, none, none, none, some (-1), none⟩
      ∧ (TuningWrite.mk 2 none none none none (some (-1)) none).valid = true ∧ slot2.mayAsk 2 .ownTuning := by
  unfold State.mayAsk; decide +kernel
/-- R126: a write of the offset takes away the slot's crossing, and another slot's stands. -/
theorem test_offset_takes_crossing :
    (after (.writeTuning 2 1 [2, 0, 0, 0, 0, 1, 255, 255, 0])
      { slot2 with tmu := { slot2.tmu with crossed := ⟨some 8, ⟨none, none, some 8, some 8⟩⟩ } }).tmu.crossed
      = ⟨some 8, ⟨none, none, none, some 8⟩⟩ := by decide +kernel
/-- R89: a class not met makes the slot time-unfit and asserts its line. -/
theorem test_class_unmet :
    (after (.writeTuning 0 9 ([2, 0, 0, 1] ++ textBytes "PHASE" ++ [0, 0, 0])) served).scu.inhibit = ⟨false, false, true, false⟩ := by
  decide +kernel
/-! ### The radio link -/

theorem witness_LinkRestartEntersDiscovery :
    served.mayAsk 0 .linkControl ∧ served.noIdleQueue ∧ served.lkc.state.isHeld = false ∧ served.lkc.state = .up
      ∧ (atLink (.held .looping)).lkc.state.isHeld = true ∧ (atLink (.held .looping)).mayAsk 0 .linkControl
      ∧ (atLink (.held .looping)).noIdleQueue := by
  unfold State.mayAsk State.noIdleQueue; decide +kernel

/-- The link in DISCOVERY with command number 4 outstanding, its limit of 100 local ms run out. -/
def discovering (c : OduCommand) (st : DiscoveryStep) (n : Nat) : State :=
  let s := atLink (.discovery st n)
  { s with lkc := { s.lkc with outstanding := some ⟨c, 100, 100, 4⟩, sent := 5, ladder := none, source := none } }
theorem witness_IdentifyStep :
    served.lkc.outstanding = none ∧ (discovering .identify .identify 1).lkc.outstanding = some ⟨.identify, 100, 100, 4⟩
      ∧ (discovering .identify .identify 2).lkc.state = .discovery .identify 2
      ∧ (discovering .identify .identify 3).lkc.state = .discovery .identify 3
      ∧ (discovering .readPage .readPage 1).lkc.outstanding.map Outstanding.cmd = some .readPage := by decide +kernel
theorem test_identify_third :
    (after .identifyReplyLimit (discovering .identify .identify 3)).lkc.state = .off .noOdu
      ∧ (after .identifyReplyLimit (discovering .identify .identify 2)).lkc.state = .discovery .identify 3 := by decide +kernel
/-- R22, R43: the reply of the command that a limit or a restart ended is discarded; that of the command sent in its place is taken. -/
theorem test_late_reply :
    let retried := after .identifyReplyLimit (discovering .identify .identify 1)
    let restarted := after (.linkRestart 0 9 []) (discovering .identify .identify 1)
    [retried, restarted].map (fun s => ((after (.oduIdentifyReply 4 ⟨1, 2⟩) s).lkc.state, (after (.oduIdentifyReply 5 ⟨1, 2⟩) s).lkc.state))
      = [(.discovery .identify 2, .discovery .readPage 1), (.discovery .identify 1, .discovery .readPage 1)] := by decide +kernel

/-- A page of ODU 1/2 with two rungs, thresholds, no asymmetry and the loop flag, as R218 lays it out, without its check value. -/
def pageBody : List Byte := [0xC6, 0x3B, 0x07, 0x00, 0x01, 0x00, 0x02, 0x02, 0x05, 0x00, 0x64, 0x00, 0xC8, 0x00, 0x14, 0x00, 0x0A, 0x00, 0x1E, 0x00, 0x14]
def twoRungs : Ladder := { rungs := [⟨100, 20, 10⟩, ⟨200, 30, 20⟩], loop := true, asymmetry := 0 }
def reading (n : Nat) (ps : List Profile) : State :=
  let s := discovering .readPage .readPage n
  { s with lkc := { s.lkc with profiles := ps } }
theorem witness_ReadPageStep :
    (reading 3 []).lkc.odu = some ⟨1, 2⟩ ∧ (reading 3 []).lkc.outstanding = some ⟨.readPage, 100, 100, 4⟩ ∧ served.lkc.outstanding = none
      ∧ served.lkc.odu = some ⟨1, 2⟩ ∧ (discovering .identify .identify 1).lkc.odu = some ⟨1, 2⟩
      ∧ (reading 2 []).lkc.state = .discovery .readPage 2 ∧ (reading 3 []).lkc.state = .discovery .readPage 3 := by decide +kernel
theorem witness_ReadPageStep_profile :
    ladderFromProfile (matching [⟨⟨1, 2⟩, exampleLadder⟩] ⟨1, 2⟩) = some (exampleLadder, ⟨.profile, .profile, .profile⟩)
      ∧ exampleLadder.consistent = true ∧ ladderFromProfile (matching [] ⟨1, 2⟩) = none ∧ readPage [0x00] = none := by decide +kernel
set_option maxRecDepth 20000 in
theorem witness_ReadPageStep_page :
    (readPage (pageBody ++ toBE 2 (crc16 pageBody).toNat)).map (fun p => (p.id, p.capacities, p.loop)) = some (⟨1, 2⟩, [100, 200], true)
      ∧ (readPage (pageBody ++ toBE 2 (crc16 pageBody).toNat)).bind CapabilityPage.thresholds = some [(20, 10), (30, 20)] := by
  decide +kernel
theorem test_page_limit_profile :
    (after .readPageReplyLimit (reading 3 [⟨⟨1, 2⟩, exampleLadder⟩])).lkc.state = .acquiring
      ∧ (after .readPageReplyLimit (reading 3 [])).lkc.state = .off .noProfile := by decide +kernel

theorem witness_LadderIsMergedAndChecked :
    (⟨⟨1, 2⟩, [100, 200], true, some [(20, 10), (30, 20)], none⟩ : CapabilityPage).thresholds = some [(20, 10), (30, 20)]
      ∧ ladderFromPage ⟨⟨1, 2⟩, [100, 200], true, some [(20, 10), (30, 20)], none⟩ none = some (twoRungs, ⟨.page, .page, .zero⟩)
      ∧ ladderFromPage ⟨⟨1, 2⟩, [100, 200], true, none, none⟩ (some ⟨⟨1, 2⟩, twoRungs⟩) = some (twoRungs, ⟨.page, .profile, .profile⟩)
      ∧ ladderFromPage ⟨⟨1, 2⟩, [100], true, none, none⟩ (some ⟨⟨1, 2⟩, twoRungs⟩) = none := by decide +kernel
/-- R29: equal capacities pass, an up threshold equal to the down threshold does not. -/
theorem test_ladder_checks :
    ({ twoRungs with rungs := [⟨100, 20, 10⟩, ⟨100, 30, 10⟩] } : Ladder).consistent = true
      ∧ ({ twoRungs with rungs := [⟨100, 20, 10⟩, ⟨200, 20, 20⟩] } : Ladder).consistent = false := by decide +kernel

/-- A hold in a phase, with its order; the command outstanding is number 4 and has waited its 20 air frames. -/
def holding (ph : LoopPhase) (c : Option OduCommand) (decided : Option TestOutcome) (looped : List Awaiting) : State :=
  let s := running (.linkLoop 5) (.linkLoop { held := true, looped := 2, sent := 100, decided := decided })
  { s with lkc := { s.lkc with state := .held ph, outstanding := c.map fun x => ⟨x, 20, 20, 4⟩, sent := 5, looped := looped } }
theorem witness_HoldPhasesFollow :
    served.lkc.outstanding = none ∧ (holding .loopEntry (some .loopOn) none []).lkc.outstanding = some ⟨.loopOn, 20, 20, 4⟩
      ∧ (holding .loopEntry (some .loopOn) none []).loopProgress.isSome = true
      ∧ (holding .loopExit (some .loopOff) none []).lkc.outstanding = some ⟨.loopOff, 20, 20, 4⟩
      ∧ (holding .looping none none [⟨9, 4, 0⟩]).lkc.state.isHeld = true ∧ (holding .looping none none [⟨9, 4, 0⟩]).loopProgress.isSome = true
      ∧ (∃ a ∈ (holding .looping none none [⟨9, 4, 0⟩]).lkc.looped, a.frame = 9)
      ∧ (∀ a ∈ (holding .looping none none [⟨9, 4, 0⟩]).lkc.looped, a.frame ≠ 10) := by decide +kernel
theorem witness_HoldPhasesFollow_end :
    (holding .loopExit (some .loopOff) none []).tsu.running
        = some ⟨⟨7, .slot 0, .linkLoop 5⟩, .linkLoop { held := true, looped := 2, sent := 100 }⟩
      ∧ (holding .loopExit (some .loopOff) none []).tsu.queued = [] ∧ (holding .loopExit (some .loopOff) none []).scu.site ≠ .bringup
      ∧ (holding .loopExit (some .loopOff) none []).tsu.nextSeq = some 1
      ∧ (holding .loopExit (some .loopOff) none []).lkc.state = .held .loopExit
      ∧ (holding .loopExit (some .loopOff) none []).lkc.outstanding = some ⟨.loopOff, 20, 20, 4⟩
      ∧ (holding .loopExit (some .loopOff) none []).lkc.late.loopOff = 0 := by decide +kernel
/-- That site with a LOOP_ON of an earlier hold ended unanswered, the present one's outstanding or none. -/
def lateOn (c : Option OduCommand) : State :=
  let s := holding .loopEntry c none []
  { s with lkc := { s.lkc with late := { loopOn := 1 } } }
theorem witness_HoldPhasesFollow_late :
    0 < (lateOn (some .loopOn)).lkc.late.loopOn ∧ (lateOn (some .loopOn)).lkc.outstanding = some ⟨.loopOn, 20, 20, 4⟩
      ∧ (holding .loopEntry (some .loopOn) none []).lkc.late.loopOn = 0 ∧ (lateOn none).lkc.outstanding = none := by decide +kernel
/-- R22, R41: the confirmation of a LOOP_ON whose limit has run out, or that an early end has ended, is discarded. -/
theorem test_late_confirmation :
    let s := after .loopOnLimit (holding .loopEntry (some .loopOn) none [])
    s.lkc.late = { loopOn := 1 } ∧ (after .loopOnConfirmed s).lkc = { s.lkc with late := {} }
      ∧ (after (.cancelTest 0 9 [7]) (holding .loopEntry (some .loopOn) none [])).lkc.late = { loopOn := 1 } := by decide +kernel

/-- A LINK_LOOP of 5 frames that has not taken its hold, the link in UP, with frames not yet sent. -/
def requesting (fs : List AirFrame) : State :=
  let s := running (.linkLoop 5) (.linkLoop {})
  { s with lkc := { s.lkc with unsent := fs, upCount := 3, frame := 9 } }
/-- A LINK_LOOP that has filled so many looped frames, in a phase, its LOOP_ON waiting 19 of 20 frames if asked. -/
def looping (ph : LoopPhase) (n : Nat) (away : List Awaiting) : State :=
  let s := running (.linkLoop 5) (.linkLoop { held := true, looped := n })
  { s with lkc := { s.lkc with
    state := .held ph, outstanding := if ph = .loopEntry then some ⟨.loopOn, 19, 20, 4⟩ else none, looped := away, frame := 9 } }
theorem witness_FillsTakeAndRunTheHold :
    (requesting []).tsu.running = some ⟨⟨7, .slot 0, .linkLoop 5⟩, .linkLoop {}⟩ ∧ (requesting []).lkc.state = .up
      ∧ (requesting []).lkc.outstanding = none ∧ (requesting []).lkc.unsent = []
      ∧ (requesting [⟨8, 0, none, -400, false, none, 0, [], 116⟩]).lkc.unsent ≠ []
      ∧ (looping .looping 3 []).lkc.state = .held .looping ∧ (looping .looping 3 []).lkc.outstanding = none
      ∧ (looping .loopEntry 0 []).lkc.state = .held .loopEntry ∧ LoopPhase.loopEntry ≠ .looping
      ∧ (looping .loopEntry 0 []).lkc.outstanding = some ⟨.loopOn, 19, 20, 4⟩ := by decide +kernel
/-- R40: the fill takes the hold; with a frame unsent LOOP_ON waits for it. -/
theorem test_fill_takes_hold :
    [requesting [], requesting [⟨8, 0, none, -400, false, none, 0, [], 116⟩]].map
        (fun s => ((after .frameFill s).lkc.state, (after .frameFill s).emitted))
      = [(.held .loopEntry, [.odu .loopOn]), (.held (.holdPending 1 false), [])] := by decide +kernel
/-- One of those sites with a notice pending, and its far margin 254 frames old, before the fill of frame 10. -/
def noticing (n : Option Notice) (s : State) : State := { s with lkc := { s.lkc with notice := n, far := some ⟨200, 254⟩ } }
/-- A notice for rung 1 decided, in its second frame, and due. -/
def holdNotices : List Notice := [⟨1, .ceiling, .decided⟩, ⟨1, .ceiling, .announced 9 11⟩, ⟨1, .ceiling, .announced 8 10⟩]
theorem witness_FillsTakeAndRunTheHold_notices :
    ∀ s ∈ [requesting [], looping .looping 3 [], looping .loopEntry 0 []],
      s.lkc.voided = none ∧ s.lkc.notice = none ∧ (s.lkc.frame + 1) % 65536 = 10 ∧ s.lkc.rung = 0
        ∧ (∀ n ∈ holdNotices, (noticing (some n) s).lkc.notice = some n ∧ (noticing (some n) s).lkc.state = s.lkc.state
            ∧ (noticing (some n) s).tsu.running = s.tsu.running) := by decide +kernel
theorem witness_FillsTakeAndRunTheHold_voided :
    let s := { requesting [] with lkc := { (requesting []).lkc with voided := some ⟨4, .marginDown, .announced 8 10⟩ } }
    s.lkc.voided = some ⟨4, .marginDown, .announced 8 10⟩ ∧ s.lkc.state = .up
      ∧ Notice.effectiveFrame ⟨4, .marginDown, .announced 8 10⟩ = some ((s.lkc.frame + 1) % 65536) := by decide +kernel
/-- R56, R58, R59: at the fill that takes the hold, in LOOPING and in LOOP_ENTRY, DECIDED is discarded, ANNOUNCED is kept and still sent,
and the one due takes effect; R49: the far margin is one frame older. -/
theorem test_hold_notices :
    [requesting [], looping .looping 3 [], looping .loopEntry 0 []].map (fun s => holdNotices.map fun n =>
        let t := after .frameFill (noticing (some n) s); (t.lkc.notice, t.lkc.rung))
      = List.replicate 3 [(none, 0), (some ⟨1, .ceiling, .announced 9 11⟩, 0), (none, 1)]
    ∧ (∀ s ∈ [requesting [], looping .looping 3 [], looping .loopEntry 0 []], (holdNotices.map fun n =>
        ((after .frameFill (noticing (some n) s)).lkc.unsent.map AirFrame.notice)) = [[none], [some ⟨1, 11⟩], [none]])
    ∧ ∀ s ∈ [requesting [], looping .looping 3 [], looping .loopEntry 0 []],
        (after .frameFill (noticing none s)).lkc.far = some ⟨200, 255⟩ := by decide +kernel
/-- R41: the fifth looped frame ends LOOPING, the fourth does not; LOOP_ON has then waited 20 frames. -/
theorem test_loop_count :
    [3, 4].map (fun n => (after .frameFill (looping .looping n [])).lkc.state) = [.held .looping, .held .loopExit]
      ∧ (after .frameFill (looping .loopEntry 0 [])).lkc.outstanding = some ⟨.loopOn, 20, 20, 4⟩ := by decide +kernel
/-- R177: no errored PB and none away is PASS; a looped frame still away is FAIL; a decided outcome stands. -/
theorem test_loop_outcomes :
    [holding .loopExit (some .loopOff) none [], holding .loopExit (some .loopOff) none [⟨9, 4, 0⟩],
      holding .loopExit (some .loopOff) (some (.aborted .cancel)) []].map
        (fun s => (after .loopOffConfirmed s).tsu.log.map LogEntry.outcome)
      = [[.pass], [.fail], [.aborted .cancel]] := by decide +kernel

theorem witness_StatusReportsTaken :
    (atLink .acquiring).lkc.state ≠ .up ∧ served.lkc.state = .up ∧ served.lkc.lossLimit = 200 := by decide +kernel
/-- The low-margin run one report short of its limit, and at it. -/
def lowRun (n : Nat) : State := { served with lkc := { served.lkc with lowRun := n } }
theorem witness_StatusReportsTaken_low :
    (lowRun 199).lkc.lossLimit ≤ (lowRun 199).lkc.lowRun + 1 ∧ (lowRun 198).lkc.lowRun + 1 < (lowRun 198).lkc.lossLimit
      ∧ ((lowRun 199).rungs[0]?).map Rung.down = some 12 := by decide +kernel
theorem witness_StatusReportsTaken_lowered : (lowRun 200).lkc.lossLimit ≤ (lowRun 200).lkc.lowRun := by decide +kernel
/-- R37, R203: a run already at the lowered limit enters LOST at the next report, whatever its margin. -/
theorem test_low_run_lowered : (after (.statusReport 400) (lowRun 200)).lkc.state = .lost 0 := by decide +kernel
theorem test_low_run_loses :
    (after (.statusReport 11) (lowRun 199)).lkc.state = .lost 0 ∧ (after (.statusReport 12) (lowRun 199)).lkc.lowRun = 0 := by
  decide +kernel

/-- That site at a rung with a ceiling, an up-count and a fresh far margin. -/
def climbing (rung ceiling count : Nat) (n : Option Notice) : State :=
  { served with lkc := { served.lkc with rung := rung, ceiling := ceiling, upCount := count, notice := n, far := some ⟨200, 8⟩ } }
theorem witness_RungDecisionRows :
    (climbing 3 7 63 none).lkc.ladder = some exampleLadder ∧ (climbing 3 7 63 none).lkc.rung < exampleLadder.rungs.length
      ∧ (climbing 3 7 63 none).lkc.farFresh = true ∧ (climbing 3 7 63 none).lkc.notice = none := by decide +kernel
/-- R54 at the limit U = 64, one short of it, and below up(4) = 96; R53 with the ceiling below the rung. -/
theorem test_rung_rows :
    [rungDecision 96 (climbing 3 7 63 none), rungDecision 96 (climbing 3 7 62 none), rungDecision 95 (climbing 3 7 63 none),
      rungDecision 200 (climbing 3 1 0 none)].map (fun s => (s.lkc.notice, s.lkc.upCount))
      = [(some ⟨4, .marginUp, .decided⟩, 0), (none, 63), (none, 0), (some ⟨1, .ceiling, .decided⟩, 0)] := by decide +kernel
/-- R57: a down decision replaces a pending notice of a higher target, and keeps one at its own. -/
theorem test_rung_replaced :
    [rungDecision 70 (climbing 5 7 0 (some ⟨4, .marginDown, .announced 6 8⟩)), rungDecision 70 (climbing 5 7 0 (some ⟨2, .marginDown, .decided⟩))].map
        (fun s => (s.lkc.notice, s.lkc.voided))
      = [(some ⟨2, .marginDown, .decided⟩, some ⟨4, .marginDown, .announced 6 8⟩), (some ⟨2, .marginDown, .decided⟩, none)] := by decide +kernel

/-- A far frame with nothing but its sync flag and margin echo. -/
def bare (sync : Bool) (m : Int) : FarFrame := ⟨sync, m, [], none, none, none⟩
/-- That site with a sync-miss run. -/
def missed (n : Nat) : State := { served with lkc := { served.lkc with syncMiss := n } }
theorem witness_FarFramesTaken :
    (atLink .acquiring).lkc.state = .acquiring ∧ (bare true 0).sync = true ∧ (bare false 0).sync = false ∧ served.lkc.state = .up
      ∧ (missed 14).lkc.syncMiss + 1 < 16 ∧ 16 ≤ (missed 15).lkc.syncMiss + 1 ∧ (atLink (.lost 999)).lkc.state = .lost 999 ∧ (atLink (.lost 1000)).lkc.state = .lost 1000
      ∧ (bare true 0).segments = [] ∧ (bare true 0).reply = none ∧ (bare true 0).report = none := by decide +kernel
/-- The segments of the worked example: slot 3 takes them, and where it is VACANT discards them and counts the two with the last flag. -/
theorem witness_FarFramesTaken_segments :
    broken.slotEnabled 3 = true ∧ broken.loopSubject ≠ some 3 ∧ broken.lkc.state = .up ∧ strays.sync = true ∧ vacant3.slotEnabled 3 = false
      ∧ strays.segments.countP EgressSegment.last = 2 ∧ (strays.segments.filter fun g => decide (g.slot = 2)).countP EgressSegment.last = 0
      ∧ strays.reply = none ∧ strays.report = none ∧ (atLink .acquiring).scu.site ≠ .bringup ∧ (atLink .acquiring).noIdleQueue := by
  unfold State.noIdleQueue; decide +kernel
theorem test_segments_of_a_vacant_slot :
    (after (.farFrame strays) vacant3).tqm.s3 = { egressDiscarded := 2 } ∧ (after (.farFrame strays) vacant3).emitted = []
      ∧ (after (.farFrame strays) (running (.portLoop 3 1 64) (.portLoop {}))).tqm.s3 = { egressDiscarded := 2 } := by decide +kernel
theorem witness_FarFramesTaken_backoff : ∀ n, served.lkc.state ≠ .lost n := by intro n h; cases h
theorem test_sixteenth_miss :
    (after .missingFarFrame (missed 15)).lkc.state = .lost 0 ∧ (after (.farFrame (bare false 0)) (missed 14)).lkc.syncMiss = 15 := by
  decide +kernel
theorem test_backoff :
    [999, 1000].map (fun n => (after .backoffExpiry (atLink (.lost n))).lkc.state) = [.lost 999, .acquiring] := by decide +kernel
theorem test_acquiring_up : (after (.farFrame (bare true 500)) (atLink .acquiring)).lkc.far = some ⟨400, 0⟩ := by decide +kernel

theorem witness_NoticesTakeTwoFrames :
    served.lkc.state = .up ∧ served.holdRequested = false ∧ served.lkc.voided = none ∧ served.lkc.frame < 65536
      ∧ (climbing 3 7 0 (some ⟨1, .ceiling, .decided⟩)).lkc.notice = some ⟨1, .ceiling, .decided⟩
      ∧ (climbing 3 7 0 (some ⟨1, .ceiling, .announced 0 2⟩)).lkc.notice = some ⟨1, .ceiling, .announced 0 2⟩ := by decide +kernel
/-- R56, R58: decided at the fill of frame 1, carried in frames 1 and 2, in force at frame 3. -/
theorem test_notice_announced :
    (after .frameFill (climbing 3 7 0 (some ⟨1, .ceiling, .decided⟩))).lkc.notice = some ⟨1, .ceiling, .announced 1 3⟩ := by decide +kernel
/-- R49: the far margin ages at each fill and stays at 255. -/
theorem test_far_margin_ages :
    [8, 254, 255].map (fun a => (after .frameFill { served with lkc := { served.lkc with far := some ⟨200, a⟩ } }).lkc.far)
      = [some ⟨200, 9⟩, some ⟨200, 255⟩, some ⟨200, 255⟩] := by decide +kernel
theorem test_notice_takes_effect :
    (after .frameFill (climbing 3 7 0 (some ⟨1, .ceiling, .announced 65535 1⟩))).lkc.rung = 1 := by decide +kernel
/-- A notice for rung 4 announced in a frame and due in another, replaced by a DECIDED one for rung 2, before the fill of frame 1. -/
def voiding (a e : Nat) : State :=
  let s := climbing 5 7 0 (some ⟨2, .marginDown, .decided⟩)
  { s with lkc := { s.lkc with voided := some ⟨4, .marginDown, .announced a e⟩ } }
theorem witness_NoticesTakeTwoFrames_voided :
    (voiding 65535 1).lkc.voided = some ⟨4, .marginDown, .announced 65535 1⟩ ∧ (voiding 65535 1).lkc.state = .up
      ∧ (voiding 65535 1).holdRequested = false ∧ Notice.effectiveFrame ⟨4, .marginDown, .announced 65535 1⟩ = some ((0 + 1) % 65536)
      ∧ Notice.effectiveFrame ⟨4, .marginDown, .announced 0 2⟩ ≠ some ((0 + 1) % 65536) ∧ (4 : Nat) ≠ (voiding 65535 1).lkc.rung
      ∧ (voiding 0 2).lkc.notice = some ⟨2, .marginDown, .decided⟩ := by decide +kernel
/-- R57: replaced too late, the old notice takes effect and its replacement is discarded; in time, the replacement is announced. -/
theorem test_notice_replaced :
    [voiding 65535 1, voiding 0 2].map (fun s => let t := after .frameFill s; (t.lkc.rung, t.lkc.notice, t.lkc.voided))
      = [(4, none, none), (5, some ⟨2, .marginDown, .announced 1 3⟩, none)] := by decide +kernel
theorem witness_RungChangesAtItsFrame :
    step (State.withQueue (climbing 3 7 0 (some ⟨1, .ceiling, .announced 65535 1⟩)) [.frameFill])
        = .next (stepped (State.withQueue (climbing 3 7 0 (some ⟨1, .ceiling, .announced 65535 1⟩)) [.frameFill]))
      ∧ (stepped (State.withQueue (climbing 3 7 0 (some ⟨1, .ceiling, .announced 65535 1⟩)) [.frameFill])).lkc.rung ≠ 3
      ∧ step (State.withQueue (climbing 3 7 0 none) [.linkRestart 0 9 []])
        = .next (stepped (State.withQueue (climbing 3 7 0 none) [.linkRestart 0 9 []]))
      ∧ (stepped (State.withQueue (climbing 3 7 0 none) [.linkRestart 0 9 []])).lkc.rung = 0
      ∧ step (climbing 3 7 0 none) = .next (stepped (climbing 3 7 0 none)) :=
  ⟨stepped_of_goes rfl (by decide +kernel), by decide +kernel, stepped_of_goes rfl (by decide +kernel), by decide +kernel, rfl⟩

theorem witness_FramesFillTheirCapacity :
    (atLink (.lost 5)).lkc.state ≠ .acquiring ∧ (atLink (.lost 5)).lkc.state ≠ .up ∧ (holding .looping none none []).lkc.state.isHeld = true
      ∧ 4 ≤ (after .frameFill (atLink .acquiring)).capacity 0 ∧ (atLink .acquiring).egressQuiet := by
  unfold State.egressQuiet; decide +kernel
theorem witness_FramesFillTheirCapacity_off : ∀ p, (atLink (.lost 5)).lkc.state ≠ .held p := by intro p h; cases h

/-- That site with an egress partial in slot 3, restarting its link, and the same with the link lost and none held. -/
theorem witness_EgressIsHeldInUpAlone :
    broken.loadingQuiet ∧ broken.holdFits ∧ broken.egressQuiet ∧ (atLink (.lost 5)).egressQuiet
      ∧ step (State.withQueue broken [.linkRestart 0 9 []]) = .next (stepped (State.withQueue broken [.linkRestart 0 9 []])) :=
  ⟨by unfold State.loadingQuiet; decide +kernel, ⟨by rintro r ⟨⟩, by decide +kernel, by decide +kernel⟩,
    by unfold State.egressQuiet; decide +kernel, by unfold State.egressQuiet; decide +kernel, stepped_of_goes rfl (by decide +kernel)⟩
/-- R72, R73: the departure discards the partial and counts it, and a segment that comes outside UP begins none. -/
theorem test_partial_at_departure :
    (after (.linkRestart 0 9 []) broken).tqm.s3 = { egressDiscarded := 13 }
      ∧ exec (.farFrame strays) (atLink (.lost 5)) = .next (atLink (.lost 5)) := ⟨by decide +kernel, rfl⟩

/-- A frame filled and not sent. -/
def filled (n : Nat) (request : Bool) : AirFrame := ⟨n, 0, none, -400, request, none, 0, [], 116⟩
def unsent (st : LinkState) (fs : List AirFrame) : State :=
  let s := atLink st
  { s with
    lkc := { s.lkc with unsent := fs, frame := 9 }
    tmu := { s.tmu with site := ⟨5, 77⟩, exchange := some ⟨5, some 8, none⟩ } }
/-- A hold of slot 1's order, with every slot enabled for SITE_STATE, kinds pending. -/
def held1 : State :=
  let s := holding .looping none none []
  { s with
    tsu := { s.tsu with running := s.tsu.running.map fun r => { r with order := { r.order with requester := .slot 1 } } }
    sli := { s.sli with events := s.sli.events.map fun _ => ⟨{ rung := true, queueDrop := true }, { siteState := true }, true⟩ } }
theorem witness_SiteResetRestartsTheBlocks_events :
    held1.mayAsk 0 .siteControl ∧ held1.lkc.state.isHeld = true ∧ held1.scu.site ≠ .unconfigured
      ∧ held1.tsu.running.map (fun r => r.order.requester) = some (.slot 1)
      ∧ ((unconfigured 2 1 .none []).scu.site = .unconfigured ∧ (unconfigured 2 1 .none []).lkc.state = .off .unconfigured)
      ∧ (unsent .up []).tmu.exchange.isSome = true ∧ (unsent .up []).lkc.state.carries = true ∧ (unsent .up []).mayAsk 0 .siteControl := by
  unfold State.mayAsk; decide +kernel
theorem witness_SiteResetRestartsTheBlocks_link :
    (unsent .up [filled 8 false]).mayAsk 0 .siteControl ∧ (unsent .up [filled 8 false]).scu.site ≠ .unconfigured
      ∧ (unsent .up [filled 8 false]).lkc.unsent ≠ [] := by
  unfold State.mayAsk; decide +kernel
/-- R38, R72: the frame filled just before the reset is discarded at the departure. -/
theorem test_site_reset_frame : (after (.siteReset 0 9 []) (unsent .up [filled 8 false])).lkc.unsent = [] := by decide +kernel
/-- R209, R45, R186: what was pending is gone, TEST_DONE stands in slots 0 and 1 alone, and LOOP_OFF goes out before IDENTIFY. -/
theorem test_site_reset_events :
    (let t := after (.siteReset 0 9 []) held1
     (([0, 1, 2].map fun k => (t.sli.events.get k).pending.toList), t.sli.events.s2.attention, t.emitted))
      = ([[.siteState, .linkState, .testDone], [.siteState, .linkState, .testDone], [.siteState, .linkState]], true,
          [.odu .loopOff, .odu .identify]) := by decide +kernel
theorem witness_FramesLeaveInOrder :
    served.lkc.unsent = [] ∧ (unsent .up [filled 8 true, filled 9 false]).lkc.unsent = filled 8 true :: [filled 9 false]
      ∧ (filled 8 true).request = true ∧ (unsent .up [filled 8 true]).tmu.exchange = some ⟨5, some 8, none⟩
      ∧ (unsent (.held (.holdPending 1 false)) [filled 8 false]).lkc.state = .held (.holdPending 1 false)
      ∧ (unsent (.held (.holdPending 1 true)) [filled 8 false]).lkc.state = .held (.holdPending 1 true)
      ∧ (unsent (.held (.holdPending 2 false)) [filled 8 false, filled 9 false]).lkc.state = .held (.holdPending 2 false)
      ∧ (filled 9 false).request = false := by decide +kernel
theorem test_request_stamped :
    (after .frameLeavesRadioPort (unsent .up [filled 8 true])).tmu.exchange = some ⟨5, some 8, some ⟨⟨5, 77⟩, 0⟩⟩ := by decide +kernel
theorem test_last_before_hold :
    (after .frameLeavesRadioPort (unsent (.held (.holdPending 1 false)) [filled 8 false])).emitted
      = [.airFrame (filled 8 false) none, .odu .loopOn] := by decide +kernel

theorem witness_HoldStandsWithItsOrder :
    (holding .looping none none []).loadingQuiet ∧ (holding .looping none none []).holdFits
      ∧ step (State.withQueue (holding .looping none none []) [.frameFill])
          = .next (stepped (State.withQueue (holding .looping none none []) [.frameFill])) :=
  ⟨by unfold State.loadingQuiet; decide +kernel, ⟨by rintro r ⟨⟩; rfl, by decide +kernel, by decide +kernel⟩,
    stepped_of_goes rfl (by decide +kernel)⟩
theorem witness_RecordsStayBounded_loading :
    State.reset.loadingQuiet ∧ State.reset.noIdleQueue ∧ step State.reset = .next (stepped State.reset) :=
  ⟨by unfold State.loadingQuiet; decide, by unfold State.noIdleQueue; decide, rfl⟩

theorem witness_LinkAndGrantLimitsWritten :
    served.mayAsk 0 .linkControl ∧ served.mayAsk 0 .siteControl ∧ served.sli.lock = false
      ∧ profileParams [0, 1, 0, 2, 0] = some (⟨1, 2⟩, none) ∧ linkLimitParams [1, 255, 1, 3, 232, 1, 1] = some (some 255, some 1000, some 1)
      ∧ grantLimitParams [1, 8, 1, 255] = some (some 8, some 255) ∧ grantLimitParams [0, 1, 1] = some (none, some 1) := by
  unfold State.mayAsk; decide +kernel
/-- R115, R203: nothing named, a value of 0, and one past its range; the ranges' ends are in the first witness. -/
theorem witness_LinkAndGrantLimitsWritten_refused :
    [[0, 0, 0], [1, 0, 0, 0], [0, 1, 0, 0, 0], [0, 1, 3, 233, 0], [0, 0, 1, 0]].map linkLimitParams
        = [some (none, none, none), some (some 0, none, none), some (none, some 0, none), some (none, some 1001, none), some (none, none, some 0)]
      ∧ [[0, 0], [1, 0, 0], [1, 9, 0], [0, 1, 0]].map grantLimitParams
        = [some (none, none), some (some 0, none), some (some 9, none), some (none, some 0)] := by decide +kernel
theorem test_limits_refused :
    ([[0, 0, 0], [1, 0, 0, 0], [0, 1, 3, 233, 0], [1, 255, 1, 3, 232, 1, 1]].map fun ps => statusOf 0 (after (.setLinkLimits 0 9 ps) served))
        = [some .badValue, some .badValue, some .badValue, some .ok]
      ∧ ([[0, 0], [1, 9, 0], [0, 1, 0], [1, 8, 1, 255]].map fun ps => statusOf 0 (after (.setGrantLimits 0 9 ps) served))
        = [some .badValue, some .badValue, some .badValue, some .ok] := by decide +kernel
/-- A one-rung entry as WRITE_PROFILE carries it. -/
def oneRung : List Byte := [0, 1, 0, 2, 1, 0, 100, 0, 20, 0, 10] ++ textBytes "set" ++ [0, 0]
theorem witness_LinkAndGrantLimitsWritten_entry :
    profileParams oneRung = some (⟨1, 2⟩, some ⟨[⟨100, 20, 10⟩], true, 0⟩) ∧ Profile.inRange ⟨⟨1, 2⟩, ⟨[⟨100, 20, 10⟩], true, 0⟩⟩ = true
      ∧ (⟨[⟨100, 20, 10⟩], true, 0⟩ : Ladder).consistent = true ∧ served.lkc.profiles.length < 8
      ∧ (∀ p ∈ served.lkc.profiles, p.key ≠ ⟨1, 2⟩) := by decide +kernel
theorem test_rung_ceiling : dataOf 0 (after (.setRungLimits 0 9 [5]) served) = some [.num 1 5, .present true, .num 1 5] := by
  decide +kernel

/-! ### Queues and grants -/

/-- A packet of 64 bytes without a priority tag, and one with tag priority 5, with their frame check sequences (R65). -/
def packetBytes (tag : List Byte) : List Byte :=
  let body := List.replicate 12 (0x00 : Byte) ++ tag ++ List.replicate (48 - tag.length) 0x00
  body ++ (toBE 4 (crc32 body).toNat).reverse
/-- That site with an EXPRESS queue of 255 or 256 PB and a BULK queue of 3,839 or 3,840 PB. -/
def nearlyFull (e b : Nat) : State :=
  { served with tqm := { served.tqm with s1 := { express := [⟨0, .express, 0, e, e, []⟩], bulk := [⟨1, .bulk, 0, b, b, []⟩], nextSeq := 65535 } } }
set_option maxRecDepth 20000 in
theorem witness_PacketsAreAdmittedOrDropped :
    (packetBytes []).length = 64 ∧ fcsOk (packetBytes []) = true ∧ fcsOk (packetBytes [0x81, 0x00, 0xA0, 0x00]) = true := by decide +kernel
theorem witness_PacketsAreAdmittedOrDropped_class :
    (packetBytes [0x81, 0x00, 0xA0, 0x00]).getD 12 0 = 0x81 ∧ (packetBytes [0x81, 0x00, 0xA0, 0x00]).getD 13 0 = 0x00
      ∧ 5 * 32 ≤ ((packetBytes [0x81, 0x00, 0xA0, 0x00]).getD 14 0).toNat ∧ ((packetBytes [0x81, 0x00, 0x9F, 0x00]).getD 14 0).toNat < 5 * 32 := by
  decide +kernel
theorem witness_PacketsAreAdmittedOrDropped_limits :
    queuedPB ((nearlyFull 255 3839).tqm.get 1).express + 1 ≤ 256 ∧ 256 < queuedPB ((nearlyFull 256 3839).tqm.get 1).express + 1
      ∧ queuedPB ((nearlyFull 255 3839).tqm.get 1).bulk + 1 ≤ 3840 ∧ 3840 < queuedPB ((nearlyFull 255 3840).tqm.get 1).bulk + 1
      ∧ (nearlyFull 255 3839).slotVacant 1 = false ∧ (nearlyFull 255 3839).loopSubject ≠ some 1 ∧ vacant3.slotVacant 3 = true
      ∧ State.reset.scu.site = .loading := by decide +kernel
/-- R67: a packet that fills the class is admitted, one more PB is dropped; both use the number 65,535 or none (R68). -/
theorem test_offer_edges :
    [offer 1 (packetBytes []) (nearlyFull 0 3839), offer 1 (packetBytes []) (nearlyFull 0 3840)].map
        (fun s => let t := s.tqm.get 1; (t.nextSeq, t.accepted, t.droppedFull)) = [(0, 1, 0), (65535, 0, 1)] := by decide +kernel
/-- R66: a packet cut short on the port is counted malformed. -/
theorem test_arrival_cut : ((after (.packetArrival 1 [] true) served).tqm.get 1).malformed = 1 := by decide +kernel

theorem witness_PacketsAreCutAndReassembled :
    64 ≤ (List.replicate 100 (0x07 : Byte)).length ∧ (List.replicate 100 (0x07 : Byte)).length ≤ 9216 ∧ (∀ n ∈ [1, 1], 0 < n)
      ∧ ([1, 1] : List Nat).sum = (100 + 63) / 64 ∧ (served.tqm.get 0).egress = none := by decide +kernel
theorem test_cut_and_back :
    (served.tqm.get 0).takeAll ((cutInto 0 (newPacket 3 .bulk (List.replicate 100 0x07)) [1, 1]).map Segment.received)
      = (served.tqm.get 0, [List.replicate 100 0x07]) := by decide +kernel

/-- A slot that has discarded 4 egress packets, with no partial or one of packet 5. -/
def holdingPartial (n : Nat) : Traffic :=
  { egress := if n = 0 then none else some ⟨5, n, List.replicate (64 * n) 0x01⟩, egressDiscarded := 4 }
def received (seq offset length : Nat) (last : Bool) (pad : Nat) : EgressSegment :=
  ⟨0, seq, offset, length, last, pad, List.replicate (64 * length) 0x02⟩
theorem witness_PacketsAreCutAndReassembled_breaks :
    (holdingPartial 0).egress = none ∧ (holdingPartial 2).egress = some ⟨5, 2, List.replicate 128 0x01⟩
      ∧ 0 < (received 5 3 1 false 0).offset ∧ (received 5 0 1 true 1).offset = 0 ∧ 64 * 1 - (received 5 0 1 true 1).pad < 64
      ∧ (received 6 0 1 true 0).seq ≠ 5 ∧ (received 5 3 1 true 0).offset ≠ 2 ∧ (received 5 2 1 true 0).offset = 2
      ∧ 144 < 143 + (received 5 143 2 true 0).length ∧ 143 + (received 5 143 1 false 0).length ≤ 144 := by decide +kernel
/-- R73, R74, on a slot with no partial: a stray, a packet begun, one of 64 bytes and one of 63. -/
theorem test_reassembly_begins :
    [received 5 3 1 false 0, received 5 0 1 false 0, received 5 0 1 true 0, received 5 0 1 true 1].map (fun g =>
        let r := (holdingPartial 0).takeAll [g]; (r.1.egress.map EgressPartial.held, r.1.egressDiscarded, r.2))
      = [(none, 5, []), (some 1, 4, []), (none, 4, [List.replicate 64 0x02]), (none, 5, [])] := by decide +kernel
/-- R73, with packet 5 held to 2 PB: continued, another packet's first segment, and one of its own at the wrong offset (two discarded). -/
theorem test_reassembly_breaks :
    [received 5 2 1 true 0, received 6 0 1 true 0, received 5 3 1 true 0].map (fun g =>
        let r := (holdingPartial 2).takeAll [g]; (r.1.egress.isSome, r.1.egressDiscarded, r.2))
      = [(false, 4, [List.replicate 128 0x01 ++ List.replicate 64 0x02]), (false, 5, [List.replicate 64 0x02]), (false, 6, [])] := by
  decide +kernel
/-- R73: held to 143 PB, one PB more stands and two more discard the packet, once. -/
theorem test_reassembly_bound :
    [received 5 143 1 false 0, received 5 143 2 true 0].map (fun g =>
        let r := (holdingPartial 143).takeAll [g]; (r.1.egress.map EgressPartial.held, r.1.egressDiscarded, r.2.length))
      = [(some 144, 4, 0), (none, 5, 0)] := by decide +kernel

theorem witness_GrantsFillTheRoom :
    (∀ k, ((loaded 2 10 600 90 400).entrants.get k).q ≤ ((loaded 2 10 600 90 400).entrants.get k).p)
      ∧ 476 < ((loaded 2 10 600 90 400).entrants.map Entrant.q).sum ∧ ((loaded 2 10 600 90 400).entrants.map Entrant.q).sum ≤ 570 := by
  decide +kernel
theorem test_room_at_the_sum : (divide 570 (loaded 2 10 600 90 400).entrants).e = ⟨20, 200, 200, 150⟩ := by decide +kernel

/-- Make-good: slots 1 and 3 are owed 158 and 120 PB at one priority. Round 2: 7 PB are left after round 1, for slot 3 alone. -/
theorem witness_GrantsFillTheRoom_order :
    (∀ k, (borrowing.entrants.get k).q ≤ (borrowing.entrants.get k).p) ∧ (borrowing.entrants.get 3).prio = (borrowing.entrants.get 1).prio
      ∧ (divide 500 borrowing.entrants).o.get 3 < (divide 500 borrowing.entrants).o.get 1 ∧ 0 < (divide 500 borrowing.entrants).x.get 3
      ∧ ((loaded 2 10 600 90 400).entrants.get 1).prio = ((loaded 2 10 600 90 400).entrants.get 3).prio
      ∧ 0 < (divide 760 (loaded 2 10 600 90 400).entrants).r2.get 3 := by decide +kernel
/-- R104, R105, R107, R108: slot 1 made good in full before slot 3; the weighted shares of 310 PB, capped by the demand, then the 7 PB left. -/
theorem test_surplus_order :
    (divide 500 borrowing.entrants).x = ⟨0, 140, 0, 46⟩
      ∧ (let p := divide 760 (loaded 2 10 600 90 400).entrants; (p.f, p.r2)) = (⟨0, 200, 0, 103⟩, ⟨0, 0, 0, 7⟩) := by decide +kernel
theorem witness_GrantRecordsAfterAPass :
    (loaded 2 10 600 90 400).lkc.state = .up ∧ (loaded 2 10 600 90 400).holdRequested = false ∧ (loaded 2 10 600 90 400).lkc.notice = none
      ∧ (loaded 2 10 600 90 400).lkc.voided = none ∧ (loaded 2 10 600 90 400).eligible 1 = true
      ∧ (loaded 2 10 600 90 400).scu.tenants.isSome = true ∧ vacant3.eligible 3 = false := by decide +kernel
/-- That frame with slot 1's raise DUE, slot 2 time-unfit and slot 3 VACANT. -/
def entering4 : State :=
  let s := loaded 2 10 600 90 400
  { s with
    scu := { vacant3.scu with fit := ⟨true, true, false, true⟩ }
    gre := { s.gre with slots := { s.gre.slots with s1 := { due := true, deficit := 5 } } } }
theorem witness_GrantRecordsAfterAPass_entrants :
    entering4.scu.tenants.isSome = true ∧ entering4.eligible 1 = true ∧ entering4.eligible 2 = true ∧ entering4.eligible 3 = false := by
  decide +kernel
/-- R97 to R99: priority 4 for the raise DUE, a committed value of 0 while unfit, and nothing of the VACANT slot. -/
theorem test_entrants :
    entering4.entrants = ⟨⟨true, 1, 20, 60, 1, 10, 0⟩, ⟨true, 4, 200, 400, 4, 600, 5⟩, ⟨true, 1, 0, 400, 4, 90, 0⟩, ⟨false, 0, 0, 0, 0, 0, 0⟩⟩ := by
  decide +kernel
/-- That frame due from rung 3 at rung 2, slot 2 requiring PHASE, LOCKED on LINK with GNSS qualified too: the rung change ends LINK's
exchange of frame 0, its third in a row that is not valid. -/
def moving : State :=
  let s := loaded 3 10 600 90 400
  { s with
    lkc := { s.lkc with notice := some ⟨2, .marginDown, .announced 65535 1⟩ }
    scu := { s.scu with tenants := some { contracts with s2 := { contracts.s2 with required := .phase } } }
    tmu := { s.tmu with
      timing := .locked, everLocked := true, cls := .phase, selected := some .link, exchange := some ⟨5, some 0, none⟩
      gnss := { s.tmu.gnss with qual := .qualified }, link := { s.tmu.link with qual := .qualified, invalidRun := 2 }
      params := { s.tmu.params with gnssPriority := 1, linkPriority := 2 } } }
theorem witness_GrantRecordsAfterAPass_rung :
    moving.lkc.state = .up ∧ moving.holdRequested = false ∧ moving.eligible 2 = true ∧ moving.scu.tenants.isSome = true
      ∧ (moving.lkc.noticeDue 1).map Notice.target = some 2 ∧ moving.lkc.rung = 3 := by decide +kernel
/-- R95, R142: the pass reads slot 2 time-fit, as it stood when the fill was taken, at rung 2; the class falls and the slot is unfit after. -/
theorem test_pass_reads_first :
    (let t := after .frameFill moving
     (t.gre.slots.s2.last.map (fun p => (p.rung, p.figures.map PassFigures.q)), t.tmu.exchange, t.tmu.cls, t.scu.fit.s2))
      = (some (2, some 200), none, .frequency, false) := by decide +kernel
/-- R142: a rung change at the request frame itself leaves the exchange in flight. -/
theorem test_rung_at_request_frame :
    (after .frameFill { moving with tmu := { moving.tmu with exchange := some ⟨5, none, none⟩ } }).tmu.exchange = some ⟨5, some 1, none⟩ := by
  decide +kernel
/-- That frame with aging limits at and past slot 1's count, after the worked example "a raise at K = 2". -/
def aging (limit count : Nat) : State :=
  let s := loaded 2 10 600 90 400
  { s with gre := { s.gre with agingLimit := limit, slots := { s.gre.slots with s1 := { aging := count } } } }
theorem test_aging_raise :
    [aging 2 0, aging 2 1, aging 255 3].map (fun s => ((after .frameFill s).gre.slots.s1.aging, (after .frameFill s).gre.slots.s1.due))
      = [(1, false), (0, true), (0, false)] := by decide +kernel
theorem witness_RecordsStayBounded :
    served.queuesBounded ∧ served.grantsBounded ∧ served.ratesBounded ∧ served.ordersBounded
      ∧ step (State.withQueue served [.frameFill]) = .next (stepped (State.withQueue served [.frameFill])) :=
  ⟨by unfold State.queuesBounded Traffic.bounded; decide +kernel, by unfold State.grantsBounded; decide +kernel,
    by unfold State.ratesBounded; decide +kernel, by unfold State.ordersBounded; decide +kernel, stepped_of_goes rfl (by decide +kernel)⟩

/-! ### Time -/

theorem witness_TimeUnitWrites :
    served.mayAsk 0 .timeControl ∧ served.tmu.timing = .freerun
      ∧ { served with tmu := { served.tmu with timing := .locked } }.tmu.timing ≠ .freerun
      ∧ timeParam [0, 0, 0, 0, 0, 77, 59, 154, 201, 255] = some ⟨77, 999999999⟩ ∧ (⟨77, 999999999⟩ : SiteTime).wf = true
      ∧ timeParam [0, 0, 0, 0, 0, 77, 59, 154, 202, 0] = some ⟨77, 1000000000⟩ ∧ (⟨77, 1000000000⟩ : SiteTime).wf = false
      ∧ served.tmu.exchange = none := by
  unfold State.mayAsk; decide +kernel
theorem witness_TimeUnitWrites_others :
    priorityParams (textBytes "GNSS" ++ [0]) = some (.gnss, 0) ∧ priorityParams (textBytes "LINK" ++ [7]) = some (.link, 7)
      ∧ priorityParams (textBytes "LINK" ++ [8]) = some (.link, 8)
      ∧ integratorParam [0, 195, 80, 0] = some 12800000 ∧ integratorParam [255, 60, 175, 255] = some (-12800001)
      ∧ bankParams (textBytes "TRACK" ++ [1, 15, 1, 23]) = some (false, some 15, some 23)
      ∧ timeLimitParams [1, 0, 200, 1, 0, 0, 200, 0, 0, 0, 0] = some ⟨some 200, some 200, none, none, none, none⟩
      ∧ (LimitWrite.mk (some 200) (some 200) none none none none).names = true ∧ served.tmu.params.limitsOk = true
      ∧ ((LimitWrite.mk (some 200) (some 200) none none none none).into served.tmu.params).limitsOk = true
      ∧ ((LimitWrite.mk (some 1001) none none none none none).into served.tmu.params).limitsOk = false
      ∧ stickyParams ([1] ++ textBytes "STEPPED" ++ [0, 0, 0]) = some [.stepped] ∧ stickyParams [0, 0, 0, 0] = some []
      ∧ stickyParams ([1] ++ textBytes "SLEPPED" ++ [0, 0, 0]) = none := by decide +kernel
/-- R157: in FREERUN y becomes the new I at once. -/
theorem test_preset : (after (.presetIntegrator 0 9 [0, 195, 80, 0]) served).tmu.y = 12800000 := by decide +kernel
theorem test_set_time :
    (after (.setTime 0 9 [0, 0, 0, 0, 0, 77, 59, 154, 201, 255]) served).tmu.site = ⟨77, 999999999⟩
      ∧ statusOf 0 (after (.setTime 0 9 [0, 0, 0, 0, 0, 77, 59, 154, 202, 0]) served) = some .badValue := by decide +kernel

/-- R123, R126: a step takes away the crossings it comes before, so the boundary it lands on is raised by the advance alone. -/
theorem test_step_takes_crossings :
    let s := after (.setTime 0 9 [0, 0, 0, 0, 0, 41, 0, 0, 0, 0]) { served with tmu := { served.tmu with crossed := ⟨some 8, ⟨some 8, none, none, none⟩⟩ } }
    s.tmu.crossed = {} ∧ exec (.siteSecondBoundary 41) s = .next s ∧ exec (.ppsEmission 0 41) s = .next s := ⟨by decide +kernel, rfl, rfl⟩

/-- That site at a site time with a message pending. -/
def timed (t : SiteTime) (m : Option PendingMessage) : State := { served with tmu := { served.tmu with site := t, message := m } }
/-- That site in UP or acquiring with the second it has just entered, in a timing state. -/
def entering (st : LinkState) (n : Nat) (last : Option Nat) (m : TimingState) : State :=
  { atLink st with tmu := { served.tmu with site := ⟨n, 0⟩, crossed := { second := some n }, lastSecond := last, timing := m } }
/-- That site with its pulse timer and an exchange's reply timer at numbers of local ms. -/
def waiting (pulse reply : Nat) : State :=
  { served with tmu := { served.tmu with pulseTimer := some pulse, exchange := some ⟨5, some 8, some ⟨⟨5, 77⟩, reply⟩⟩ } }
theorem witness_SourceAndBoundaryEvents :
    served.scu.site ≠ .loading ∧ (timed ⟨7, 12⟩ (some ⟨7, true⟩)).tmu.message = some ⟨7, true⟩ ∧ served.tmu.gnss.qual ≠ .disabled
      ∧ (waiting 1100 50).tmu.pulseTimer = some 1100 ∧ (waiting 1099 49).tmu.pulseTimer = some 1099
      ∧ served.tmu.crossed.second ≠ some 7 ∧ (entering .up 7 none .freerun).tmu.crossed.second = some 7
      ∧ (entering .up 7 none .freerun).tmu.lastSecond = none ∧ (entering .up 7 (some 7) .freerun).tmu.lastSecond = some 7
      ∧ (entering .up 7 (some 6) .holdover).tmu.timing = .holdover ∧ (entering .up 7 (some 6) .locked).tmu.timing ≠ .holdover
      ∧ (entering .acquiring 7 none .freerun).lkc.state ≠ .up ∧ served.tmu.link.qual ≠ .disabled
      ∧ (waiting 0 50).tmu.exchange.bind Exchange.sent = some ⟨⟨5, 77⟩, 50⟩
      ∧ (waiting 0 49).tmu.exchange.bind Exchange.sent = some ⟨⟨5, 77⟩, 49⟩ := by decide +kernel
theorem witness_SourceAndBoundaryEvents_messages : ∀ sec, (timed ⟨7, 12⟩ (some ⟨7, false⟩)).tmu.message ≠ some ⟨sec, true⟩ :=
  fun _ h => nomatch h
/-- R139, R141: an expiry that finds its timer short, the pulse or the reply having come first, yields nothing. -/
theorem test_stale_expiries :
    (after .pulseTimerExpiry (waiting 1100 0)).tmu.gnss.invalidRun = 1 ∧ exec .pulseTimerExpiry (waiting 0 0) = .next (waiting 0 0)
      ∧ (after .replyTimerExpiry (waiting 0 50)).tmu.exchange = none ∧ exec .replyTimerExpiry (waiting 0 49) = .next (waiting 0 49) :=
  ⟨by decide +kernel, rfl, by decide +kernel, rfl⟩
/-- R138: the capture less the stated second, within half a second of the nearest whole second. -/
theorem test_pulse_samples :
    [timed ⟨7, 12⟩ (some ⟨7, true⟩), timed ⟨7, 499999999⟩ (some ⟨7, true⟩), timed ⟨7, 500000000⟩ (some ⟨7, true⟩)].map
        (fun s => (after .gnssPulse s).tmu.gnss.last)
      = [some ⟨12, 0, 7⟩, some ⟨499999999, 0, 7⟩, some ⟨-500000000, 1, 7⟩] := by decide +kernel
theorem test_boundary_opens_exchange :
    (after (.siteSecondBoundary 7) (entering .up 7 (some 6) .holdover)).tmu.exchange = some ⟨7, none, none⟩
      ∧ (after (.siteSecondBoundary 7) (entering .up 7 (some 6) .holdover)).tmu.holdover = 1 := by decide +kernel

/-- That site with slot 1's output enabled, its shifted time having just entered second 9, with its generator. -/
def pulsing (g : PpsGen) : State :=
  let s := timed ⟨9, 0⟩ none
  { s with
    scu := { s.scu with tenants := some { contracts with s1 := { contracts.s1 with ppsOn := true, required := .none } } }
    tmu := { s.tmu with cls := .phase, pps := { s.tmu.pps with s1 := g }, crossed := { pulses := ⟨none, some 9, none, none⟩ } } }
theorem witness_PulsesAreEmitted :
    (pulsing {}).tmu.crossed.pulses.get 1 = some 9 ∧ served.tmu.crossed.pulses.get 1 ≠ some 9 ∧ (pulsing {}).mayEmit 1 = true
      ∧ (pulsing {}).tmu.crossed.pulses.get 0 = none ∧ served.mayEmit 1 = false
      ∧ (pulsing ⟨some 9, false, none, []⟩).tmu.pps.s1.lastEmitted = some 9
      ∧ (pulsing ⟨some 8, true, some 40, []⟩).tmu.pps.s1.high = true
      ∧ [0, 1].map (fun d => (pulsing ⟨some 9, false, none, [d, 0]⟩).tmu.pps.s1.delayed) = [0 :: [0], 1 :: [0]]
      ∧ (pulsing ⟨some 9, true, some 40, [1]⟩).tmu.pps.s1.high = true ∧ (pulsing {}).tmu.pps.s1.delayed = []
      ∧ [99, 100].map (fun w => (pulsing ⟨some 9, true, some w, []⟩).tmu.pps.s1.timer) = [some 99, some 100] := by decide +kernel
theorem witness_PulsesAreEmitted_off :
    let s := { pulsing {} with scu := served.scu }
    s.tmu.crossed.pulses.get 1 = some 9 ∧ s.mayEmit 1 = false := by decide +kernel
theorem test_pulse_once :
    (after (.ppsEmission 1 9) (pulsing {})).tmu.pps.s1 = ⟨some 9, true, some 0, []⟩
      ∧ (after (.ppsEmission 1 9) (pulsing ⟨some 9, false, none, []⟩)).tmu.pps.s1 = ⟨some 9, false, none, []⟩ := by decide +kernel
/-- R125: three seconds entered within one local millisecond of a pulse. The second goes out at once, and the first and the third, each
driven off by the pulse before it, each have a leading edge of their own when they have waited. -/
theorem test_pulses_each_emitted :
    let entered := ({ lastEmitted := some 9, high := true, timer := some 0 } : PpsGen).pulse.pulse.pulse
    let first := entered.tick.delayedPulse
    let third := first.delayedPulse.tick.delayedPulse
    [entered, first, first.delayedPulse, third].map (fun g => (g.high, g.delayed))
      = [(false, [0, 0]), (true, [1]), (false, [0]), (true, [])] := by decide +kernel

/-- R127: suspended, or with its PPS off, the slot gives up the pulses waiting; the pulse that is high runs on. -/
theorem test_pulses_given_up :
    [after (.setSlotState 0 9 ([1] ++ textBytes "SUSPENDED")) (pulsing ⟨some 9, true, some 40, [1, 0]⟩),
      after (.writeTuning 0 9 ([1, 0, 0, 0, 1] ++ textBytes "off" ++ [0, 0])) (pulsing ⟨some 9, true, some 40, [1, 0]⟩),
      after (.writeTuning 0 9 [1, 1, 9, 0, 0, 0, 0, 0]) (pulsing ⟨some 9, true, some 40, [1, 0]⟩)].map (fun s => s.tmu.pps.s1)
      = [⟨some 9, true, some 40, []⟩, ⟨some 9, true, some 40, []⟩, ⟨some 9, true, some 40, [1, 0]⟩] := by decide +kernel

/-- That site with GNSS QUALIFIED and selected, a message of second 7 pending, at `ns` past or before that second, in a timing state. -/
def sampling (ns : Int) (m : TimingState) (h : List Mark) : State :=
  let s := timed (timeOfNs (7000000000 + ns)) (some ⟨7, true⟩)
  { s with tmu := { s.tmu with
    gnss := { s.tmu.gnss with qual := .qualified, validRun := 8 }, selected := some .gnss, timing := m, history := h,
    cls := if m = .locked then .phase else .none, everLocked := decide (m = .locked) } }
theorem witness_SamplesMoveTheTimingState :
    (sampling 12 .acquiring []).scu.site ≠ .loading ∧ (sampling 12 .acquiring []).tmu.message = some ⟨7, true⟩
      ∧ (sampling 12 .acquiring []).tmu.gnss.qual = .qualified ∧ (sampling 12 .acquiring []).tmu.selected = some .gnss
      ∧ [2000, 2001].map (fun n => decide ((sampling n .acquiring []).tmu.params.stepLimit
            < (gnssSample (sampling n .acquiring []).tmu.site 7).error.natAbs)) = [false, true]
      ∧ [1000, 1001].map (fun n => decide ((sampling n .locked []).tmu.params.outlierLimit
            < (gnssSample (sampling n .locked []).tmu.site 7).error.natAbs)) = [false, true]
      ∧ (gnssSample (sampling 600000000 .acquiring []).tmu.site 7).mismatch ≠ 0
      ∧ (sampling 0 .freerun []).tmu.timing = .freerun := by decide +kernel
theorem witness_SamplesMoveTheTimingState_selection :
    (sampling 0 .locked []).tmu.selection = (sampling 0 .locked []).tmu.selected
      ∧ (let t := { sampling 0 .locked [] with tmu := { (sampling 0 .locked []).tmu with gnss := {} } }
         t.tmu.selection ≠ t.tmu.selected ∧ t.tmu.selection = none)
      ∧ (let t := { sampling 0 .freerun [] with tmu := { (sampling 0 .freerun []).tmu with selected := none } }
         t.tmu.selection ≠ t.tmu.selected ∧ t.tmu.selection.isSome = true) := by decide +kernel
/-- R147, R150, R151: at the step limit applied, above it a step; the eighth mark INSIDE locks, one of 101 ns does not. -/
theorem test_sample_acquiring :
    ([2000, 2001].map fun n => let t := (after .gnssPulse (sampling n .acquiring [])).tmu; (t.site, t.history, t.sticky.stepped))
        = [(⟨7, 2000⟩, [.outside], false), (⟨7, 0⟩, [], true)]
      ∧ ([100, 101].map fun n => (after .gnssPulse (sampling n .acquiring (List.replicate 7 .inside))).tmu.timing) = [.locked, .acquiring] := by
  decide +kernel
/-- R148, R151: above the outlier limit nothing is applied and the flag is set; fewer than five INSIDE of eight return to ACQUIRING. -/
theorem test_sample_locked :
    ([1000, 1001].map fun n => let t := (after .gnssPulse (sampling n .locked (List.replicate 8 .inside))).tmu; (t.integ ≠ 0, t.sticky.outlierSeen))
        = [(True, false), (False, true)]
      ∧ ([5, 4].map fun n => let t := (after .gnssPulse (sampling 101 .locked (List.replicate n .inside ++ List.replicate 3 .outside))).tmu
          (t.timing, t.history.length)) = [(.locked, 8), (.acquiring, 0)] := by
  refine ⟨?_, by decide +kernel⟩
  simp only [List.map, List.cons.injEq, Prod.mk.injEq, eq_iff_iff]
  decide +kernel

/-- That site with an exchange of second 500 whose request has left at the t1 of the manual's example, at its t4. -/
def exchanging (q : Qualification) (r : Option ExchangeSent) : State :=
  { served with tmu := { served.tmu with
    site := ⟨500, 1340700⟩, exchange := some ⟨500, some 8, r⟩, link := { served.tmu.link with qual := q } } }
/-- The example's reply, echoing a t1. -/
def replying (echo : SiteTime) (valid : Bool) : FarFrame :=
  { bare true 100 with reply := some ⟨echo, ⟨500, 1220400⟩, ⟨500, 1320400⟩, valid⟩ }
theorem witness_TimeRepliesTaken :
    served.lkc.state = .up ∧ (exchanging .unqualified (some ⟨⟨500, 1200000⟩, 3⟩)).tmu.exchange = some ⟨500, some 8, some ⟨⟨500, 1200000⟩, 3⟩⟩
      ∧ (exchanging .unqualified none).tmu.exchange = some ⟨500, some 8, none⟩ ∧ (⟨500, 1200000⟩ : SiteTime) ≠ ⟨500, 1200001⟩
      ∧ linkOutcome 500 ⟨500, 1200000⟩ ⟨500, 1340700⟩ ⟨⟨500, 1200000⟩, ⟨500, 1220400⟩, ⟨500, 1320400⟩, false⟩ 350 = none
      ∧ (exchanging .disabled none).tmu.link.qual = .disabled ∧ (exchanging .qualified none).tmu.link.qual = .qualified
      ∧ served.tsu.queued = [] ∧ served.scu.site ≠ .bringup := by decide +kernel
/-- R143's example at +350 ns of asymmetry; a reply with another echo is discarded, an invalid one ends the exchange with no sample. -/
theorem test_reply_taken :
    [(after (.farFrame (replying ⟨500, 1200000⟩ true)) (exchanging .unqualified (some ⟨⟨500, 1200000⟩, 3⟩))),
      (after (.farFrame (replying ⟨500, 1200001⟩ true)) (exchanging .unqualified (some ⟨⟨500, 1200000⟩, 3⟩))),
      (after (.farFrame (replying ⟨500, 1200000⟩ false)) (exchanging .unqualified (some ⟨⟨500, 1200000⟩, 3⟩)))].map
        (fun s => (s.tmu.link.last.map Sample.error, s.tmu.pathDelay, s.tmu.exchange.isSome, s.tmu.link.invalidRun))
      = [(some 125, some 20350, false, 0), (none, none, true, 0), (none, none, false, 1)] := by decide +kernel

/-- R136: while LINK is DISABLED a valid sample sets the last sample alone; the last path delay of 77 ns stands. -/
theorem test_reply_disabled :
    (let s := exchanging .disabled (some ⟨⟨500, 1200000⟩, 3⟩)
     let t := after (.farFrame (replying ⟨500, 1200000⟩ true)) { s with tmu := { s.tmu with pathDelay := some 77 } }
     (t.tmu.link.last.map Sample.error, t.tmu.pathDelay, t.tmu.exchange, t.tmu.link.validRun)) = (some 125, some 77, none, 0) := by
  decide +kernel
/-- That exchange at its reply, LINK QUALIFIED and selected, in a timing state. -/
def linkSampling (m : TimingState) (h : List Mark) : State :=
  let s := exchanging .qualified (some ⟨⟨500, 1200000⟩, 3⟩)
  { s with tmu := { s.tmu with
    selected := some .link, timing := m, history := h, link := { s.tmu.link with validRun := 8 },
    cls := if m = .locked then .phase else .none, everLocked := decide (m = .locked) } }
theorem witness_SamplesMoveTheTimingState_link :
    (linkSampling .acquiring []).tmu.selected = some .link ∧ ((linkSampling .acquiring []).tmu.source .link).qual = .qualified
      ∧ (linkSampling .acquiring []).lkc.state = .up
      ∧ (linkSampling .acquiring []).tmu.exchange.bind Exchange.sent = some ⟨⟨500, 1200000⟩, 3⟩
      ∧ replying ⟨500, 1200000⟩ true = ⟨true, 100, [], some ⟨⟨500, 1200000⟩, ⟨500, 1220400⟩, ⟨500, 1320400⟩, true⟩, none, none⟩
      ∧ linkOutcome 500 ⟨500, 1200000⟩ (linkSampling .acquiring []).tmu.site ⟨⟨500, 1200000⟩, ⟨500, 1220400⟩, ⟨500, 1320400⟩, true⟩
          (((linkSampling .acquiring []).lkc.ladder.map Ladder.asymmetry).getD 0) = some (⟨125, 0, 500⟩, 20350) := by decide +kernel
/-- R152 on LINK's sample of +125 ns: I = 125 × 4 and y = I + 125 × 64 by the ACQUIRE bank, I = 31 and y = I + 2,000 by the TRACK bank,
125 ns being outside the window of 100; in FREERUN nothing is applied. -/
theorem test_link_sample_applied :
    [linkSampling .acquiring [], linkSampling .locked (List.replicate 8 .inside), linkSampling .freerun []].map (fun s =>
        let t := (after (.farFrame (replying ⟨500, 1200000⟩ true)) s).tmu; (t.integ, t.y, t.timing, t.history))
      = [(500, 8500, .acquiring, [.outside]), (31, 2031, .locked, .outside :: List.replicate 7 .inside), (0, 0, .freerun, [])] := by
  decide +kernel

/-- R153's halves: 5/2 and 7/2 go to the even neighbour, or toward zero. -/
theorem test_divRound :
    [divRound .nearestEven 5 1, divRound .nearestEven 7 1, divRound .nearestEven (-5) 1, divRound .towardZero (-7) 1] = [2, 4, -2, -3] := by
  decide +kernel
theorem witness_DisciplineArithmetic :
    (2 * (5 - divRound .nearestEven 5 1 * 2 ^ 1)).natAbs = 2 ^ 1 ∧ (⟨⟨0, 0⟩, ⟨0, 10⟩, ⟨0, 10⟩, true⟩ : TimeReply).valid = true
      ∧ 0 ≤ (10 : Int) + 10 := by decide +kernel
theorem witness_RecordsStayBounded_class :
    served.loadingQuiet ∧ served.classDerived ∧ step (State.withQueue served [.gnssPulse]) = .next (stepped (State.withQueue served [.gnssPulse])) :=
  ⟨by unfold State.loadingQuiet; decide +kernel, by unfold State.classDerived; decide +kernel, stepped_of_goes rfl (by decide +kernel)⟩

/-! ### Test orders -/

theorem witness_OrdersArePlacedAndWithdrawn :
    served.standing 0 = true ∧ served.noIdleQueue ∧ testParams (textBytes "LINK_LOOP" ++ [5]) = some (.linkLoop 5)
      ∧ served.holds 0 .testShared = true ∧ served.tsu.orders.length < 8 ∧ served.tsu.running = none ∧ served.startable (.linkLoop 5) = true
      ∧ (atLink .acquiring).startable (.linkLoop 5) = false ∧ (atLink .acquiring).tsu.orders = [] ∧ (atLink .acquiring).scu.site ≠ .bringup
      ∧ (atLink .acquiring).tsu.nextSeq = some 1 ∧ (atLink .acquiring).noIdleQueue := by
  unfold State.noIdleQueue; decide +kernel
/-- A queue with a running order and queued ones behind it, of slot 0 and of slot 1. -/
def queue (n : Nat) : State :=
  let s := running (.linkLoop 5) (.linkLoop {})
  { s with
    tsu := { s.tsu with queued := (List.range n).map fun i => ⟨20 + i, if i = 0 then .slot 1 else .slot 0, .linkLoop 1⟩ }
    sli := { s.sli with access := { s.sli.access with s1 := { testOwn := true } } } }
theorem witness_OrdersArePlacedAndWithdrawn_cancel :
    (queue 7).tsu.orders.length = 8 ∧ (queue 0).tsu.running.isSome = true ∧ numParam 1 [20] = some 20 ∧ numParam 1 [0] = some 0
      ∧ (queue 2).tsu.orders.find? (fun x => decide (x.id = 21)) = some ⟨21, .slot 0, .linkLoop 1⟩
      ∧ (queue 2).holds 1 .testShared = false ∧ (queue 2).holds 1 .testOwn = true
      ∧ (queue 2).tsu.orders.find? (fun x => decide (x.id = 20)) = some ⟨20, .slot 1, .linkLoop 1⟩
      ∧ (∀ o ∈ (queue 2).tsu.orders, o.id ≠ 99) ∧ (queue 0).tsu.queued = [] ∧ (queue 0).tsu.nextSeq = some 1
      ∧ (holding .looping none (some .timeout) []).loopProgress.bind LoopProgress.decided = some .timeout
      ∧ (holding .looping none none []).loopProgress.map LoopProgress.decided = some none := by decide +kernel
theorem test_cancel_cases :
    [statusOf 0 (after (.cancelTest 0 9 [0]) (queue 2)), statusOf 0 (after (.cancelTest 0 9 [99]) (queue 2)),
      statusOf 1 (after (.cancelTest 1 9 [21]) (queue 2)), statusOf 1 (after (.cancelTest 1 9 [20]) (queue 2)),
      statusOf 0 (after (.cancelTest 0 9 [7]) (holding .looping none (some .timeout) []))]
      = [some .badValue, some .notFound, some .denied, some .ok, some .busy] := by decide +kernel
theorem test_order_full : statusOf 0 (after (.orderTest 0 9 (textBytes "LINK_LOOP" ++ [5])) (queue 7)) = some .full := by decide +kernel

/-- R163: TEST_OWN alone, for a PORT_LOOP on the slot itself, on another slot, and for another kind. -/
theorem witness_OrdersArePlacedAndWithdrawn_own :
    (queue 0).standing 1 = true ∧ (queue 0).noIdleQueue ∧ (queue 0).holds 1 .testShared = false ∧ (queue 0).holds 1 .testOwn = true
      ∧ testParams (textBytes "PORT_LOOP" ++ [1, 0, 3, 0, 100]) = some (.portLoop 1 3 100) ∧ (queue 0).tsu.running.isSome = true
      ∧ testParams (textBytes "PORT_LOOP" ++ [2, 0, 3, 0, 100]) = some (.portLoop 2 3 100) := by
  unfold State.noIdleQueue; decide +kernel
theorem test_order_own :
    [textBytes "PORT_LOOP" ++ [1, 0, 3, 0, 100], textBytes "PORT_LOOP" ++ [2, 0, 3, 0, 100], textBytes "LINK_LOOP" ++ [5]].map
        (fun ps => statusOf 1 (after (.orderTest 1 9 ps) (queue 0))) = [some .ok, some .denied, some .denied] := by decide +kernel

/-- An AIR_PATTERN of 200 PB at 60 a frame over at most 5 frames with 3 errored allowed, with its progress, on that site in UP at rung 3. -/
def patterning (p : AirProgress) : State :=
  let s := running (.airPattern 200 60 5 3) (.airPattern p)
  { s with lkc := { s.lkc with rung := 3 } }
/-- R181: a queued order of slot 1 and one of slot 0 behind the running one of slot 0; each row of the table on its own. -/
theorem witness_SlotResetAndClearCounters_orders :
    (queue 0).standing 0 = true ∧ (queue 0).tsu.running = some ⟨⟨7, .slot 0, .linkLoop 5⟩, .linkLoop {}⟩ ∧ (queue 0).tsu.queued = []
      ∧ (patterning {}).tsu.running.map (fun r => r.order.requester) = some (.slot 0) ∧ (patterning {}).tsu.nextSeq = some 1
      ∧ (portLooping 2 1 3).loopSubject = some 1 ∧ Requester.slot 0 ≠ .slot 1 ∧ (portLooping 2 1 3).holds 0 .siteControl = true
      ∧ (holding .looping none none []).tsu.running.map (fun r => r.order.requester) = some (.slot 0)
      ∧ (holding .looping none none []).loopProgress.map (fun p => (p.held, p.decided)) = some (true, none)
      ∧ (holding .loopExit (some .loopOff) (some .timeout) []).loopProgress.map (fun p => (p.held, p.decided)) = some (true, some .timeout)
      ∧ (queue 2).loopSubject ≠ some 1 ∧ (queue 2).tsu.queued.map Order.requester = [.slot 1, .slot 0]
      ∧ (queue 2).scu.site ≠ .bringup := by decide +kernel
/-- R181: the orders a reset of a slot leaves, by id, and the outcomes it logs. -/
theorem test_slot_reset_orders :
    [(0, queue 0), (0, patterning {}), (1, portLooping 2 1 3), (1, queue 2), (0, holding .looping none none [])].map
        (fun x => let t := after (.tenantReset 0 9 [x.1]) x.2; (t.tsu.orders.map Order.id, t.tsu.log.map LogEntry.outcome))
      = [([], [.aborted .tenantReset]), ([], [.aborted .tenantReset]), ([], [.aborted .tenantReset]), ([7, 21], []), ([7], [])] := by
  decide +kernel
/-- R41, R176: the early end by phase: marked in HOLD_PENDING, LOOP_OFF at once in LOOP_ENTRY and LOOPING, nothing in LOOP_EXIT. -/
theorem witness_OrdersArePlacedAndWithdrawn_phases :
    (holding (.holdPending 1 false) none none []).lkc.state = .held (.holdPending 1 false)
      ∧ (holding .loopEntry (some .loopOn) none []).lkc.outstanding = some ⟨.loopOn, 20, 20, 4⟩
      ∧ (holding .looping none none []).lkc.outstanding = none ∧ (holding .loopExit (some .loopOff) none []).lkc.state = .held .loopExit := by
  decide +kernel
theorem test_loop_ends_early :
    [Instr.cancelTest 0 9 [7], .tenantReset 0 9 [0]].map (fun c =>
        [holding (.holdPending 1 false) none none [], holding .loopEntry (some .loopOn) none [], holding .looping none none [],
          holding .loopExit (some .loopOff) none []].map fun s => let t := after c s; (t.lkc.state, t.emitted, t.lkc.late.loopOn))
      = List.replicate 2 [(.held (.holdPending 1 true), [], 0), (.held .loopExit, [.odu .loopOff], 1), (.held .loopExit, [.odu .loopOff], 0),
          (.held .loopExit, [], 0)] := by decide +kernel

theorem witness_PortLoopRuns :
    served.loopSubject = none
      ∧ (portLooping 2 1 3).tsu.running = some ⟨⟨7, .slot 0, .portLoop 1 3 100⟩, .portLoop { sent := 2, returned := 1, timer := 3 }⟩
      ∧ (portLooping 2 2 2).tsu.running = some ⟨⟨7, .slot 0, .portLoop 1 3 100⟩, .portLoop { sent := 2, returned := 2, timer := 2 }⟩
      ∧ [1999, 2000].map (fun n => (portLooping 3 2 n).tsu.running.map Running.progress)
          = [some (.portLoop { sent := 3, returned := 2, timer := 1999 }), some (.portLoop { sent := 3, returned := 2, timer := 2000 })]
      ∧ (portLooping 2 1 3).tsu.queued = [] ∧ (portLooping 2 1 3).scu.site ≠ .bringup ∧ (portLooping 2 1 3).tsu.nextSeq = some 1
      ∧ (⟨7, 2, 100, false⟩ : TestPacket) ≠ ⟨7, 2, 100, true⟩ ∧ (⟨6, 2, 100, true⟩ : TestPacket).order ≠ 7 := by decide +kernel
theorem witness_PortLoopRuns_kinds : ∀ r, served.tsu.running = some r → r.ofKind = true := by intro r h; cases h
theorem test_port_loop_ends :
    [after (.portLoopReturn ⟨7, 2, 100, true⟩) (portLooping 3 2 3), after (.portLoopReturn ⟨7, 2, 100, false⟩) (portLooping 3 2 3),
      after .loopTimerExpiry (portLooping 3 2 2000)].map
        (fun s => s.tsu.log.map fun e => (e.outcome, e.measures.pbSent, e.measures.mismatched))
      = [[(.pass, some 6, some 0)], [(.fail, some 6, some 1)], [(.timeout, some 6, some 0)]] := by decide +kernel
/-- R169: a return of an order that has ended, and an expiry left from it, do nothing to the one that runs now. -/
theorem test_port_loop_strays :
    exec (.portLoopReturn ⟨6, 2, 100, true⟩) (portLooping 3 2 3) = .next (portLooping 3 2 3)
      ∧ exec .loopTimerExpiry (portLooping 3 2 0) = .next (portLooping 3 2 0) := ⟨rfl, rfl⟩

theorem witness_AirPatternRuns :
    (patterning { sent := 120, used := 2, awaiting := [⟨9, 60, 7⟩, ⟨10, 60, 1⟩] }).tsu.running
        = some ⟨⟨7, .slot 0, .airPattern 200 60 5 3⟩, .airPattern { sent := 120, used := 2, awaiting := [⟨9, 60, 7⟩, ⟨10, 60, 1⟩] }⟩
      ∧ (patterning {}).lkc.state = .up ∧ (patterning {}).lkc.notice = none ∧ (patterning {}).lkc.voided = none
      ∧ (patterning {}).tsu.queued = [] ∧ (patterning {}).scu.site ≠ .bringup ∧ (patterning {}).tsu.nextSeq = some 1
      ∧ (∀ w ∈ [(⟨9, 60, 7⟩ : Awaiting), ⟨10, 60, 1⟩], w.frame ≠ 11)
      ∧ [(⟨9, 60, 7⟩ : Awaiting), ⟨10, 60, 1⟩].find? (fun w => decide (w.frame = 10)) = some ⟨10, 60, 1⟩
      ∧ (patterning {}).mayAsk 0 .linkControl := by
  unfold State.mayAsk; decide +kernel
/-- The progress a command leaves an AIR_PATTERN, or how it ended. -/
def patternLeft (c : Instr) (p : AirProgress) : Option Progress × List (TestOutcome × Option Nat) :=
  let t := after c (patterning p)
  (t.tsu.running.map Running.progress, t.tsu.log.map fun e => (e.outcome, e.measures.pbErrored))
/-- A far frame that reports a frame's pattern PB received and errored. -/
def reporting (frame received errored : Nat) : Instr := .farFrame ⟨true, 100, [], none, some ⟨frame, received, errored⟩, none⟩
/-- R171 to R173: a fill sends 60 of the 146 PB of room over the commitments and counts the frame of eight fills errored; a fifth frame with
PB unsent ends INCOMPLETE. -/
theorem test_pattern_fills :
    patternLeft .frameFill { sent := 60, used := 2, awaiting := [⟨9, 60, 7⟩] }
        = (some (.airPattern { sent := 120, used := 3, errored := 60, awaiting := [⟨1, 60, 0⟩] }), [])
      ∧ patternLeft .frameFill { sent := 60, used := 4 } = (none, [(.incomplete, some 0)]) := by decide +kernel
/-- R171, R173: errored PB and those not received both count; at the limit of 3 PASS, above it FAIL. -/
theorem test_pattern_reports :
    [patternLeft (reporting 9 59 2) { sent := 200, used := 4, awaiting := [⟨9, 60, 2⟩] },
      patternLeft (reporting 9 59 3) { sent := 200, used := 4, awaiting := [⟨9, 60, 2⟩] },
      patternLeft (reporting 8 59 3) { sent := 200, used := 4, awaiting := [⟨9, 60, 2⟩] }]
      = [(none, [(.pass, some 3)]), (none, [(.fail, some 4)]), (some (.airPattern { sent := 200, used := 4, awaiting := [⟨9, 60, 2⟩] }), [])] := by
  decide +kernel
theorem test_pattern_link_lost : (patternLeft (.linkRestart 0 9 []) {}).2 = [(.aborted .linkLost, some 0)] := by decide +kernel

/-- That AIR_PATTERN's site with its sync-miss and low-margin runs. -/
def weakening (miss low : Nat) : State := { patterning {} with lkc := { (patterning {}).lkc with syncMiss := miss, lowRun := low } }
theorem witness_AirPatternRuns_lost :
    (weakening 15 0).tsu.running = some ⟨⟨7, .slot 0, .airPattern 200 60 5 3⟩, .airPattern {}⟩ ∧ (weakening 15 0).lkc.state = .up
      ∧ 16 ≤ (weakening 15 0).lkc.syncMiss + 1 ∧ (bare false 0).sync = false ∧ (weakening 0 199).lkc.far = none
      ∧ (weakening 0 199).rungs[0]? = some ⟨120, 0, 12⟩ ∧ (weakening 0 199).lkc.lossLimit ≤ (weakening 0 199).lkc.lowRun + 1
      ∧ (weakening 0 200).lkc.lossLimit ≤ (weakening 0 200).lkc.lowRun := by decide +kernel
/-- R36, R37, R173: the sixteenth miss, the 200th low report and a run already at its limit end the pattern; one short of each does not. -/
theorem test_pattern_link_losses :
    [after .missingFarFrame (weakening 15 0), after (.farFrame (bare false 0)) (weakening 15 0), after (.statusReport 11) (weakening 0 199),
      after .missingStatusReport (weakening 0 199), after (.statusReport 400) (weakening 0 200), after .missingFarFrame (weakening 14 0),
      after (.statusReport 11) (weakening 0 198), after (.statusReport 12) (weakening 0 199)].map (fun s => s.tsu.log.map LogEntry.outcome)
      = List.replicate 5 [.aborted .linkLost] ++ List.replicate 3 [] := by decide +kernel

/-- A TIME_COMPARE of 3 comparisons within 50 ns, with its progress, at a site time with a message and the second just entered. -/
def comparing (p : CompareProgress) : State :=
  let s := running (.timeCompare 3 50) (.timeCompare p)
  { s with tmu := { s.tmu with
    site := ⟨7, 12⟩, message := some ⟨7, true⟩, pulseTimer := some 1100, crossed := { second := some 7 },
    gnss := { s.tmu.gnss with qual := .qualified, invalidRun := 2 }, link := { s.tmu.link with qual := .qualified } } }
theorem witness_TimeCompareRuns :
    (comparing {}).tsu.running = some ⟨⟨7, .slot 0, .timeCompare 3 50⟩, .timeCompare {}⟩
      ∧ (∀ y, ({} : CompareProgress).heldOf Source.gnss.other = some y → y.second ≠ 7)
      ∧ ({ heldLink := some ⟨-38, 0, 7⟩ } : CompareProgress).heldOf Source.gnss.other = some ⟨-38, 0, 7⟩
      ∧ ({ heldLink := some ⟨-38, 1, 7⟩ } : CompareProgress).heldOf Source.gnss.other = some ⟨-38, 1, 7⟩ ∧ (1 : Int) ≠ 0
      ∧ (comparing {}).scu.site ≠ .loading ∧ (comparing {}).tmu.message = some ⟨7, true⟩ ∧ (comparing {}).tmu.gnss.qual = .qualified
      ∧ (comparing {}).tmu.exchange = none ∧ (comparing {}).tsu.queued = [] ∧ (comparing {}).scu.site ≠ .bringup
      ∧ (comparing {}).tmu.crossed.second = some 7 ∧ (comparing {}).tmu.lastSecond = none ∧ (comparing {}).tmu.gnss.invalidRun = 2
      ∧ (comparing {}).tmu.pulseTimer = some 1100 ∧ (comparing {}).tsu.nextSeq = some 1 := by
  refine ⟨rfl, ?_, ?_⟩
  · rintro y ⟨⟩
  · decide +kernel
/-- That site with an exchange's reply timer run out, at LINK's third outcome that is not valid. -/
def linkFading (p : CompareProgress) : State :=
  let s := comparing p
  { s with tmu := { s.tmu with exchange := some ⟨7, some 8, some ⟨⟨7, 1⟩, 50⟩⟩, link := { s.tmu.link with invalidRun := 2 } } }
theorem witness_TimeCompareRuns_leaving :
    (linkFading {}).tmu.link.qual = .qualified ∧ (linkFading {}).tmu.link.invalidRun = 2
      ∧ (linkFading {}).tmu.exchange = some ⟨7, some 8, some ⟨⟨7, 1⟩, 50⟩⟩ ∧ (comparing {}).mayAsk 0 .timeControl
      ∧ priorityParams (textBytes "LINK" ++ [0]) = some (.link, 0) ∧ ((comparing {}).tmu.source .link).qual = .qualified
      ∧ (50 : Nat) < 1000000000 := by
  unfold State.mayAsk; decide +kernel
/-- R178, R179: LINK's third missing outcome and its priority 0 end the order; a seconds mismatch logs 1,000,000,000 ns. -/
theorem test_compare_link :
    [after .replyTimerExpiry (linkFading { made := 1, maxDiff := 4 }), after (.setSourcePriority 0 9 (textBytes "LINK" ++ [0])) (comparing {}),
      tsuSample .gnss ⟨5, 1, 7⟩ (comparing { heldLink := some ⟨5, 0, 7⟩ })].map
        (fun s => s.tsu.log.map fun e => (e.outcome, e.measures.maxDiff))
      = [[(.incomplete, some 4)], [(.incomplete, none)], [(.fail, some 1000000000)]] := by decide +kernel
/-- How a command ends a TIME_COMPARE with that progress, and the comparisons it leaves. -/
def compareEnds (c : Instr) (p : CompareProgress) : List (TestOutcome × Option Nat) :=
  (after c (comparing p)).tsu.log.map fun e => (e.outcome, e.measures.maxDiff)
/-- R178, R179: the pulse's sample of +12 ns against one of −38 ns differs by the limit of 50, and by more against one of −39 ns. -/
theorem test_compare :
    [compareEnds .gnssPulse { made := 2, heldLink := some ⟨-38, 0, 7⟩ }, compareEnds .gnssPulse { made := 2, heldLink := some ⟨-39, 0, 7⟩ },
      compareEnds .gnssPulse { made := 1, heldLink := some ⟨-38, 0, 7⟩ }, compareEnds .gnssPulse { made := 2, heldLink := some ⟨-39, 0, 6⟩ }]
      = [[(.pass, some 50)], [(.fail, some 51)], [], []] := by decide +kernel
/-- R178: the sixth boundary ends three comparisons INCOMPLETE, the fifth does not; GNSS leaving QUALIFIED does. -/
theorem test_compare_boundaries :
    [compareEnds (.siteSecondBoundary 7) { boundaries := 5 }, compareEnds (.siteSecondBoundary 7) { boundaries := 4 },
      compareEnds .pulseTimerExpiry { made := 1, maxDiff := 4 }]
      = [[(.incomplete, none)], [], [(.incomplete, some 4)]] := by decide +kernel

end Sys2Proof.Tests
end

/-! Event sets and the records of the orders: what raising a kind does to a pending set, and the moves of which every operation over the
orders and the site is made (chapters 1 and 9). -/

namespace Sys2Proof.Machine

open Sys2Proof

/-! ## Event sets (R204) -/

theorem EventSet.has_put (S : EventSet) (e x : EventKind) (b : Bool) : (S.put e b).has x = if x = e then b else S.has x := by
  cases e <;> cases x <;> rfl

theorem EventSet.has_empty (e : EventKind) : ({} : EventSet).has e = false := by cases e <;> rfl

/-- Whether a kind is pending in a slot. -/
def State.pends (s : State) (k : Slot) (e : EventKind) : Bool := (s.sli.events.get k).pending.has e

theorem pends_of_events {s t : State} (h : t.sli.events = s.sli.events) (k : Slot) (e : EventKind) : t.pends k e = s.pends k e := by
  simp [State.pends, h]

theorem pends_raiseIn (s : State) (e x : EventKind) (j k : Slot) :
    (raiseIn e j s).pends k x = (s.pends k x || decide (k = j ∧ x = e)) := by
  unfold State.pends raiseIn
  by_cases hk : k = j
  · subst hk
    by_cases hx : x = e <;> simp [EventRec.raise, EventRec.drive, EventSet.has_put, hx]
  · simp [PerSlot.get_modify_ne _ hk, hk]

theorem pends_raiseAll (s : State) (e x : EventKind) (k : Slot) : (raiseAll e s).pends k x = (s.pends k x || decide (x = e)) := by
  unfold State.pends raiseAll
  by_cases hx : x = e <;> simp [EventRec.raise, EventRec.drive, EventSet.has_put, hx]

/-- What a raising does to an event record: the enable set stands, and the line follows the two sets (R205). -/
theorem raiseIn_event (s : State) (e : EventKind) (j k : Slot) :
    ((raiseIn e j s).sli.events.get k).enabled = (s.sli.events.get k).enabled
      ∧ ((s.sli.events.get k).attention = attentionLevel (s.sli.events.get k).pending (s.sli.events.get k).enabled →
          ((raiseIn e j s).sli.events.get k).attention
            = attentionLevel ((raiseIn e j s).sli.events.get k).pending ((raiseIn e j s).sli.events.get k).enabled) := by
  unfold raiseIn
  by_cases hk : k = j
  · subst hk; simp [EventRec.raise, EventRec.drive]
  · simp [PerSlot.get_modify_ne _ hk]

theorem raiseAll_event (s : State) (e : EventKind) (k : Slot) :
    ((raiseAll e s).sli.events.get k).enabled = (s.sli.events.get k).enabled
      ∧ ((raiseAll e s).sli.events.get k).attention
          = attentionLevel ((raiseAll e s).sli.events.get k).pending ((raiseAll e s).sli.events.get k).enabled := by
  simp [raiseAll, EventRec.raise, EventRec.drive]

/-! ## Inhibit lines (R18, R19) -/

/-- Recomputed lines stand at their levels. -/
theorem recomputeInhibit_right (s : State) : (recomputeInhibit s).inhibitsRight := by
  intro k
  simp [recomputeInhibit, State.inhibitLevel, State.slotEnabled, State.slotState, State.tenant]

theorem setSiteState_right (st : SiteState) (s : State) : (setSiteState st s).inhibitsRight := recomputeInhibit_right _

@[simp] theorem setSiteState_site (st : SiteState) (s : State) : (setSiteState st s).scu.site = st := by
  simp [setSiteState]

theorem pends_setSiteState (st : SiteState) (s : State) (k : Slot) (e : EventKind) :
    (setSiteState st s).pends k e = (s.pends k e || decide (e = .siteState)) := by
  unfold setSiteState
  rw [pends_of_events (s := raiseAll .siteState (s.updScu fun c => { c with site := st })) (by simp), pends_raiseAll]
  rfl

/-- States with the same records, fitness, site and lines have their lines right together. -/
theorem inhibitsRight_congr {s t : State} (hs : t.scu.site = s.scu.site) (ht : t.scu.tenants = s.scu.tenants)
    (hf : t.scu.fit = s.scu.fit) (hi : t.scu.inhibit = s.scu.inhibit) (h : s.inhibitsRight) : t.inhibitsRight := by
  intro k
  simpa [State.inhibitLevel, State.slotEnabled, State.slotState, State.tenant, hs, ht, hf, hi] using h k

theorem fitnessRight_congr {s t : State} (ht : t.scu.tenants = s.scu.tenants) (hf : t.scu.fit = s.scu.fit)
    (hc : t.tmu.cls = s.tmu.cls) (h : s.fitnessRight) : t.fitnessRight := by
  intro ts hts k
  rw [ht] at hts
  rw [hf, hc]
  exact h ts hts k

/-! ## The bounds of the test record (R161, R162) -/

/-- At most 8 orders with distinct ids, and at most 16 log entries. -/
def Tsu.bounded (t : Tsu) : Prop := t.orders.length ≤ 8 ∧ (t.orders.map Order.id).Nodup ∧ t.log.length ≤ 16

theorem ordersBounded_iff (s : State) : s.ordersBounded ↔ s.tsu.bounded := Iff.rfl

/-- No order waits while none runs. -/
def Tsu.noIdle (t : Tsu) : Prop := t.running = none → t.queued = []

theorem noIdleQueue_iff (s : State) : s.noIdleQueue ↔ s.tsu.noIdle := Iff.rfl

/-- A record with fewer orders, in their order, and no longer a log keeps the bounds. -/
theorem Tsu.bounded_of_sublist {t u : Tsu} (ho : u.orders.Sublist t.orders) (hl : u.log.length ≤ t.log.length) (h : t.bounded) :
    u.bounded :=
  ⟨ho.length_le.trans h.1, h.2.1.sublist (ho.map _), hl.trans h.2.2⟩

/-- The same orders and log keep the bounds. -/
theorem Tsu.bounded_of_eq {t u : Tsu} (ho : u.orders = t.orders) (hl : u.log = t.log) (h : t.bounded) : u.bounded :=
  Tsu.bounded_of_sublist (by rw [ho]) (by rw [hl]) h

/-! ## A fresh order id (R162) -/

/-- The id reached after `n` passings over. -/
def idFrom (i n : Nat) : Nat := idAfter^[n] i

/-- Ids within 255 passings of one another are distinct, wherever the counter stands. -/
theorem idFrom_injOn (i : Nat) {m n : Nat} (hm : m < n) (hn : n < 255) : idFrom i m ≠ idFrom i n := by
  have key : ∀ k i, k < 255 → idFrom i k = if 255 < i ∨ i + k ≤ 255 then i + k else i + k - 255 := by
    intro k
    induction k with
    | zero => intro i _; simp [idFrom]
    | succ k ih =>
      intro i hk
      have := ih i (by omega)
      unfold idFrom at this ⊢
      rw [Function.iterate_succ_apply', this]
      unfold idAfter
      split <;> split <;> split <;> omega
  rw [key m i (by omega), key n i hn]
  split <;> split <;> omega

/-- The passings over end at an id not held, unless every id passed over is held. -/
theorem freeId_mem (held : List Nat) (n i : Nat) :
    freeId held n i ∉ held ∨ ∀ m ≤ n, freeId held n i = idFrom i n ∧ (m < n → idFrom i m ∈ held) := by
  induction n generalizing i with
  | zero => exact .inr fun m hm => ⟨rfl, fun h => absurd h (Nat.not_lt_zero m)⟩
  | succ n ih =>
    unfold freeId
    split
    · next hi =>
      refine (ih (idAfter i)).imp id fun h m hm => ⟨(h 0 (Nat.zero_le n)).1, fun hlt => ?_⟩
      cases m with
      | zero => exact hi
      | succ m => exact (h m (by omega)).2 (by omega)
    · next hi => exact .inl hi

/-- At most 8 orders are held, so the id the next one takes is free (R162). -/
theorem newId_fresh (t : Tsu) (h : t.orders.length ≤ 8) : t.newId ∉ t.orders.map Order.id := by
  obtain hfree | hheld := freeId_mem (t.orders.map Order.id) t.orders.length t.nextId
  · exact hfree
  · intro hmem
    have hall : ∀ m ≤ t.orders.length, idFrom t.nextId m ∈ t.orders.map Order.id := by
      intro m hm
      obtain hlt | rfl := Nat.lt_or_eq_of_le hm
      · exact (hheld m hm).2 hlt
      · rw [← (hheld _ hm).1]; exact hmem
    have hinj : ((List.range (t.orders.length + 1)).map (idFrom t.nextId)).Nodup := by
      refine List.Nodup.map_on ?_ List.nodup_range
      intro x hx y hy hxy
      simp only [List.mem_range] at hx hy
      rcases Nat.lt_trichotomy x y with hlt | heq | hlt
      · exact absurd hxy (idFrom_injOn _ hlt (by omega))
      · exact heq
      · exact absurd hxy.symm (idFrom_injOn _ hlt (by omega))
    have hsub : ((List.range (t.orders.length + 1)).map (idFrom t.nextId)) ⊆ t.orders.map Order.id := by
      intro x hx
      simp only [List.mem_map, List.mem_range] at hx
      obtain ⟨m, hm, rfl⟩ := hx
      exact hall m (by omega)
    have := (hinj.subperm hsub).length_le
    simp at this

theorem Tsu.place_orders (t : Tsu) (r : Requester) (x : Test) : (t.place r x).orders = t.orders ++ [⟨t.newId, r, x⟩] := by
  simp [Tsu.place, Tsu.orders]

/-- An order placed where there is room keeps the bounds. -/
theorem Tsu.place_bounded (t : Tsu) (r : Requester) (x : Test) (hroom : t.orders.length < 8) (h : t.bounded) : (t.place r x).bounded := by
  obtain ⟨-, hid, hlog⟩ := h
  refine ⟨by rw [Tsu.place_orders]; simp; omega, ?_, hlog⟩
  rw [Tsu.place_orders, List.map_append]
  exact List.Nodup.append hid (by simp) (by simpa using newId_fresh t (by omega))

end Sys2Proof.Machine

namespace Sys2Proof.Machine

open Sys2Proof

/-! ## The moves of the operations over orders and the site -/

/-- The part of the state that the orders, the fitness and the lines hang on is the same. -/
def Alike (s t : State) : Prop :=
  t.sli.events = s.sli.events ∧ t.scu.site = s.scu.site ∧ t.scu.tenants = s.scu.tenants ∧ t.scu.fit = s.scu.fit
    ∧ t.scu.inhibit = s.scu.inhibit ∧ t.tqm = s.tqm ∧ t.gre = s.gre ∧ t.tmu = s.tmu ∧ t.tsu = s.tsu

/-- Each slot's queues stay bounded between two traffic tables. -/
def QueuesKept (q q' : PerSlot Traffic) : Prop := ∀ k, (q.get k).bounded → (q'.get k).bounded

/-- What the operations over orders, acceptance and the bring-up step do, move by move: TEST_DONE raised, a change of site state that does
not lead back to LOADING, the orders and the log within their bounds, and nothing of the clock, the grants and the fitness. -/
inductive OrderMoves : State → State → Prop
  | refl (s : State) : OrderMoves s s
  | trans {s t u : State} : OrderMoves s t → OrderMoves t u → OrderMoves s u
  | alike {s t : State} (h : Alike s t) : OrderMoves s t
  | done (k : Slot) (s : State) : OrderMoves s (raiseIn .testDone k s)
  | traffic (f : PerSlot Traffic → PerSlot Traffic) (s : State) (h : QueuesKept s.tqm (f s.tqm)) : OrderMoves s (s.updTqm f)
  | orders (f : Tsu → Tsu) (s : State) (h : s.tsu.bounded → (f s.tsu).bounded) : OrderMoves s (s.updTsu f)
  | site (st : SiteState) (s : State) (h : st ≠ .loading) : OrderMoves s (setSiteState st s)

theorem setWait_moves (w : Option BringupWait) (s : State) : OrderMoves s (setWait w s) := .alike (by simp [Alike])

theorem enterService_moves (e : ServiceEntry) (s : State) : OrderMoves s (enterService e s) :=
  (OrderMoves.alike (t := s.updScu fun c => { c with entry := some e, wait := none }) (by simp [Alike])).trans
    (.site .inService _ (by decide))

/-- An acceptance set for which there is room is queued order by order. -/
theorem queueTemplates_moves (l : List (Nat × Test)) (s : State) (h : s.tsu.orders.length + l.length ≤ 8) :
    OrderMoves s (l.foldl queueTemplate s) := by
  induction l generalizing s with
  | nil => exact .refl s
  | cons it l ih =>
    simp only [List.length_cons] at h
    have hplaced : OrderMoves s (queueTemplate s it) :=
      (OrderMoves.orders (fun t => t.place .site it.2) s (Tsu.place_bounded _ _ _ (by omega))).trans (.alike (by simp [Alike, queueTemplate]))
    refine hplaced.trans (ih _ ?_)
    have : (queueTemplate s it).tsu.orders.length = s.tsu.orders.length + 1 := by simp [queueTemplate, Tsu.place_orders]
    omega

theorem numbered_length (i : Nat) (l : List Test) : (numbered i l).length = l.length := by
  induction l generalizing i with
  | nil => rfl
  | cons t l ih => simp [numbered, ih]

theorem queueAcceptance_moves (s : State) (h : s.scu.acceptanceSet.length ≤ s.tsu.room) (hne : s.scu.acceptanceSet ≠ []) :
    OrderMoves s (queueAcceptance s) := by
  have hpos := List.length_pos_of_ne_nil hne
  refine queueTemplates_moves _ s ?_
  rw [numbered_length]
  unfold Tsu.room Config.maxOrders at h
  omega

/-- All that the bring-up step can do in BRINGUP: the wait set, the site in service, or the acceptance set queued. -/
theorem bringupStep_cases (s : State) :
    (s.scu.site ≠ .bringup ∧ bringupStep s = s) ∨ (∃ w, bringupStep s = setWait (some w) s)
      ∨ (s.scu.acceptanceSet = [] ∧ bringupStep s = enterService .emptySet s)
      ∨ (s.scu.site = .bringup ∧ s.scu.acceptanceSet ≠ [] ∧ s.scu.acceptanceSet.length ≤ s.tsu.room
          ∧ bringupStep s = setSiteState .acceptance (setWait none (queueAcceptance s))) := by
  unfold bringupStep
  split
  · next h => exact .inl ⟨h, rfl⟩
  · next hb =>
    split
    · exact .inr (.inl ⟨_, rfl⟩)
    · exact .inr (.inl ⟨_, rfl⟩)
    · exact .inr (.inl ⟨_, rfl⟩)
    · split
      · next h => exact .inr (.inr (.inl ⟨h, rfl⟩))
      · next h =>
        split
        · next hroom => exact .inr (.inr (.inr ⟨not_not.mp hb, h, hroom, rfl⟩))
        · exact .inr (.inl ⟨_, rfl⟩)

theorem bringupStep_moves (s : State) : OrderMoves s (bringupStep s) := by
  obtain ⟨-, h⟩ | ⟨w, h⟩ | ⟨-, h⟩ | ⟨-, hne, hroom, h⟩ := bringupStep_cases s <;> rw [h]
  · exact .refl s
  · exact setWait_moves _ s
  · exact enterService_moves _ s
  · exact ((queueAcceptance_moves s hroom hne).trans (setWait_moves _ _)).trans (.site _ _ (by decide))

theorem writeEntry_moves (o : Order) (out : TestOutcome) (m : Measures) (s : State) : OrderMoves s (writeEntry o out m s) := by
  unfold writeEntry
  split
  · exact .refl s
  · refine .orders _ s fun h => ?_
    obtain ⟨hlen, hid, hlog⟩ := h
    refine ⟨hlen, hid, ?_⟩
    by_cases hfull : Config.maxLog ≤ s.tsu.log.length <;> simp [hfull] <;> simp only [Config.maxLog] at hfull <;> omega

theorem raiseTestDone_moves (r : Requester) (s : State) : OrderMoves s (raiseTestDone r s) := by
  unfold raiseTestDone
  split
  · exact .done 0 s
  · split
    · exact .done 0 s
    · exact (OrderMoves.done 0 s).trans (.done _ _)

theorem followAcceptance_moves (o : Order) (out : TestOutcome) (s : State) : OrderMoves s (followAcceptance o out s) := by
  unfold followAcceptance
  split
  · exact .refl s
  · split
    · dsimp only
      split
      · exact (OrderMoves.alike (by simp [Alike])).trans (enterService_moves .accepted _)
      · exact .alike (by simp [Alike])
    · exact (OrderMoves.alike (by simp [Alike])).trans (.site _ _ (by decide))

theorem reportCompletion_moves (o : Order) (out : TestOutcome) (s : State) : OrderMoves s (reportCompletion o out s) := by
  unfold reportCompletion
  split
  · split
    · exact followAcceptance_moves o out s
    · exact .refl s
  · exact bringupStep_moves s

theorem completeOrder_moves (o : Order) (out : TestOutcome) (m : Measures) (s : State) : OrderMoves s (completeOrder o out m s) :=
  ((writeEntry_moves o out m s).trans (raiseTestDone_moves _ _)).trans (reportCompletion_moves _ _ _)

theorem discardEgress_bounded {t : Traffic} (h : t.bounded) : t.discardEgress.bounded := by
  unfold Traffic.discardEgress; split <;> exact h

/-- A change of one slot's record that keeps its queues bounded keeps every slot's. -/
theorem queuesKept_modify (q : PerSlot Traffic) (k : Slot) (f : Traffic → Traffic) (h : (q.get k).bounded → (f (q.get k)).bounded) :
    QueuesKept q (q.modify k f) := by
  intro j hj
  by_cases hjk : j = k
  · subst hjk; simpa using h hj
  · rwa [PerSlot.get_modify_ne _ hjk]

theorem queuesKept_map (q : PerSlot Traffic) (f : Traffic → Traffic) (h : ∀ t, t.bounded → (f t).bounded) : QueuesKept q (q.map f) := by
  intro k hk; simpa using h _ hk

theorem startOrder_moves (o : Order) (rest : List Order) (s : State) (hr : s.tsu.running = none) (hq : s.tsu.queued = o :: rest) :
    OrderMoves s (startOrder o (s.updTsu fun t => { t with queued := rest })) := by
  have hstart : OrderMoves s (s.updTsu fun t => { t with running := some ⟨o, o.test.progress⟩, queued := rest }) :=
    .orders _ s (Tsu.bounded_of_eq (by simp [Tsu.orders, hr, hq]) rfl)
  unfold startOrder
  split
  · exact hstart.trans (.traffic _ _ (queuesKept_modify _ _ _ discardEgress_bounded))
  · exact hstart

theorem dropFirst_moves (o : Order) (rest : List Order) (s : State) (hr : s.tsu.running = none) (hq : s.tsu.queued = o :: rest) :
    OrderMoves s (s.updTsu fun t => { t with queued := rest }) :=
  .orders _ s (Tsu.bounded_of_sublist (by simp [Tsu.orders, hr, hq]) (le_refl _))

theorem considerStart_moves (n : Nat) (s : State) : OrderMoves s (considerStart n s) := by
  induction n generalizing s with
  | zero => exact .refl s
  | succ n ih =>
    unfold considerStart
    split
    · next o rest hr hq =>
      dsimp only
      split
      · exact startOrder_moves o rest s hr hq
      · exact ((dropFirst_moves o rest s hr hq).trans (completeOrder_moves _ _ _ _)).trans (ih _)
    · exact .refl s

theorem settle_moves (s : State) : OrderMoves s (settle s) := considerStart_moves _ s

theorem bringup_moves (s : State) : OrderMoves s (bringup s) := (bringupStep_moves s).trans (settle_moves _)

theorem clearRunning_moves (s : State) : OrderMoves s (s.updTsu fun t => { t with running := none }) :=
  .orders _ s (Tsu.bounded_of_sublist (by simp [Tsu.orders]) (le_refl _))

theorem endRunning_moves (out : TestOutcome) (s : State) : OrderMoves s (endRunning out s) := by
  unfold endRunning
  split
  · exact .refl s
  · exact ((clearRunning_moves s).trans (completeOrder_moves _ _ _ _)).trans (settle_moves _)

/-! ## What those moves keep -/

/-- The clock, the grants, the records and the fitness stand. -/
theorem OrderMoves.stands {s t : State} (h : OrderMoves s t) :
    t.tmu = s.tmu ∧ t.gre = s.gre ∧ t.scu.tenants = s.scu.tenants ∧ t.scu.fit = s.scu.fit := by
  induction h with
  | refl => simp
  | trans _ _ ih1 ih2 => simp [ih1, ih2]
  | alike h => obtain ⟨-, -, ht, hf, -, -, hg, hm, -⟩ := h; exact ⟨hm, hg, ht, hf⟩
  | done | traffic | orders | site => simp

theorem OrderMoves.inhibits {s t : State} (h : OrderMoves s t) : s.inhibitsRight → t.inhibitsRight := by
  induction h with
  | refl => exact id
  | trans _ _ ih1 ih2 => exact ih2 ∘ ih1
  | alike h => obtain ⟨-, hs, ht, hf, hi, -⟩ := h; exact inhibitsRight_congr hs ht hf hi
  | done k s => exact inhibitsRight_congr (by simp) (by simp) (by simp) (by simp)
  | traffic f s => exact inhibitsRight_congr rfl rfl rfl rfl
  | orders f s => exact inhibitsRight_congr rfl rfl rfl rfl
  | site st s => exact fun _ => setSiteState_right st s

/-- SITE_STATE and TEST_DONE alone may be raised, and no kind is taken away. -/
theorem OrderMoves.pends {s t : State} (h : OrderMoves s t) (k : Slot) (e : EventKind) :
    (s.pends k e = true → t.pends k e = true) ∧ (e ≠ .siteState → e ≠ .testDone → t.pends k e = s.pends k e) := by
  induction h with
  | refl => simp
  | trans _ _ ih1 ih2 => exact ⟨ih2.1 ∘ ih1.1, fun h1 h2 => (ih2.2 h1 h2).trans (ih1.2 h1 h2)⟩
  | alike h => simp [pends_of_events h.1]
  | done j s =>
    rw [pends_raiseIn]
    exact ⟨fun h => by simp [h], fun _ h => by simp [h]⟩
  | traffic f s => exact ⟨id, fun _ _ => rfl⟩
  | orders f s => exact ⟨id, fun _ _ => rfl⟩
  | site st s =>
    rw [pends_setSiteState]
    exact ⟨fun h => by simp [h], fun h _ => by simp [h]⟩

/-- The enable sets stand, and a line that follows its sets follows them still. -/
theorem OrderMoves.events {s t : State} (h : OrderMoves s t) (k : Slot) :
    (t.sli.events.get k).enabled = (s.sli.events.get k).enabled
      ∧ ((s.sli.events.get k).attention = attentionLevel (s.sli.events.get k).pending (s.sli.events.get k).enabled →
          (t.sli.events.get k).attention = attentionLevel (t.sli.events.get k).pending (t.sli.events.get k).enabled) := by
  induction h with
  | refl => simp
  | trans _ _ ih1 ih2 => exact ⟨ih2.1.trans ih1.1, ih2.2 ∘ ih1.2⟩
  | alike h => simp [h.1]
  | done j s => exact raiseIn_event s _ j k
  | traffic f s => simp
  | orders f s => simp
  | site st s => 
    have := raiseAll_event (s.updScu fun c => { c with site := st }) .siteState k
    unfold setSiteState
    simp only [recomputeInhibit_frame]
    exact ⟨this.1, fun _ => this.2⟩

theorem OrderMoves.queues {s t : State} (h : OrderMoves s t) : QueuesKept s.tqm t.tqm := by
  induction h with
  | refl => exact fun _ => id
  | trans _ _ ih1 ih2 => exact fun k => ih2 k ∘ ih1 k
  | alike h => obtain ⟨-, -, -, -, -, hq, -⟩ := h; rw [hq]; exact fun _ => id
  | traffic f s h => exact h
  | done | orders | site => simp [QueuesKept]

theorem OrderMoves.bounded {s t : State} (h : OrderMoves s t) : s.tsu.bounded → t.tsu.bounded := by
  induction h with
  | refl => exact id
  | trans _ _ ih1 ih2 => exact ih2 ∘ ih1
  | alike h => obtain ⟨-, -, -, -, -, -, -, -, ht⟩ := h; rw [ht]; exact id
  | orders f s h => exact h
  | done | traffic | site => simp

theorem OrderMoves.loaded {s t : State} (h : OrderMoves s t) : s.scu.site ≠ .loading → t.scu.site ≠ .loading := by
  induction h with
  | refl => exact id
  | trans _ _ ih1 ih2 => exact ih2 ∘ ih1
  | alike h => rw [h.2.1]; exact id
  | site st s h => simpa using fun _ => h
  | done | traffic | orders => simp

end Sys2Proof.Machine

namespace Sys2Proof.Machine

open Sys2Proof

/-! ## The acceptance set queued (R5) -/

theorem numbered_map_test (i : Nat) (l : List Test) : (numbered i l).map Prod.snd = l := by
  induction l generalizing i with
  | nil => rfl
  | cons t l ih => simp [numbered, ih]

theorem numbered_map_index (i : Nat) (l : List Test) : (numbered i l).map Prod.fst = List.range' i l.length := by
  induction l generalizing i with
  | nil => rfl
  | cons t l ih => simp [numbered, ih, List.range'_succ]

theorem queueTemplate_queued (s : State) (it : Nat × Test) :
    (queueTemplate s it).tsu.queued = s.tsu.queued ++ [⟨s.tsu.newId, .site, it.2⟩]
      ∧ (queueTemplate s it).scu.tracking = s.scu.tracking ++ [⟨it.1, s.tsu.newId⟩] := by
  simp [queueTemplate, Tsu.place]

/-- What the queueing of templates appends: for each an order of the site, tracked under its index. -/
theorem queueTemplates_placed (l : List (Nat × Test)) (s : State) :
    ∃ placed : List Order,
      (l.foldl queueTemplate s).tsu.queued = s.tsu.queued ++ placed ∧ placed.map Order.test = l.map Prod.snd
        ∧ (∀ o ∈ placed, o.requester = .site)
        ∧ (l.foldl queueTemplate s).scu.tracking.map Tracked.order = s.scu.tracking.map Tracked.order ++ placed.map Order.id
        ∧ (l.foldl queueTemplate s).scu.tracking.map Tracked.template = s.scu.tracking.map Tracked.template ++ l.map Prod.fst := by
  induction l generalizing s with
  | nil => exact ⟨[], by simp⟩
  | cons it l ih =>
    obtain ⟨placed, hq, ht, hr, ho, hi⟩ := ih (queueTemplate s it)
    obtain ⟨hq1, htr1⟩ := queueTemplate_queued s it
    exact ⟨⟨s.tsu.newId, .site, it.2⟩ :: placed, by simp [hq, hq1], by simp [ht], by simpa using hr, by simp [ho, htr1], by simp [hi, htr1]⟩

/-- The acceptance set queued: an order of the site for each template, tracked under its index (R5). -/
theorem queueAcceptance_placed (s : State) :
    ∃ placed : List Order,
      (queueAcceptance s).tsu.queued = s.tsu.queued ++ placed ∧ placed.map Order.test = s.scu.acceptanceSet
        ∧ (∀ o ∈ placed, o.requester = .site)
        ∧ (queueAcceptance s).scu.tracking.map Tracked.order = s.scu.tracking.map Tracked.order ++ placed.map Order.id
        ∧ (queueAcceptance s).scu.tracking.map Tracked.template
            = s.scu.tracking.map Tracked.template ++ List.range s.scu.acceptanceSet.length := by
  obtain ⟨placed, hq, ht, hr, ho, hi⟩ := queueTemplates_placed (numbered 0 s.scu.acceptanceSet) s
  rw [numbered_map_test] at ht
  rw [numbered_map_index, ← List.range_eq_range'] at hi
  exact ⟨placed, hq, ht, hr, ho, hi⟩

theorem queueAcceptance_queued_length (s : State) :
    (queueAcceptance s).tsu.queued.length = s.tsu.queued.length + s.scu.acceptanceSet.length := by
  obtain ⟨placed, hq, ht, -⟩ := queueAcceptance_placed s
  rw [hq, List.length_append, ← ht, List.length_map]

/-! ## A settled queue: no order waits while none runs (R166) -/

/-- The orders that may still be considered: those that wait, and in BRINGUP those of the acceptance set. -/
def State.waiting (s : State) : Nat := s.tsu.queued.length + if s.scu.site = .bringup then s.scu.acceptanceSet.length else 0

theorem bringupStep_waiting (s : State) : (bringupStep s).waiting ≤ s.waiting := by
  obtain ⟨-, h⟩ | ⟨w, h⟩ | ⟨-, h⟩ | ⟨hb, -, -, h⟩ := bringupStep_cases s <;> rw [h] <;> unfold State.waiting
  · simp
  · simp [enterService]
  · simp [hb, queueAcceptance_queued_length]

theorem followAcceptance_waiting (o : Order) (out : TestOutcome) (s : State) : (followAcceptance o out s).waiting ≤ s.waiting := by
  unfold followAcceptance
  split
  · exact le_refl _
  · split
    · dsimp only
      split <;> simp [State.waiting, enterService]
    · simp [State.waiting]

theorem completeOrder_waiting (o : Order) (out : TestOutcome) (m : Measures) (s : State) :
    (completeOrder o out m s).waiting ≤ s.waiting := by
  have hsame : (raiseTestDone o.requester (writeEntry o out m s)).waiting = s.waiting := by simp [State.waiting]
  unfold completeOrder reportCompletion
  rw [← hsame]
  split
  · split
    · exact followAcceptance_waiting _ _ _
    · exact le_refl _
  · exact bringupStep_waiting _

theorem considerStart_noIdle (n : Nat) (s : State) (h : s.waiting < n) : (considerStart n s).tsu.noIdle := by
  induction n generalizing s with
  | zero => exact absurd h (Nat.not_lt_zero _)
  | succ n ih =>
    unfold considerStart
    split
    · next o rest hr hq =>
      dsimp only
      split
      · intro hnone
        unfold startOrder at hnone
        split at hnone <;> simp at hnone
      · refine ih _ (lt_of_le_of_lt (completeOrder_waiting _ _ _ _) ?_)
        have hless : (s.updTsu fun t => { t with queued := rest }).waiting + 1 = s.waiting := by
          unfold State.waiting
          rw [hq]
          exact Nat.add_right_comm rest.length _ 1
        omega
    · next hne =>
      intro hr
      cases hq : s.tsu.queued with
      | nil => rfl
      | cons o rest => exact absurd hq (hne o rest hr)

theorem settle_noIdle (s : State) : (settle s).tsu.noIdle := by
  refine considerStart_noIdle _ s ?_
  unfold State.waiting
  split <;> omega

theorem bringup_noIdle (s : State) : (bringup s).tsu.noIdle := settle_noIdle _

theorem endRunning_noIdle (out : TestOutcome) (s : State) (h : s.tsu.noIdle) : (endRunning out s).tsu.noIdle := by
  unfold endRunning
  split
  · exact h
  · exact settle_noIdle _

/-! ## The moves of every operation of the part -/

/-- The rate correction and the integrator within F_max (R152). -/
def Tmu.ratesBounded (t : Tmu) : Prop := -12800000 ≤ t.y ∧ t.y ≤ 12800000 ∧ -12800000 ≤ t.integ ∧ t.integ ≤ 12800000

theorem ratesBounded_iff (s : State) : s.ratesBounded ↔ s.tmu.ratesBounded := Iff.rfl

/-- A grant record's deficit and met history within their bounds (R96). -/
def GrantRec.bounded (r : GrantRec) : Prop := r.deficit ≤ 65535 ∧ r.history.length ≤ 8

theorem grantsBounded_iff (s : State) : s.grantsBounded ↔ ∀ k, (s.gre.slots.get k).bounded := Iff.rfl

/-- What every operation of the part is made of, but for the requests that empty an event record or write a tenant record, the load and a
power-on reset: the moves over orders with no order left waiting, kinds raised, grant records within their bounds, and changes of the clock
within F_max, after which the class is derived afresh where the derived class may have changed. -/
inductive Moves : State → State → Prop
  | refl (s : State) : Moves s s
  | trans {s t u : State} : Moves s t → Moves t u → Moves s u
  | orders {s t : State} (h : OrderMoves s t) (hi : s.tsu.noIdle → t.tsu.noIdle) : Moves s t
  | raise (e : EventKind) (k : Slot) (s : State) : Moves s (raiseIn e k s)
  | raiseAll (e : EventKind) (s : State) : Moves s (raiseAll e s)
  | grants (f : Gre → Gre) (s : State) (h : ∀ k, (s.gre.slots.get k).bounded → ((f s.gre).slots.get k).bounded) : Moves s (s.updGre f)
  | clock (f : Tmu → Tmu) (s : State) (hc : (f s.tmu).cls = s.tmu.cls) (hd : (f s.tmu).derivedClass = s.tmu.derivedClass)
      (hr : s.tmu.ratesBounded → (f s.tmu).ratesBounded) : Moves s (s.updTmu f)
  | derive (f : Tmu → Tmu) (s : State) (hc : (f s.tmu).cls = s.tmu.cls) (hr : s.tmu.ratesBounded → (f s.tmu).ratesBounded) :
      Moves s (deriveClass (s.updTmu f))

theorem Moves.alike {s t : State} (h : Alike s t) : Moves s t :=
  .orders (.alike h) (by obtain ⟨-, -, -, -, -, -, -, -, ht⟩ := h; rw [ht]; exact id)

theorem Moves.lkc (f : Lkc → Lkc) (s : State) : Moves s (s.updLkc f) := .alike (by simp [Alike])

theorem Moves.emit (e : Emission) (s : State) : Moves s (s.emit e) := .alike (by simp [Alike])

theorem Moves.traffic (f : PerSlot Traffic → PerSlot Traffic) (s : State) (h : QueuesKept s.tqm (f s.tqm)) : Moves s (s.updTqm f) :=
  .orders (.traffic f s h) id

theorem Moves.site (st : SiteState) (s : State) (h : st ≠ .loading) : Moves s (setSiteState st s) :=
  .orders (.site st s h) (by simp)

theorem Moves.bringup (s : State) : Moves s (bringup s) := .orders (bringup_moves s) fun _ => bringup_noIdle s

theorem Moves.settled {s t : State} (h : OrderMoves s t) : Moves s (settle t) :=
  .orders (h.trans (settle_moves t)) fun _ => settle_noIdle t

theorem Moves.endRunning (out : TestOutcome) (s : State) : Moves s (endRunning out s) :=
  .orders (endRunning_moves out s) (endRunning_noIdle out s)

theorem Moves.answer (k : Slot) (tag : Byte) (st : Status) (data : List Field) (s : State) : Moves s (answer k tag st data s) :=
  .alike (by simp [Alike])

end Sys2Proof.Machine

namespace Sys2Proof.Machine

open Sys2Proof

theorem Moves.ite {c : Prop} [Decidable c] {s t u : State} (h1 : Moves s t) (h2 : Moves s u) : Moves s (if c then t else u) := by
  split
  · exact h1
  · exact h2

/-! ## Test orders -/

theorem setProgress_order (p : Progress) (s : State) : OrderMoves s (setProgress p s) := by
  refine .orders _ s (Tsu.bounded_of_eq ?_ rfl)
  cases hr : s.tsu.running <;> simp [Tsu.orders, hr]

theorem setProgress_moves (p : Progress) (s : State) : Moves s (setProgress p s) :=
  .orders (setProgress_order p s) fun h hn => h (by simpa [setProgress] using hn)

theorem decideLoop_order (out : TestOutcome) (s : State) : OrderMoves s (decideLoop out s) := by
  unfold decideLoop updLoop
  split
  · exact setProgress_order _ s
  · exact .refl s

theorem updLoop_moves (f : LoopProgress → LoopProgress) (s : State) : Moves s (updLoop f s) := by
  unfold updLoop
  split
  · exact setProgress_moves _ s
  · exact .refl s

theorem decideLoop_moves (out : TestOutcome) (s : State) : Moves s (decideLoop out s) := updLoop_moves _ s

theorem countLooped_moves (n : Nat) (s : State) : Moves s (countLooped n s) := updLoop_moves _ s

theorem sendTestPacket_moves (s : State) : Moves s (sendTestPacket s) := by
  unfold sendTestPacket
  split
  · split
    · exact (setProgress_moves _ s).trans (.emit _ _)
    · exact .refl s
  · exact .refl s

theorem returnTestPacket_moves (q : TestPacket) (s : State) : Moves s (returnTestPacket q s) := by
  unfold returnTestPacket
  split
  · split
    · exact .refl s
    · split
      · dsimp only
        split
        · exact (setProgress_moves _ s).trans (.endRunning _ _)
        · exact setProgress_moves _ s
      · exact (setProgress_moves _ s).trans (.endRunning _ _)
  · exact .refl s

theorem expireLoopTimer_moves (s : State) : Moves s (expireLoopTimer s) := by
  unfold expireLoopTimer
  split
  · exact .endRunning _ s
  · exact .refl s

theorem judgeAir_moves (s : State) : Moves s (judgeAir s) := by
  unfold judgeAir
  split
  · split
    · split
      · exact .endRunning _ s
      · exact .refl s
    · split
      · exact .endRunning _ s
      · exact .refl s
  · exact .refl s

theorem airFill_moves (frame t : Nat) (s : State) : Moves s (airFill frame t s) := by
  unfold airFill
  split
  · exact setProgress_moves _ s
  · exact .refl s

theorem airReport_moves (r : PatternReport) (s : State) : Moves s (airReport r s) := by
  unfold airReport
  split
  · split
    · exact .refl s
    · exact (setProgress_moves _ s).trans (judgeAir_moves _)
  · exact .refl s

theorem tsuDepart_moves (out : TestOutcome) (s : State) : Moves s (tsuDepart out s) := by
  unfold tsuDepart
  split
  · exact .endRunning _ s
  · exact .endRunning _ s
  · exact .refl s

theorem tsuSample_moves (src : Source) (x : Sample) (s : State) : Moves s (tsuSample src x s) := by
  unfold tsuSample
  split
  · split
    · split
      · dsimp only
        split
        · exact (setProgress_moves _ s).trans (.endRunning _ _)
        · split
          · exact (setProgress_moves _ s).trans (.endRunning _ _)
          · exact setProgress_moves _ s
      · exact setProgress_moves _ s
    · exact setProgress_moves _ s
  · exact .refl s

theorem tsuBoundary_moves (s : State) : Moves s (tsuBoundary s) := by
  unfold tsuBoundary
  split
  · dsimp only
    split
    · exact (setProgress_moves _ s).trans (.endRunning _ _)
    · exact setProgress_moves _ s
  · exact .refl s

theorem tsuSourceLeft_moves (s : State) : Moves s (tsuSourceLeft s) := by
  unfold tsuSourceLeft
  split
  · exact .endRunning _ s
  · exact .refl s

/-! ## Queues and grants -/

theorem queuedPB_append (q r : List Packet) : queuedPB (q ++ r) = queuedPB q + queuedPB r := by simp [queuedPB]

theorem queuedPB_cons (p : Packet) (q : List Packet) : queuedPB (p :: q) = p.remaining + queuedPB q := by simp [queuedPB]

theorem drainQueue_le (k : Slot) (q : List Packet) (grant : Nat) : queuedPB (drainQueue k q grant).queue ≤ queuedPB q := by
  induction q generalizing grant with
  | nil => exact le_refl _
  | cons p rest ih =>
    unfold drainQueue
    split
    · exact le_refl _
    · split
      · have := ih (grant - p.remaining)
        rw [queuedPB_cons]
        exact le_trans this (Nat.le_add_left _ _)
      · simp only [queuedPB_cons]
        omega

theorem drain_bounded {t : Traffic} (k : Slot) (grant : Nat) (h : t.bounded) : (t.drain k grant).2.bounded :=
  ⟨(drainQueue_le k t.express grant).trans h.1, (drainQueue_le k t.bulk _).trans h.2⟩

theorem dropPartlySent_le (q : List Packet) : queuedPB (dropPartlySent q) ≤ queuedPB q := by
  unfold dropPartlySent
  split
  · exact le_refl _
  · split
    · rw [queuedPB_cons]; exact Nat.le_add_left _ _
    · exact le_refl _

theorem depart_bounded {t : Traffic} (h : t.bounded) : t.depart.bounded :=
  discardEgress_bounded ⟨(dropPartlySent_le t.express).trans h.1, (dropPartlySent_le t.bulk).trans h.2⟩

theorem flushed_bounded (t : Traffic) : t.flush.bounded := by simp [Traffic.flush, Traffic.bounded, queuedPB]

theorem queuedPB_newPacket (q : List Packet) (seq : Nat) (c : IngressClass) (bytes : List Byte) :
    queuedPB (q ++ [newPacket seq c bytes]) = queuedPB q + ceilPB bytes.length := by
  rw [queuedPB_append]; rfl

/-- A packet that fits its class queue leaves it within its limit (R67). -/
theorem addPacket_bounded {t : Traffic} (c : IngressClass) (bytes : List Byte) (hfit : t.fits c bytes.length = true) (h : t.bounded) :
    (t.addPacket c bytes).bounded := by
  obtain ⟨he, hb⟩ := h
  have hfit := of_decide_eq_true hfit
  cases c with
  | express => exact ⟨(queuedPB_newPacket t.express t.nextSeq .express bytes).trans_le hfit, hb⟩
  | bulk => exact ⟨he, (queuedPB_newPacket t.bulk t.nextSeq .bulk bytes).trans_le hfit⟩

/-- A segment judged leaves the class queues alone: it touches the packet being reassembled and its count. -/
theorem take_queues (t : Traffic) (g : EgressSegment) : (t.take g).1.express = t.express ∧ (t.take g).1.bulk = t.bulk := by
  have hconclude : ∀ (u : Traffic) (p : EgressPartial) (l : Bool) (n : Nat),
      (u.conclude p l n).1.express = u.express ∧ (u.conclude p l n).1.bulk = u.bulk := by
    intro u p l n
    unfold Traffic.conclude
    (repeat' split) <;> simp [Traffic.countEgress]
  have hbegin : ∀ u : Traffic, (u.begin g).1.express = u.express ∧ (u.begin g).1.bulk = u.bulk := by
    intro u
    unfold Traffic.begin
    split
    · exact hconclude _ _ _ _
    · simp [Traffic.countEgress]
  have hdiscard : t.discardEgress.express = t.express ∧ t.discardEgress.bulk = t.bulk := by
    unfold Traffic.discardEgress; split <;> simp
  unfold Traffic.take
  split
  · exact hbegin t
  · split
    · exact hconclude _ _ _ _
    · exact ⟨(hbegin _).1.trans hdiscard.1, (hbegin _).2.trans hdiscard.2⟩

theorem take_bounded {t : Traffic} (g : EgressSegment) (h : t.bounded) : (t.take g).1.bounded := by
  obtain ⟨he, hb⟩ := take_queues t g
  simpa [Traffic.bounded, he, hb] using h

theorem offer_moves (k : Slot) (bytes : List Byte) (s : State) : Moves s (offer k bytes s) := by
  unfold offer
  split
  · next hfit => exact .traffic _ s (queuesKept_modify _ _ _ (addPacket_bounded _ _ hfit))
  · exact (Moves.traffic (fun t => t.modify k (fun r => { r with droppedFull := satInc r.droppedFull })) s
      (queuesKept_modify _ _ _ id)).trans (.raise _ _ _)

theorem dropMalformed_moves (k : Slot) (s : State) : Moves s (dropMalformed k s) := .traffic _ s (queuesKept_modify _ _ _ id)

theorem arrive_moves (k : Slot) (bytes : List Byte) (cut : Bool) (s : State) : Moves s (arrive k bytes cut s) := by
  unfold arrive
  split
  · exact .refl s
  · split
    · exact dropMalformed_moves k s
    · split
      · exact dropMalformed_moves k s
      · exact offer_moves k bytes s

theorem drainAll_moves (g : PerSlot Nat) (s : State) : Moves s (drainAll g s).2 :=
  .traffic (fun _ => (PerSlot.ofFn fun k => (s.tqm.get k).drain k (g.get k)).map Prod.snd) s
    fun k h => by simpa using drain_bounded k (g.get k) h

theorem tqmDepart_moves (s : State) : Moves s (tqmDepart s) := .traffic _ s (queuesKept_map _ _ fun _ => depart_bounded)

theorem takeSegment_moves (g : EgressSegment) (s : State) : Moves s (takeSegment s g) := by
  unfold takeSegment
  split
  · split
    · exact .traffic _ s (queuesKept_modify _ _ _ id)
    · exact .refl s
  · dsimp only
    have htaken : Moves s (s.updTqm fun t => t.set g.slot ((s.tqm.get g.slot).take g).1) :=
      .traffic _ s (queuesKept_modify _ _ _ (take_bounded g))
    split
    · exact htaken
    · exact htaken.trans (.emit _ _)

/-- A fold of moves is a move. -/
theorem Moves.foldl {α : Type} (f : State → α → State) (h : ∀ s a, Moves s (f s a)) (l : List α) (s : State) : Moves s (l.foldl f s) := by
  induction l generalizing s with
  | nil => exact .refl s
  | cons a l ih => exact (h s a).trans (ih _)

theorem takeSegments_moves (gs : List EgressSegment) (s : State) : Moves s (takeSegments gs s) :=
  .foldl _ (fun s g => takeSegment_moves g s) gs s

theorem recordAfter_bounded (g : Gre) (h : PassFrame) (es : PerSlot Entrant) (p : Pass) (k : Slot) (hb : (g.slots.get k).bounded) :
    (recordAfter g h es p k).bounded := by
  unfold recordAfter
  dsimp only
  split
  · exact ⟨Nat.min_le_right _ _, by simp [GrantRec.afterPass]⟩
  · exact hb

theorem passEvents_moves (b a : GrantRec) (k : Slot) (s : State) : Moves s (passEvents b a k s) := by
  unfold passEvents
  dsimp only
  split <;> split
  · exact (Moves.raise _ _ s).trans (.raise _ _ _)
  · exact .raise _ _ s
  · exact .raise _ _ s
  · exact .refl s

theorem recordPass_moves (h : PassFrame) (es : PerSlot Entrant) (p : Pass) (s : State) : Moves s (recordPass h es p s) :=
  (Moves.grants (fun g => { g with slots := PerSlot.ofFn (recordAfter s.gre h es p) }) s
    fun k hk => by simpa using recordAfter_bounded s.gre h es p k hk).trans (.foldl _ (fun s k => passEvents_moves _ _ k s) _ _)

/-! ## Time -/

theorem updSource_derivedClass (t : Tmu) (src : Source) (f : SourceRec → SourceRec) : (t.updSource src f).derivedClass = t.derivedClass := by
  cases src <;> rfl

theorem updSource_rates (t : Tmu) (src : Source) (f : SourceRec → SourceRec) (h : t.ratesBounded) : (t.updSource src f).ratesBounded := by
  cases src <;> exact h

theorem Moves.source (src : Source) (f : SourceRec → SourceRec) (s : State) : Moves s (s.updTmu fun t => t.updSource src f) :=
  .clock _ s (by simp) (updSource_derivedClass _ _ _) (updSource_rates _ _ _)

theorem moveSelected_rates (t : Tmu) (sel : Option Source) (h : t.ratesBounded) : (t.moveSelected sel).ratesBounded := by
  obtain ⟨h1, h2, h3, h4⟩ := h
  unfold Tmu.moveSelected
  dsimp only
  (repeat' split) <;> simp [Tmu.ratesBounded, h1, h2, h3, h4]

theorem judgeSelection_moves (s : State) : Moves s (judgeSelection s) := by
  unfold judgeSelection
  split
  · exact .refl s
  · exact (Moves.raiseAll .source s).trans
      (.derive (fun t => t.moveSelected s.tmu.selection) _ (by simp) (moveSelected_rates _ _))

theorem qualificationChanged_moves (b : Qualification) (src : Source) (s : State) : Moves s (qualificationChanged b src s) := by
  unfold qualificationChanged
  split
  · exact .refl s
  · split
    · exact (tsuSourceLeft_moves s).trans (judgeSelection_moves _)
    · exact judgeSelection_moves s

theorem takeOutcome_moves (src : Source) (v : Bool) (s : State) : Moves s (takeOutcome src v s) := by
  unfold takeOutcome
  split
  · exact .refl s
  · exact (Moves.source src _ s).trans (qualificationChanged_moves _ _ _)

theorem exchangeMissing_moves (s : State) : Moves s (exchangeMissing s) := by
  unfold exchangeMissing
  split
  · exact .refl s
  · exact (Moves.clock (fun t => { t with exchange := none }) s rfl rfl id).trans (takeOutcome_moves _ _ _)

theorem tmuRungChange_moves (n : Nat) (s : State) : Moves s (tmuRungChange n s) := by
  unfold tmuRungChange
  split
  · split
    · exact .refl s
    · exact exchangeMissing_moves s
  · exact .refl s

theorem placeRequest_moves (n : Nat) (s : State) : Moves s (placeRequest n s).2 := by
  unfold placeRequest
  split
  · exact .clock (fun t => { t with exchange := t.exchange.map fun x => { x with request := some n } }) s rfl rfl id
  · exact .refl s

theorem stampRequest_moves (n : Nat) (s : State) : Moves s (stampRequest n s) := .clock _ s rfl rfl id

theorem stepTime_moves (new : SiteTime) (s : State) : Moves s (stepTime new s) :=
  (Moves.clock (fun t => t.stepTo new) s rfl rfl id).trans (exchangeMissing_moves _)

/-- A clamped value lies within its bound. -/
theorem clamp_maxCorrection (v : Int) :
    -12800000 ≤ clamp Config.maxCorrection v ∧ clamp Config.maxCorrection v ≤ 12800000 := by
  unfold clamp Config.maxCorrection
  omega

theorem apply_rates (t : Tmu) (b : LoopBank) (e : Int) : (t.apply b e).ratesBounded :=
  ⟨(clamp_maxCorrection _).1, (clamp_maxCorrection _).2, (clamp_maxCorrection _).1, (clamp_maxCorrection _).2⟩

theorem judgeMarks_rates (t : Tmu) (h : t.ratesBounded) : t.judgeMarks.ratesBounded := by
  simpa [Tmu.ratesBounded] using h

theorem screenSample_moves (x : Sample) (s : State) : Moves s (screenSample x s) := by
  unfold screenSample
  split
  · split
    · exact (Moves.clock (fun t => { t with history := [] }) s rfl rfl id).trans (stepTime_moves _ _)
    · exact .derive _ s (by simp [Tmu.putMark]) fun _ => judgeMarks_rates _ (apply_rates _ _ _)
  · split
    · exact .derive _ s (by simp [Tmu.putMark]) fun h => judgeMarks_rates _ h
    · exact .derive _ s (by simp [Tmu.putMark]) fun _ => judgeMarks_rates _ (apply_rates _ _ _)
  · exact .refl s

theorem takeSample_moves (src : Source) (x : Sample) (s : State) : Moves s (takeSample src x s) := by
  have hlast := Moves.source src (fun r => { r with last := some x }) s
  unfold takeSample
  dsimp only
  split
  · exact hlast
  · have htaken := (hlast.trans (takeOutcome_moves src true _)).trans (tsuSample_moves src x _)
    split
    · exact htaken.trans (screenSample_moves x _)
    · exact htaken

theorem gnssPulse_moves (s : State) : Moves s (gnssPulse s) := by
  have hmessage := Moves.clock (fun t => { t with message := none }) s rfl rfl id
  unfold gnssPulse
  dsimp only
  split
  · exact hmessage
  · have htimer := hmessage.trans (.clock (fun t => { t with pulseTimer := some 0 }) _ rfl rfl id)
    split
    · exact htimer.trans (takeSample_moves _ _ _)
    · exact htimer.trans (takeOutcome_moves _ _ _)

theorem pulseTimerExpiry_moves (s : State) : Moves s (pulseTimerExpiry s) := by
  unfold pulseTimerExpiry
  split
  · exact (Moves.clock (fun t => { t with message := none, pulseTimer := some 0 }) s rfl rfl id).trans (takeOutcome_moves _ _ _)
  · exact .refl s

theorem takeReply_moves (r : TimeReply) (s : State) : Moves s (takeReply r s) := by
  have hended := Moves.clock (fun t => { t with exchange := none }) s rfl rfl id
  unfold takeReply
  split
  · split
    · dsimp only
      split
      · split
        · exact hended.trans (takeSample_moves _ _ _)
        · exact (hended.trans (.clock (fun t => { t with pathDelay := some _ }) _ rfl rfl id)).trans (takeSample_moves _ _ _)
      · exact hended.trans (takeOutcome_moves _ _ _)
    · exact .refl s
  · exact .refl s

theorem replyTimerExpiry_moves (s : State) : Moves s (replyTimerExpiry s) := by
  unfold replyTimerExpiry
  split
  · exact exchangeMissing_moves s
  · exact .refl s

theorem boundaryExchange_moves (n : Nat) (s : State) : Moves s (boundaryExchange n s) := by
  unfold boundaryExchange
  split
  · exact (exchangeMissing_moves s).trans (.clock (fun t => { t with exchange := some { second := n } }) _ rfl rfl id)
  · exact takeOutcome_moves _ _ s

theorem raiseBoundary_moves (n : Nat) (s : State) : Moves s (raiseBoundary n s) := by
  have hsecond := Moves.clock (fun t => { t with lastSecond := some n }) s rfl rfl id
  unfold raiseBoundary
  dsimp only
  split
  · exact hsecond
  · refine ((hsecond.trans (.derive Tmu.countHoldover _ (by simp) ?_)).trans (tsuBoundary_moves _)).trans (boundaryExchange_moves n _)
    exact fun h => by simpa [Tmu.ratesBounded] using h

theorem siteSecond_moves (n : Nat) (s : State) : Moves s (siteSecond n s) := by
  obtain ⟨-, h⟩ | ⟨-, h⟩ := siteSecond_cases n s <;> rw [h]
  · exact .refl s
  · have htaken := Moves.clock Tmu.takeSecond s rfl rfl id
    unfold enterSecond
    split
    · exact htaken.trans (raiseBoundary_moves n _)
    · exact htaken

theorem ppsCrossing_moves (k : Slot) (n : Int) (s : State) : Moves s (ppsCrossing k n s) := by
  obtain ⟨-, h⟩ | ⟨-, h⟩ := ppsCrossing_cases k n s <;> rw [h]
  · exact .refl s
  · have htaken := Moves.clock (fun t => t.takePulse k) s rfl rfl id
    unfold emitPulse
    split
    · exact htaken.trans (.clock _ _ rfl rfl id)
    · exact htaken

theorem ppsFollow_moves (k : Slot) (s : State) : Moves s (ppsFollow k s) := by
  unfold ppsFollow
  split
  · exact .refl s
  · exact .clock _ s rfl rfl id

/-! ## The link -/

theorem linkStateEvent_moves (s : State) : Moves s (linkStateEvent s) := .raiseAll _ s

theorem emitOdu_moves (c : OduCommand) (s : State) : Moves s (emitOdu c s) := .alike (by simp [Alike])

theorem sendOdu_moves (c : OduCommand) (n : Nat) (s : State) : Moves s (sendOdu c n s) := .alike (by simp [Alike])

theorem endCommand_moves (s : State) : Moves s (endCommand s) := .lkc _ s

theorem takeConfirm_moves (c : OduCommand) (answered : State → State) (h : ∀ s, Moves s (answered s)) (s : State) :
    Moves s (takeConfirm c answered s) := by
  obtain ⟨l, hl | ⟨-, hl⟩⟩ := takeConfirm_cases s c answered <;> rw [hl]
  · exact .lkc _ s
  · exact (Moves.lkc _ s).trans (h _)

theorem judgeLooped_moves (s : State) : Moves s (judgeLooped s) := (countLooped_moves _ s).trans (.lkc _ _)

theorem departQueues_moves (w : LinkState) (s : State) : Moves s (departQueues w s) := by
  unfold departQueues
  split
  · exact (tqmDepart_moves s).trans (exchangeMissing_moves _)
  · exact .refl s

theorem depart_moves (w : LinkState) (out : TestOutcome) (s : State) : Moves s (depart w out s) := by
  unfold depart
  split
  · exact ((departQueues_moves w s).trans (tsuDepart_moves out _)).trans (.bringup _)
  · exact .bringup s

theorem releaseHold_moves (s : State) : Moves s (releaseHold s) := by
  unfold releaseHold
  split
  · exact ((emitOdu_moves _ s).trans (.lkc _ _)).trans (judgeLooped_moves _)
  · exact .refl s

theorem discoveryEntry_moves (s : State) : Moves s (discoveryEntry s) :=
  (((releaseHold_moves s).trans (.lkc _ _)).trans (sendOdu_moves _ _ _)).trans (linkStateEvent_moves _)

theorem enterDiscovery_moves (s : State) : Moves s (enterDiscovery s) := (discoveryEntry_moves s).trans (depart_moves _ _ _)

theorem siteResetLink_moves (s : State) : Moves s (siteResetLink s) := by
  unfold siteResetLink
  split
  · split
    · exact .refl s
    · exact ((releaseHold_moves s).trans (.lkc _ _)).trans (linkStateEvent_moves _)
  · exact discoveryEntry_moves s

theorem enterLost_moves (x : LossCause) (s : State) : Moves s (enterLost x s) :=
  ((Moves.lkc _ s).trans (linkStateEvent_moves _)).trans (depart_moves _ _ _)

theorem enterAcquiring_moves (s : State) : Moves s (enterAcquiring s) := ((Moves.lkc _ s).trans (linkStateEvent_moves _)).trans (.bringup _)

theorem enterUp_moves (s : State) : Moves s (enterUp s) := ((Moves.lkc _ s).trans (linkStateEvent_moves _)).trans (.bringup _)

theorem failDiscovery_moves (r : OffReason) (s : State) : Moves s (failDiscovery r s) :=
  ((Moves.lkc _ s).trans (linkStateEvent_moves _)).trans (.bringup _)

theorem installLadder_moves (b : Option (Ladder × LadderSource)) (s : State) : Moves s (installLadder b s) := by
  unfold installLadder
  split
  · split
    · exact (Moves.lkc _ s).trans (enterAcquiring_moves _)
    · exact failDiscovery_moves _ s
  · exact failDiscovery_moves _ s

theorem buildLadder_moves (p : Option CapabilityPage) (s : State) : Moves s (buildLadder p s) := by
  unfold buildLadder
  dsimp only
  split
  · split <;> exact installLadder_moves _ s
  · exact installLadder_moves _ s

theorem rungDecision_moves (m : Int) (s : State) : Moves s (rungDecision m s) := by
  unfold rungDecision
  (repeat' split) <;> exact .lkc _ s

theorem takeReport_moves (m : Int) (s : State) : Moves s (takeReport m s) := by
  unfold takeReport
  split
  · dsimp only
    exact .ite ((Moves.lkc _ s).trans (enterLost_moves _ _)) ((Moves.lkc _ s).trans (rungDecision_moves _ _))
  · exact .refl s

theorem missFrame_moves (s : State) : Moves s (missFrame s) := by
  unfold missFrame
  dsimp only
  split
  · exact (Moves.lkc _ s).trans (enterLost_moves _ _)
  · exact .lkc _ s

theorem handOn_moves (f : FarFrame) (s : State) : Moves s (handOn f s) := by
  have hsegments := (Moves.lkc (fun l => { l with syncMiss := 0, far := some ⟨clampMargin f.margin, 0⟩, farPattern := f.pattern }) s).trans
    (takeSegments_moves f.segments _)
  unfold handOn
  dsimp only
  split <;> split
  · exact (hsegments.trans (takeReply_moves _ _)).trans (airReport_moves _ _)
  · exact hsegments.trans (airReport_moves _ _)
  · exact hsegments.trans (takeReply_moves _ _)
  · exact hsegments

theorem takeFarFrame_moves (f : FarFrame) (s : State) : Moves s (takeFarFrame f s) := by
  unfold takeFarFrame
  split
  · split
    · exact (enterUp_moves s).trans (handOn_moves f _)
    · exact .refl s
  · split
    · exact handOn_moves f s
    · exact missFrame_moves s
  · exact .refl s

theorem enterLoopExit_moves (s : State) : Moves s (enterLoopExit s) := .alike (by simp [Alike])

theorem leavePending_moves (b : Bool) (s : State) : Moves s (leavePending b s) := .alike (by simp [Alike])

theorem askLoopEnd_moves (s : State) : Moves s (askLoopEnd s) := .alike (by simp [Alike])

theorem abortLoop_moves (r : AbortReason) (s : State) : Moves s (abortLoop r s) := by
  unfold abortLoop
  split
  · exact .refl s
  · split
    · split
      · exact .refl s
      · exact (decideLoop_moves _ s).trans (askLoopEnd_moves _)
    · exact .endRunning _ s

theorem enterHold_moves (s : State) : Moves s (enterHold s) := by
  have htaken := (((((Moves.lkc (fun l => { l with state := .held (.holdPending l.unsent.length false), upCount := 0, syncMiss := 0, lowRun := 0 })
    s).trans (updLoop_moves (fun p => { p with held := true }) _)).trans (linkStateEvent_moves _)).trans (departQueues_moves .up _)).trans
    (.bringup _))
  unfold enterHold
  dsimp only
  split
  · exact htaken.trans (leavePending_moves _ _)
  · exact htaken

theorem endHold_moves (s : State) : Moves s (endHold s) := by
  have hup := (((endCommand_moves s).trans (judgeLooped_moves _)).trans
    (.lkc (fun l => { l with state := .up, upCount := 0, syncMiss := 0, lowRun := 0 }) _)).trans (linkStateEvent_moves _)
  unfold endHold
  dsimp only
  split
  · exact (hup.trans (.endRunning _ _)).trans (.bringup _)
  · exact hup.trans (.bringup _)

theorem returnLooped_moves (n e : Nat) (s : State) : Moves s (returnLooped n e s) := by
  unfold returnLooped
  split
  · exact (countLooped_moves _ s).trans (.lkc _ _)
  · exact .refl s

theorem fixRung_moves (s : State) : Moves s (fixRung s) := by
  unfold fixRung
  split
  · unfold takeEffect
    dsimp only
    split
    · exact .lkc _ s
    · exact (Moves.lkc _ s).trans (.raiseAll _ _)
  · exact .lkc _ s

theorem reportRung_moves (n : Nat) (s : State) : Moves s (reportRung n s) := by
  unfold reportRung
  split
  · exact .refl s
  · exact tmuRungChange_moves _ s

theorem pushFrame_moves (b : Bool) (p : Nat) (g : List Segment) (s : State) : Moves s (pushFrame b p g s) := .alike (by simp [Alike])

theorem ageLooped_moves (s : State) : Moves s (ageLooped s) := by
  unfold ageLooped
  dsimp only
  split
  · exact .lkc _ s
  · exact (countLooped_moves _ s).trans (.lkc _ _)

theorem fillHeld_moves (s : State) : Moves s (fillHeld s) := by
  unfold fillHeld
  split
  · dsimp only
    have hpushed := ((updLoop_moves (fun p => { p with
      looped := p.looped + 1, sent := p.sent + (s.capacity s.lkc.rung - Config.controlReserve) }) s).trans
      (pushFrame_moves false (s.capacity s.lkc.rung - Config.controlReserve) [] _)).trans
      (.lkc (fun l => { l with looped := l.looped ++ [⟨l.frame, s.capacity s.lkc.rung - Config.controlReserve, 0⟩] }) _)
    split
    · exact hpushed.trans (enterLoopExit_moves _)
    · exact hpushed
  · exact pushFrame_moves _ _ _ s

theorem passAndDrain_moves (s : State) : Moves s (passAndDrain s).2.2 := (recordPass_moves _ _ _ s).trans (drainAll_moves _ _)

theorem fillUp_moves (s : State) : Moves s (fillUp s) :=
  (((((Moves.lkc Lkc.announce s).trans (passAndDrain_moves _)).trans (airFill_moves _ _ _)).trans (placeRequest_moves _ _)).trans
    (pushFrame_moves _ _ _ _)).trans (judgeAir_moves _)

theorem fillFrame_moves (s : State) : Moves s (fillFrame s) := by
  unfold fillFrame
  split
  · dsimp only
    have hpushed := (Moves.lkc Lkc.nextFrame s).trans (pushFrame_moves false 0 [] _)
    split
    · exact hpushed.trans (.endRunning _ _)
    · exact hpushed
  · have hnext := Moves.lkc (fun l => l.nextFrame.ageFar) s
    dsimp only
    split
    · exact (((hnext.trans (enterHold_moves _)).trans (fixRung_moves _)).trans (fillHeld_moves _)).trans (reportRung_moves _ _)
    · exact ((hnext.trans (fixRung_moves _)).trans (fillUp_moves _)).trans (reportRung_moves _ _)
  · exact (((((Moves.lkc (fun l => l.nextFrame.ageFar) s).trans (ageLooped_moves _)).trans (fixRung_moves _)).trans (fillHeld_moves _)).trans
      (reportRung_moves _ _))
  · exact .refl s

theorem sendFrame_moves (s : State) : Moves s (sendFrame s) := by
  unfold sendFrame
  split
  · exact .refl s
  · next f rest _ =>
    have hsent := (Moves.lkc (fun l => { l with unsent := rest }) s).trans
      (.emit (.airFrame f (if f.request then some s.tmu.site else none)) _)
    have hstamped := Moves.ite (c := f.request = true) (hsent.trans (stampRequest_moves f.number _)) hsent
    dsimp only
    split
    · split
      · exact hstamped.trans (leavePending_moves _ _)
      · exact hstamped.trans (.lkc _ _)
    · exact hstamped

end Sys2Proof.Machine

namespace Sys2Proof.Machine

open Sys2Proof

/-! ## Fitness judged afresh (R90, R129) -/

/-- The fitness a judgement gives slot `k`: a VACANT slot, and one without a record, keeps its own. -/
def State.judged (s : State) (k : Slot) : Bool :=
  match s.tenant k with
  | none => s.scu.fit.get k
  | some r => if r.state = .vacant then s.scu.fit.get k else s.tmu.cls.meets r.required

theorem judged_congr {s t : State} {k : Slot} (ht : t.scu.tenants = s.scu.tenants) (hc : t.tmu.cls = s.tmu.cls)
    (hf : t.scu.fit.get k = s.scu.fit.get k) : t.judged k = s.judged k := by
  simp [State.judged, State.tenant, ht, hc, hf]

theorem judged_of_record {s : State} {ts : PerSlot TenantRec} (h : s.scu.tenants = some ts) (k : Slot) :
    s.judged k = if (ts.get k).state = .vacant then s.scu.fit.get k else s.tmu.cls.meets (ts.get k).required := by
  simp [State.judged, State.tenant, h]

theorem judgeFitness_fit (s : State) (j k : Slot) :
    (judgeFitness s j).scu.fit.get k = if k = j then s.judged j else s.scu.fit.get k := by
  by_cases hk : k = j
  · subst hk
    unfold judgeFitness State.judged
    cases hr : s.tenant k with
    | none => simp
    | some r => by_cases hv : r.state = .vacant <;> simp [hv]; split <;> simp
  · unfold judgeFitness
    cases hr : s.tenant j with
    | none => simp [hk]
    | some r => by_cases hv : r.state = .vacant <;> simp [hv, hk]; split <;> simp [PerSlot.get_set_ne _ hk]

/-- TIME_UNFIT is raised in the slot judged, at its going from fit to unfit, and no kind else (R90). -/
theorem pends_judgeFitness (s : State) (j k : Slot) (e : EventKind) :
    (judgeFitness s j).pends k e = (s.pends k e || (decide (k = j ∧ e = .timeUnfit) && (s.scu.fit.get j && !s.judged j))) := by
  unfold judgeFitness State.judged
  cases hr : s.tenant j with
  | none => simp
  | some r =>
    by_cases hv : r.state = .vacant
    · simp [hv]
    · simp only [hv, if_false]
      split
      · next h => rw [pends_raiseIn, h, Bool.and_true]; rfl
      · next h => rw [Bool.not_eq_true] at h; rw [h, Bool.and_false, Bool.or_false]; rfl

theorem judgeSlots_fit (l : List Slot) (s : State) (hl : l.Nodup) (k : Slot) :
    (l.foldl judgeFitness s).scu.fit.get k = if k ∈ l then s.judged k else s.scu.fit.get k := by
  induction l generalizing s with
  | nil => simp
  | cons j l ih =>
    obtain ⟨hj, hl⟩ := List.nodup_cons.mp hl
    rw [List.foldl_cons, ih _ hl, judgeFitness_fit]
    by_cases hk : k = j
    · subst hk; simp [hj]
    · have hsame : (judgeFitness s j).judged k = s.judged k := judged_congr (by simp) (by simp) (by simp [judgeFitness_fit, hk])
      simp [hk, hsame]

theorem pends_judgeSlots (l : List Slot) (s : State) (hl : l.Nodup) (k : Slot) (e : EventKind) :
    (l.foldl judgeFitness s).pends k e
      = (s.pends k e || (decide (k ∈ l ∧ e = .timeUnfit) && (s.scu.fit.get k && !s.judged k))) := by
  induction l generalizing s with
  | nil => simp
  | cons j l ih =>
    obtain ⟨hj, hl⟩ := List.nodup_cons.mp hl
    rw [List.foldl_cons, ih _ hl, pends_judgeFitness, judgeFitness_fit]
    by_cases hk : k = j
    · subst hk; simp [hj]
    · have hsame : (judgeFitness s j).judged k = s.judged k := judged_congr (by simp) (by simp) (by simp [judgeFitness_fit, hk])
      simp [hk, hsame]

theorem bringup_judged (s : State) (k : Slot) : (bringup s).judged k = s.judged k := judged_congr (by simp) (by simp) (by simp)

theorem mem_allSlots (k : Slot) : k ∈ allSlots := by fin_cases k <;> decide

/-- A class told to SCU: every slot is judged by it. -/
theorem classPublished_fit (s : State) (k : Slot) : (classPublished s).scu.fit.get k = s.judged k := by
  have hfit : (classPublished s).scu.fit = (allSlots.foldl judgeFitness (bringup s)).scu.fit := by simp [classPublished]
  rw [hfit, judgeSlots_fit _ _ (by decide), bringup_judged, if_pos (mem_allSlots k)]

theorem pends_classPublished (s : State) (k : Slot) (e : EventKind) :
    (classPublished s).pends k e = ((bringup s).pends k e || (decide (e = .timeUnfit) && (s.scu.fit.get k && !s.judged k))) := by
  have hpends : (classPublished s).pends k e = (allSlots.foldl judgeFitness (bringup s)).pends k e :=
    pends_of_events (by simp [classPublished]) k e
  rw [hpends, pends_judgeSlots _ _ (by decide), bringup_judged]
  simp [mem_allSlots k]

/-- The class derived put in force, with TIME_QUALITY in every slot (R129). -/
def publish (s : State) : State := raiseAll .timeQuality (s.updTmu fun t => { t with cls := t.derivedClass })

theorem deriveClass_same {s : State} (h : s.tmu.derivedClass = s.tmu.cls) : deriveClass s = s := by simp [deriveClass, h]

theorem deriveClass_publishes {s : State} (h : s.tmu.derivedClass ≠ s.tmu.cls) : deriveClass s = classPublished (publish s) := by
  simp [deriveClass, h, publish]

@[simp] theorem publish_frame (s : State) :
    (publish s).scu = s.scu ∧ (publish s).tmu = { s.tmu with cls := s.tmu.derivedClass } ∧ (publish s).tsu = s.tsu
      ∧ (publish s).tqm = s.tqm ∧ (publish s).gre = s.gre ∧ (publish s).lkc = s.lkc := by
  simp [publish]

theorem pends_publish (s : State) (k : Slot) (e : EventKind) : (publish s).pends k e = (s.pends k e || decide (e = .timeQuality)) :=
  pends_raiseAll _ _ _ _

/-- What a publication leaves: the clock but for the class, the lines right, the fitness judged by the new class (R129). -/
theorem deriveClass_tmu (s : State) : (deriveClass s).tmu = { s.tmu with cls := s.tmu.derivedClass } := by
  by_cases h : s.tmu.derivedClass = s.tmu.cls
  · rw [deriveClass_same h, h]
  · rw [deriveClass_publishes h]; simp

theorem classPublished_right (s : State) : (classPublished s).inhibitsRight := recomputeInhibit_right _

/-- The judgements and the lines leave the site, the queues and the orders as the bring-up step left them. -/
theorem classPublished_same (s : State) :
    (classPublished s).scu.site = (bringup s).scu.site ∧ (classPublished s).tqm = (bringup s).tqm
      ∧ (classPublished s).tsu = (bringup s).tsu := by
  unfold classPublished
  simp [judgeFitnessAll_keeps _ (fun s => s.tsu), judgeFitnessAll_keeps _ (fun s => s.tqm), judgeFitnessAll_keeps _ (fun s => s.scu.site)]

theorem classPublished_noIdle (s : State) : (classPublished s).tsu.noIdle := by
  rw [(classPublished_same s).2.2]
  exact bringup_noIdle s

end Sys2Proof.Machine

namespace Sys2Proof.Machine

open Sys2Proof

/-! ## What the moves keep -/

/-- Between two states the lines and the fitness stay right, no kind ceases to be pending, a change of the published class raises
TIME_QUALITY in every slot, and a slot's going from fit to unfit raises TIME_UNFIT in it. -/
structure Follows (s t : State) : Prop where
  lines : s.inhibitsRight → t.inhibitsRight
  fitness : s.fitnessRight → t.fitnessRight
  keeps : ∀ k e, s.pends k e = true → t.pends k e = true
  quality : t.tmu.cls ≠ s.tmu.cls → ∀ k, t.pends k .timeQuality = true
  unfit : ∀ k, s.scu.fit.get k = true → t.scu.fit.get k = false → t.pends k .timeUnfit = true

theorem Follows.refl (s : State) : Follows s s :=
  ⟨id, id, fun _ _ => id, fun h => absurd rfl h, fun k h h' => absurd (h.symm.trans h') (by decide)⟩

theorem Follows.trans {s t u : State} (h1 : Follows s t) (h2 : Follows t u) : Follows s u where
  lines := h2.lines ∘ h1.lines
  fitness := h2.fitness ∘ h1.fitness
  keeps k e := h2.keeps k e ∘ h1.keeps k e
  quality hc k := by
    by_cases hu : u.tmu.cls = t.tmu.cls
    · exact h2.keeps k _ (h1.quality (hu ▸ hc) k)
    · exact h2.quality hu k
  unfit k hs hu := by
    cases ht : t.scu.fit.get k with
    | true => exact h2.unfit k ht hu
    | false => exact h2.keeps k _ (h1.unfit k hs ht)

/-- With the records, the fitness and the class as they were it is enough that the lines stay right and no kind ceases to be pending. -/
theorem Follows.of_same {s t : State} (ht : t.scu.tenants = s.scu.tenants) (hf : t.scu.fit = s.scu.fit) (hc : t.tmu.cls = s.tmu.cls)
    (hl : s.inhibitsRight → t.inhibitsRight) (hk : ∀ k e, s.pends k e = true → t.pends k e = true) : Follows s t where
  lines := hl
  fitness := fitnessRight_congr ht hf hc
  keeps := hk
  quality h := absurd hc h
  unfit k h h' := by rw [hf, h] at h'; exact absurd h' (by decide)

theorem OrderMoves.follows {s t : State} (h : OrderMoves s t) : Follows s t := by
  obtain ⟨hm, -, ht, hf⟩ := h.stands
  exact .of_same ht hf (by rw [hm]) h.inhibits fun k e => (h.pends k e).1

theorem pends_bringup (s : State) (k : Slot) (e : EventKind) (h : s.pends k e = true) : (bringup s).pends k e = true :=
  ((bringup_moves s).pends k e).1 h

theorem deriveClass_follows (s : State) : Follows s (deriveClass s) := by
  by_cases hd : s.tmu.derivedClass = s.tmu.cls
  · rw [deriveClass_same hd]; exact .refl s
  rw [deriveClass_publishes hd]
  have hjudged : ∀ k, (classPublished (publish s)).scu.fit.get k = (publish s).judged k := classPublished_fit _
  have hkeeps : ∀ k e, (publish s).pends k e = true → (classPublished (publish s)).pends k e = true := fun k e h => by
    rw [pends_classPublished, pends_bringup _ _ _ h, Bool.true_or]
  refine ⟨fun _ => classPublished_right _, fun hfit ts hts k => ?_, fun k e h => hkeeps k e ?_, fun _ k => hkeeps k _ ?_, fun k hs ht => ?_⟩
  · simp only [classPublished_frame, publish_frame] at hts
    rw [hjudged, judged_of_record (ts := ts) (by simpa using hts), (classPublished_frame _).2.2.2.1]
    split
    · next hv => simp [hv, hfit ts hts k]
    · next hv => simp [hv]
  · rw [pends_publish, h, Bool.true_or]
  · simp [pends_publish]
  · rw [hjudged] at ht
    rw [pends_classPublished]
    simp [hs, ht]

theorem Moves.follows {s t : State} (h : Moves s t) : Follows s t := by
  induction h with
  | refl s => exact .refl s
  | trans _ _ ih1 ih2 => exact ih1.trans ih2
  | orders h => exact h.follows
  | raise e k s =>
    exact .of_same (by simp) (by simp) (by simp) (inhibitsRight_congr (by simp) (by simp) (by simp) (by simp))
      fun j x h => by rw [pends_raiseIn, h, Bool.true_or]
  | raiseAll e s =>
    exact .of_same (by simp) (by simp) (by simp) (inhibitsRight_congr (by simp) (by simp) (by simp) (by simp))
      fun j x h => by rw [pends_raiseAll, h, Bool.true_or]
  | grants f s => exact .of_same rfl rfl rfl (inhibitsRight_congr rfl rfl rfl rfl) fun _ _ => id
  | clock f s hc => exact .of_same rfl rfl hc (inhibitsRight_congr rfl rfl rfl rfl) fun _ _ => id
  | derive f s hc =>
    exact (Follows.of_same (s := s) (t := s.updTmu f) rfl rfl hc (inhibitsRight_congr rfl rfl rfl rfl) fun _ _ => id).trans (deriveClass_follows _)

/-- The bounds that every step keeps (R67, R96, R152, R161, R162), the settled queue (R166), the derived class (R129), and the loaded
tables (R2). -/
structure Keeps (s t : State) : Prop where
  queues : s.queuesBounded → t.queuesBounded
  grants : s.grantsBounded → t.grantsBounded
  rates : s.ratesBounded → t.ratesBounded
  orders : s.ordersBounded → t.ordersBounded
  noIdle : s.noIdleQueue → t.noIdleQueue
  derived : s.classDerived → t.classDerived
  loaded : s.scu.site ≠ .loading → t.scu.site ≠ .loading

theorem Keeps.refl (s : State) : Keeps s s := ⟨id, id, id, id, id, id, id⟩

theorem Keeps.trans {s t u : State} (h1 : Keeps s t) (h2 : Keeps t u) : Keeps s u :=
  ⟨h2.queues ∘ h1.queues, h2.grants ∘ h1.grants, h2.rates ∘ h1.rates, h2.orders ∘ h1.orders, h2.noIdle ∘ h1.noIdle, h2.derived ∘ h1.derived,
    h2.loaded ∘ h1.loaded⟩

/-- With these blocks and the site as they were every bound stands. -/
theorem Keeps.of_same {s t : State} (hq : t.tqm = s.tqm) (hg : t.gre = s.gre) (hm : t.tmu = s.tmu) (ho : t.tsu = s.tsu)
    (hs : t.scu.site = s.scu.site) : Keeps s t :=
  ⟨by simp [State.queuesBounded, hq], by simp [State.grantsBounded, hg], by simp [State.ratesBounded, hm], by simp [State.ordersBounded, ho],
    by simp [State.noIdleQueue, ho], by simp [State.classDerived, hm], by simp [hs]⟩

theorem OrderMoves.keeps {s t : State} (h : OrderMoves s t) (hi : s.tsu.noIdle → t.tsu.noIdle) : Keeps s t := by
  obtain ⟨hm, hg, -, -⟩ := h.stands
  exact ⟨fun hq k => h.queues k (hq k), by simp [State.grantsBounded, hg], by simp [State.ratesBounded, hm], h.bounded,
    fun hn => (noIdleQueue_iff t).mpr (hi ((noIdleQueue_iff s).mp hn)),
    by simp [State.classDerived, hm], h.loaded⟩

theorem deriveClass_derived (s : State) : (deriveClass s).classDerived := by
  rw [State.classDerived, deriveClass_tmu]
  rfl

theorem deriveClass_keeps (s : State) : Keeps s (deriveClass s) := by
  by_cases hd : s.tmu.derivedClass = s.tmu.cls
  · rw [deriveClass_same hd]; exact .refl s
  have hderived := deriveClass_derived s
  rw [deriveClass_publishes hd] at hderived ⊢
  have hmoves := bringup_moves (publish s)
  obtain ⟨hsite, hqueues, horders⟩ := classPublished_same (publish s)
  refine ⟨fun h k => ?_, by simp [State.grantsBounded], by simp [State.ratesBounded], fun h => ?_, fun _ => classPublished_noIdle _,
    fun _ => hderived, fun h => ?_⟩
  · rw [hqueues]; exact hmoves.queues k (by simpa using h k)
  · rw [ordersBounded_iff, horders]; exact hmoves.bounded (by simpa using (ordersBounded_iff s).mp h)
  · rw [hsite]; exact hmoves.loaded (by simpa using h)

theorem Moves.keeps {s t : State} (h : Moves s t) : Keeps s t := by
  induction h with
  | refl s => exact .refl s
  | trans _ _ ih1 ih2 => exact ih1.trans ih2
  | orders h hi => exact h.keeps hi
  | raise | raiseAll => exact .of_same (by simp) (by simp) (by simp) (by simp) (by simp)
  | grants f s h => exact ⟨id, fun hg => (grantsBounded_iff _).mpr fun k => h k ((grantsBounded_iff s).mp hg k), id, id, id, id, id⟩
  | clock f s hc hd hr => exact ⟨id, id, fun h => (ratesBounded_iff _).mpr (hr ((ratesBounded_iff s).mp h)), id, id,
      fun h => hc.trans (h.trans hd.symm), id⟩
  | derive f s hc hr =>
    have hderive := deriveClass_keeps (s.updTmu f)
    exact ⟨hderive.queues, hderive.grants, hderive.rates ∘ hr, hderive.orders, hderive.noIdle, fun _ => deriveClass_derived _, hderive.loaded⟩

end Sys2Proof.Machine

namespace Sys2Proof.Machine

open Sys2Proof

/-! ## What a command can leave -/

/-- Every state an outcome goes on with has the property. -/
def Leaves (r : Result) (P : State → Prop) : Prop := ∀ t, r = .next t → P t

/-- Every state a taken request leaves has the property. -/
def Takes (v : Verdict) (P : State → Prop) : Prop := ∀ data t, v = .ok (data, t) → P t

theorem Leaves.next {P : State → Prop} {t : State} (h : P t) : Leaves (.next t) P := by
  intro u hu; cases hu; exact h

theorem Leaves.refused {P : State → Prop} (r : Refusal) : Leaves (.refused r) P := fun _ h => nomatch h

theorem Leaves.ite {P : State → Prop} {c : Prop} [Decidable c] {r r' : Result} (h1 : Leaves r P) (h2 : Leaves r' P) :
    Leaves (if c then r else r') P := by
  split
  · exact h1
  · exact h2

theorem Takes.error {P : State → Prop} (st : Status) (data : List Field) : Takes (.error (st, data)) P := fun _ _ h => nomatch h

theorem Takes.refuse {P : State → Prop} (st : Status) : Takes (refuse st) P := Takes.error st []

theorem Takes.taken {P : State → Prop} {t : State} (data : List Field) (h : P t) : Takes (taken data t) P := by
  intro d u hu; cases hu; exact h

theorem Takes.withParams {P : State → Prop} {α : Type} (o : Option α) {f : α → Verdict} (h : ∀ a, Takes (f a) P) :
    Takes (withParams o f) P := by
  cases o with
  | none => exact .refuse _
  | some a => exact h a

theorem Takes.ite {P : State → Prop} {c : Prop} [Decidable c] {v w : Verdict} (h1 : c → Takes v P) (h2 : ¬c → Takes w P) :
    Takes (if c then v else w) P := by
  split
  · next h => exact h1 h
  · next h => exact h2 h

/-- What holds of every answer, a refusal's over the state and a taken request's over what it leaves, holds of the end of `serve`. -/
theorem serve_ends {P : State → Prop} {k : Slot} {tag : Byte} {p f : Bool} {v : Verdict} {s : State}
    (hr : ∀ st data, P (answer k tag st data s)) (ht : Takes v fun t => ∀ data, P (answer k tag .ok data t)) :
    P (serve k tag p f v s) := by
  obtain ⟨-, h⟩ | ⟨-, -, h⟩ | ⟨-, -, -, -, h⟩ | ⟨-, -, -, ⟨st, data, -, h⟩ | ⟨data, t, hv, h⟩⟩ := serve_cases k tag p f v s <;> rw [h]
  · exact hr _ _
  · exact hr _ _
  · exact hr _ _
  · exact hr _ _
  · exact ht data t hv data

/-! ## Commands that are made of moves -/

theorem serve_moves {k : Slot} {tag : Byte} {p f : Bool} {v : Verdict} {s : State} (h : Takes v (Moves s)) :
    Moves s (serve k tag p f v s) :=
  serve_ends (fun st data => .answer _ _ st data s) fun data t hv _ => (h data t hv).trans (.answer _ _ _ _ _)

theorem reads_moves (ps : List Byte) (data : List Field) (s : State) : Takes (reads ps data s) (Moves s) :=
  .withParams _ fun _ => .taken _ (.refl s)

theorem readsSlot_moves (ps : List Byte) (data : Slot → List Field) (s : State) : Takes (readsSlot ps data s) (Moves s) :=
  .withParams _ fun _ => .withParams _ fun _ => .taken _ (.refl s)

/-! ### The site -/

theorem judgeBeginBringup_moves (ps : List Byte) (s : State) : Takes (judgeBeginBringup ps s) (Moves s) := by
  refine .ite (fun _ => .refuse _) fun _ => .withParams _ fun _ => ?_
  split
  · exact .error _ _
  · exact .taken _ ((Moves.site .bringup s (by decide)).trans (enterDiscovery_moves _))

theorem judgeRetryAcceptance_moves (ps : List Byte) (s : State) : Takes (judgeRetryAcceptance ps s) (Moves s) := by
  refine .ite (fun _ => .refuse _) fun _ => .withParams _ fun _ => .ite (fun _ => .taken _ ?_) fun hne =>
    .ite (fun hroom => .taken _ ?_) fun _ => .refuse _
  · exact (Moves.alike (t := clearFailure s) (by simp [Alike, clearFailure])).trans (.orders (enterService_moves _ _) (by simp))
  · exact .settled (((queueAcceptance_moves s hroom hne).trans (.alike (t := clearFailure (queueAcceptance s)) (by simp [Alike, clearFailure]))).trans
      (.site _ _ (by decide)))

theorem judgeForceService_moves (ps : List Byte) (s : State) : Takes (judgeForceService ps s) (Moves s) :=
  .ite (fun _ => .refuse _) fun _ => .withParams _ fun _ => .taken _
    ((Moves.alike (t := s.updScu fun c => { c with tracking := [] }) (by simp [Alike])).trans (.orders (enterService_moves _ _) (by simp)))

theorem judgeSetAcceptanceSet_moves (ps : List Byte) (s : State) : Takes (judgeSetAcceptanceSet ps s) (Moves s) :=
  .withParams _ fun ts => .ite (fun _ => .refuse _) fun _ => .taken _
    ((Moves.alike (t := s.updScu fun c => { c with acceptanceSet := ts }) (by simp [Alike])).trans (.bringup _))

theorem setSiteClass_moves (c : TimeClass) (s : State) : Moves s (bringup (s.updScu fun x => { x with siteClass := c })) :=
  (Moves.alike (t := s.updScu fun x => { x with siteClass := c }) (by simp [Alike])).trans (.bringup _)

theorem judgeSetCommitCeiling_moves (ps : List Byte) (s : State) : Takes (judgeSetCommitCeiling ps s) (Moves s) :=
  .withParams _ fun _ => .ite (fun _ => .refuse _) fun _ => .ite (fun _ => .refuse _) fun _ => .taken _ (.alike (by simp [Alike]))

/-! ### The link -/

theorem judgeLinkRestart_moves (ps : List Byte) (s : State) : Takes (judgeLinkRestart ps s) (Moves s) :=
  .ite (fun _ => .refuse _) fun _ => .withParams _ fun _ => .taken _ (enterDiscovery_moves s)

theorem judgeSetRungLimits_moves (ps : List Byte) (s : State) : Takes (judgeSetRungLimits ps s) (Moves s) :=
  .withParams _ fun _ => .ite (fun _ => .refuse _) fun _ => .taken _ (.lkc _ s)

theorem judgeWriteProfile_moves (ps : List Byte) (s : State) : Takes (judgeWriteProfile ps s) (Moves s) := by
  refine .withParams _ fun w => ?_
  dsimp only
  split
  · exact .ite (fun _ => .refuse _) fun _ => .ite (fun _ => .refuse _) fun _ => .taken _ (.lkc _ s)
  · exact .ite (fun _ => .taken _ (.lkc _ s)) fun _ => .refuse _

theorem judgeSetLinkLimits_moves (ps : List Byte) (s : State) : Takes (judgeSetLinkLimits ps s) (Moves s) :=
  .withParams _ fun _ => .ite (fun _ => .taken _ (.lkc _ s)) fun _ => .refuse _

theorem retryDiscovery_moves (step : DiscoveryStep) (c : OduCommand) (last : State → State) (h : ∀ s, Moves s (last s)) (s : State) :
    Moves s (retryDiscovery step c last s) := by
  unfold retryDiscovery
  split
  · exact .ite ((Moves.lkc _ s).trans (sendOdu_moves _ _ _)) ((endCommand_moves s).trans (h _))
  · exact .refl s

/-! ### Test orders -/

theorem judgeOrderTest_moves (k : Slot) (ps : List Byte) (s : State) : Takes (judgeOrderTest k ps s) (Moves s) :=
  .withParams _ fun _ => .ite (fun _ => .refuse _) fun hroom => .taken _
    (.settled (.orders _ s (Tsu.place_bounded _ _ _ (by simpa [Config.maxOrders] using hroom))))

theorem cancelOrder_moves (o : Order) (s : State) : Moves s (cancelOrder o s) := by
  unfold cancelOrder
  split
  · split
    · exact abortLoop_moves _ s
    · exact .endRunning _ s
  · refine .settled (OrderMoves.trans (.orders _ s (Tsu.bounded_of_sublist ?_ (le_refl _))) (completeOrder_moves _ _ _ _))
    exact (List.Sublist.refl _).append List.filter_sublist

theorem judgeCancelTest_moves (k : Slot) (ps : List Byte) (s : State) : Takes (judgeCancelTest k ps s) (Moves s) := by
  refine .withParams _ fun _ => .ite (fun _ => .refuse _) fun _ => ?_
  split
  · exact .refuse _
  · exact .ite (fun _ => .refuse _) fun _ => .ite (fun _ => .refuse _) fun _ => .taken _ (cancelOrder_moves _ s)

/-! ### Time -/

theorem judgeSetTime_moves (ps : List Byte) (s : State) : Takes (judgeSetTime ps s) (Moves s) :=
  .ite (fun _ => .refuse _) fun _ => .withParams _ fun _ => .ite (fun _ => .taken _ (stepTime_moves _ s)) fun _ => .refuse _

theorem writePriority_moves (src : Source) (n : Nat) (s : State) : Moves s (writePriority src n s) := by
  have hwritten : Moves s (s.updTmu fun t => { t.updSource src (fun r => r.atPriority n) with params := t.params.setPriority src n }) := by
    cases src <;> exact .clock _ s rfl rfl id
  exact (Moves.ite (hwritten.trans (tsuSourceLeft_moves _)) hwritten).trans (judgeSelection_moves _)

theorem setSourcePriority_moves (ps : List Byte) (s : State) :
    Takes (withParams (priorityParams ps) fun p => if 7 < p.2 then refuse .badValue else taken [] (writePriority p.1 p.2 s)) (Moves s) :=
  .withParams _ fun _ => .ite (fun _ => .refuse _) fun _ => .taken _ (writePriority_moves _ _ s)

theorem preset_moves (v : Int) (s : State) (hv : ¬(v < -Config.maxCorrection ∨ Config.maxCorrection < v)) :
    Moves s (s.updTmu fun t => t.preset v) := by
  have hin : -12800000 ≤ v ∧ v ≤ 12800000 := by unfold Config.maxCorrection at hv; omega
  refine .clock _ s ?_ ?_ fun ⟨h1, h2, _, _⟩ => ?_ <;> unfold Tmu.preset
  · split <;> rfl
  · split <;> simp [Tmu.derivedClass, *]
  · split <;> simp [Tmu.ratesBounded, hin, h1, h2]

theorem presetIntegrator_moves (ps : List Byte) (s : State) :
    Takes (withParams (integratorParam ps) fun v =>
      if v < -Config.maxCorrection ∨ Config.maxCorrection < v then refuse .badValue else taken [] (s.updTmu fun t => t.preset v)) (Moves s) :=
  .withParams _ fun v => .ite (fun _ => .refuse _) fun hv => .taken _ (preset_moves v s hv)

theorem judgeSetLoopBank_moves (ps : List Byte) (s : State) : Takes (judgeSetLoopBank ps s) (Moves s) := by
  refine .withParams _ fun w => .ite (fun _ => .taken _ (.clock _ s rfl ?_ id)) fun _ => .refuse _
  cases w.1 <;> rfl

theorem writeLimits_moves (w : LimitWrite) (s : State) : Moves s (writeLimits w s) := by
  unfold writeLimits
  dsimp only
  split
  · exact .derive _ s rfl id
  · next h =>
    simp only [Bool.or_eq_true, not_or, Bool.not_eq_true, Option.isSome_eq_false_iff, Option.isNone_iff_eq_none] at h
    exact .clock _ s rfl (by simp [Tmu.derivedClass, LimitWrite.into, h]) id

theorem judgeSetTimeLimits_moves (ps : List Byte) (s : State) : Takes (judgeSetTimeLimits ps s) (Moves s) :=
  .withParams _ fun w => .ite (fun _ => .taken _ (writeLimits_moves w s)) fun _ => .refuse _

theorem judgeClearTimeSticky_moves (ps : List Byte) (s : State) : Takes (judgeClearTimeSticky ps s) (Moves s) :=
  .withParams _ fun _ => .ite (fun _ => .refuse _) fun _ => .taken _ (.clock _ s rfl rfl id)

/-! ### The slot interface, the store and the grants -/

theorem judgeWriteAccess_moves (ps : List Byte) (s : State) : Takes (judgeWriteAccess ps s) (Moves s) :=
  .withParams _ fun _ => .withParams _ fun _ => .ite (fun _ => .refuse _) fun _ => .taken _ (.alike (by simp [Alike, writeRow]))

theorem judgeSaveDescriptor_moves (k : Slot) (ps : List Byte) (s : State) : Takes (judgeSaveDescriptor k ps s) (Moves s) :=
  .withParams _ fun _ => .ite (fun _ => .refuse _) fun _ => .taken _ (.alike (by simp [Alike, beginSave]))

theorem clearCounters_moves (k : Slot) (s : State) : Moves s (clearCounters k s) := by
  refine (Moves.traffic (fun q => q.modify k Traffic.clearCounters) s (queuesKept_modify _ _ _ id)).trans (.grants _ _ fun j hj => ?_)
  by_cases hjk : j = k
  · subst hjk; simpa [GrantRec.clearCounters, GrantRec.bounded] using hj
  · simpa [PerSlot.get_modify_ne _ hjk] using hj

theorem judgeSetGrantLimits_moves (ps : List Byte) (s : State) : Takes (judgeSetGrantLimits ps s) (Moves s) :=
  .withParams _ fun _ => .ite (fun _ => .taken _ (.grants _ s fun _ => id)) fun _ => .refuse _

theorem endSave_moves (v : Save) (good : Bool) (s : State) : Moves s (endSave v good s) :=
  (Moves.alike (by simp [Alike])).trans (.raise _ _ _)

theorem enterPhase_moves (v : Save) (p : SavePhase) (c : FlashCommand) (s : State) : Moves s (enterPhase v p c s) :=
  .alike (by simp [Alike, enterPhase])

theorem inPhase_moves (p : SavePhase) (s : State) (f : Save → State) (h : ∀ v, Moves s (f v)) : Moves s (inPhase p s f) := by
  unfold inPhase
  split
  · exact .ite (h _) (.refl s)
  · exact .refl s

/-- The commands that empty an event record or write one, that write a tenant record, or that put tables in force. -/
def plainCommand (c : Instr) : Bool :=
  match c with
  | .powerOnReset .. | .descriptorLoad .. | .siteReset .. | .tenantReset .. | .ackEvents .. | .setEventEnables .. | .setSlotState ..
  | .writeShare .. | .writeTuning .. => false
  | _ => true

/-- Every other command is made of moves. -/
theorem exec_moves {c : Instr} (hc : plainCommand c = true) (s : State) : Leaves (exec c s) (Moves s) := by
  cases c with
  | powerOnReset | descriptorLoad | siteReset | tenantReset | ackEvents | setEventEnables | setSlotState | writeShare | writeTuning =>
    exact absurd hc Bool.false_ne_true
  | readAccess | readEvents | siteStatus | linkStatus | readProfiles | timeRead | timeStatus | testStatus | descriptorStatus =>
    exact .next (serve_moves (reads_moves _ _ s))
  | readTenant | queueStatus | grantStatus => exact .next (serve_moves (readsSlot_moves _ _ s))
  | identify k tag ps =>
    refine .next ?_
    cases hv : reads ps (identifyData k s) s with
    | error e => exact .answer _ _ _ _ s
    | ok r => exact (reads_moves _ _ s _ _ hv).trans (.answer _ _ _ _ _)
  | readResults => exact .next (serve_moves (.withParams _ fun _ => .taken _ (.refl s)))
  | requestWriteBegin k => exact .next (.alike (by simp [Alike]))
  | corruptFrame k frame =>
    change Leaves (execCorruptFrame k frame s) _
    unfold execCorruptFrame
    split
    · exact .next (.refl s)
    · split
      · exact .next (.answer _ _ _ _ s)
      · exact .refused _
  | unknownName => exact .ite (.refused _) (.next (.answer _ _ _ _ s))
  | responseRead k n =>
    change Leaves (execResponseRead k n s) _
    unfold execResponseRead
    split
    · exact .next (.emit _ s)
    · dsimp only
      split
      · exact .next (.emit _ s)
      · exact .next (.alike (by simp [Alike]))
  | writeAccess => exact .next (serve_moves (judgeWriteAccess_moves _ s))
  | setLock => exact .next (serve_moves (.withParams _ fun _ => .taken _ (.alike (by simp [Alike, setLockState]))))
  | beginBringup => exact .next (serve_moves (judgeBeginBringup_moves _ s))
  | retryAcceptance => exact .next (serve_moves (judgeRetryAcceptance_moves _ s))
  | forceService => exact .next (serve_moves (judgeForceService_moves _ s))
  | setAcceptanceSet => exact .next (serve_moves (judgeSetAcceptanceSet_moves _ s))
  | setSiteClass => exact .next (serve_moves (.withParams _ fun _ => .taken _ (setSiteClass_moves _ s)))
  | setCommitCeiling => exact .next (serve_moves (judgeSetCommitCeiling_moves _ s))
  | clearCounters => exact .next (serve_moves (.withParams _ fun _ => .withParams _ fun _ => .taken _ (clearCounters_moves _ s)))
  | linkRestart => exact .next (serve_moves (judgeLinkRestart_moves _ s))
  | setRungLimits => exact .next (serve_moves (judgeSetRungLimits_moves _ s))
  | writeProfile => exact .next (serve_moves (judgeWriteProfile_moves _ s))
  | setLinkLimits => exact .next (serve_moves (judgeSetLinkLimits_moves _ s))
  | setGrantLimits => exact .next (serve_moves (judgeSetGrantLimits_moves _ s))
  | setTime => exact .next (serve_moves (judgeSetTime_moves _ s))
  | setSourcePriority => exact .next (serve_moves (setSourcePriority_moves _ s))
  | presetIntegrator => exact .next (serve_moves (presetIntegrator_moves _ s))
  | setLoopBank => exact .next (serve_moves (judgeSetLoopBank_moves _ s))
  | setTimeLimits => exact .next (serve_moves (judgeSetTimeLimits_moves _ s))
  | clearTimeSticky => exact .next (serve_moves (judgeClearTimeSticky_moves _ s))
  | orderTest => exact .next (serve_moves (judgeOrderTest_moves _ _ s))
  | cancelTest => exact .next (serve_moves (judgeCancelTest_moves _ _ s))
  | saveDescriptor => exact .next (serve_moves (judgeSaveDescriptor_moves _ _ s))
  | oduIdentifyReply => exact .ite (.next ((Moves.lkc _ s).trans (sendOdu_moves _ _ _))) (.next (.refl s))
  | identifyReplyLimit => exact .ite (.next (retryDiscovery_moves _ _ _ (failDiscovery_moves _) s)) (.next (.refl s))
  | readPageReply => exact .ite (.next ((endCommand_moves s).trans (buildLadder_moves _ _))) (.next (.refl s))
  | readPageReplyLimit => exact .ite (.next (retryDiscovery_moves _ _ _ (buildLadder_moves _) s)) (.next (.refl s))
  | loopOnConfirmed => exact .next (takeConfirm_moves _ _ (fun s => (endCommand_moves s).trans (.lkc _ _)) s)
  | loopOnLimit => exact .ite (.next ((decideLoop_moves _ s).trans (enterLoopExit_moves _))) (.next (.refl s))
  | loopOffConfirmed => exact .next (takeConfirm_moves _ _ endHold_moves s)
  | loopOffLimit => exact .ite (.next (((Moves.lkc _ s).trans (judgeLooped_moves _)).trans (enterLost_moves _ _))) (.next (.refl s))
  | loopedFrameReturn => exact .next (returnLooped_moves _ _ s)
  | statusReport | missingStatusReport => exact .next (takeReport_moves _ s)
  | farFrame => exact .next (takeFarFrame_moves _ s)
  | missingFarFrame => exact .ite (.next (missFrame_moves s)) (.next (.refl s))
  | backoffExpiry => exact .ite (.next (enterAcquiring_moves s)) (.next (.refl s))
  | frameFill => exact .next (fillFrame_moves s)
  | frameLeavesRadioPort => exact .next (sendFrame_moves s)
  | packetArrival => exact .next (arrive_moves _ _ _ s)
  | gnssTimeMessage bytes =>
    change Leaves (execGnssTimeMessage bytes s) _
    unfold execGnssTimeMessage
    split
    · exact .next (.clock _ s rfl rfl id)
    · exact .next (.refl s)
  | gnssPulse => exact .next (gnssPulse_moves s)
  | pulseTimerExpiry => exact .next (pulseTimerExpiry_moves s)
  | siteSecondBoundary => exact .next (siteSecond_moves _ s)
  | replyTimerExpiry => exact .next (replyTimerExpiry_moves s)
  | ppsEmission => exact .next (ppsCrossing_moves _ _ s)
  | ppsDelayedEmission | ppsPulseEnd => exact .next (.clock _ s rfl rfl id)
  | portLoopPacketSend => exact .next (sendTestPacket_moves s)
  | portLoopReturn => exact .next (returnTestPacket_moves _ s)
  | loopTimerExpiry => exact .next (expireLoopTimer_moves s)
  | eraseComplete | programComplete => exact .next (inPhase_moves _ s _ fun _ => enterPhase_moves _ _ _ s)
  | verifyComplete => exact .next (inPhase_moves _ s _ fun _ => .ite (enterPhase_moves _ _ _ s) (endSave_moves _ _ s))
  | commitComplete => exact .next (inPhase_moves _ s _ fun _ => endSave_moves _ _ s)
  | saveTimerExpiry =>
    change Leaves (execSaveTimerExpiry s) _
    unfold execSaveTimerExpiry
    split
    · split
      · exact .next (endSave_moves _ _ s)
      · exact .next (.refl s)
    · exact .next (.refl s)

end Sys2Proof.Machine

namespace Sys2Proof.Machine

open Sys2Proof

/-! ## Resets, and writes of an event record -/

/-- The event records alone differ. -/
def EventsApart (s u : State) : Prop := u = { s with sli := { s.sli with events := u.sli.events } }

/-- A state that moves lead to, after a change of the event records alone. -/
def Reaches (s t : State) : Prop := ∃ u, EventsApart s u ∧ Moves u t

theorem Moves.reaches {s t : State} (h : Moves s t) : Reaches s t := ⟨s, rfl, h⟩

theorem Reaches.moves {s t u : State} (h1 : Reaches s t) (h2 : Moves t u) : Reaches s u := by
  obtain ⟨v, hv, hm⟩ := h1
  exact ⟨v, hv, hm.trans h2⟩

theorem serve_reaches {k : Slot} {tag : Byte} {p f : Bool} {v : Verdict} {s : State} (h : Takes v (Reaches s)) :
    Reaches s (serve k tag p f v s) :=
  serve_ends (fun st data => (Moves.answer _ _ st data s).reaches) fun data t hv _ => (h data t hv).moves (.answer _ _ _ _ _)

theorem updEvents_reaches (k : Slot) (f : EventRec → EventRec) (s : State) : Reaches s (updEvents k f s) := ⟨updEvents k f s, rfl, .refl _⟩

theorem judgeAckEvents_reaches (k : Slot) (ps : List Byte) (s : State) : Takes (judgeAckEvents k ps s) (Reaches s) :=
  .withParams _ fun _ => .ite (fun _ => .refuse _) fun _ => .taken _ (updEvents_reaches k _ s)

theorem judgeSetEventEnables_reaches (k : Slot) (ps : List Byte) (s : State) : Takes (judgeSetEventEnables k ps s) (Reaches s) :=
  .withParams _ fun _ => .ite (fun _ => .taken _ (updEvents_reaches k _ s)) fun _ => .refuse _

theorem resetSite_bounded (t : Traffic) : t.resetSite.bounded := flushed_bounded t

theorem siteResetSite_moves (s : State) : Moves s (siteResetSite s) :=
  (Moves.alike (t := s.updScu fun c => { c with tracking := [], failure := none, entry := none, wait := none }) (by simp [Alike])).trans
    (.site _ _ (by split <;> decide))

theorem tsuSiteReset_moves (s : State) : Moves s (tsuSiteReset s) :=
  (Moves.orders (.orders (fun t => { t with queued := [] }) s (Tsu.bounded_of_sublist (by simp [Tsu.orders]) (le_refl _))) fun _ _ => rfl).trans
    (.endRunning _ _)

theorem siteReset_moves (s : State) : Moves (emptyPending s) (siteReset s) := by
  have hqueues : Moves (siteResetSite (emptyPending s)) ((siteResetSite (emptyPending s)).updTqm fun t => t.map Traffic.resetSite) :=
    .traffic _ _ (queuesKept_map _ _ fun t _ => resetSite_bounded t)
  have hgrants := hqueues.trans (.grants (fun g => { g with slots := g.slots.map GrantRec.clear }) _
    fun k _ => by simp [GrantRec.clear, GrantRec.bounded])
  exact (((((siteResetSite_moves _).trans hgrants).trans (siteResetLink_moves _)).trans (tsuSiteReset_moves _)).trans
    (departQueues_moves _ _)).trans (.bringup _)

theorem removeQueued_moves (k : Slot) (s : State) : OrderMoves s (removeQueued k s) := by
  have hfilter : OrderMoves s (s.updTsu fun t => { t with queued := t.queued.filter (fun o => !ownOrder k o) }) :=
    .orders _ s (Tsu.bounded_of_sublist ((List.Sublist.refl _).append List.filter_sublist) (le_refl _))
  unfold removeQueued
  dsimp only
  split
  · exact hfilter.trans (bringupStep_moves _)
  · exact hfilter

theorem abortLoop_order (r : AbortReason) (s : State) : OrderMoves s (abortLoop r s) := by
  unfold abortLoop
  split
  · exact .refl s
  · split
    · split
      · exact .refl s
      · exact (decideLoop_order (.aborted r) s).trans (.alike (by simp [Alike]))
    · exact endRunning_moves _ s

theorem tenantResetRunning_moves (k : Slot) (s : State) : OrderMoves s (tenantResetRunning k s) := by
  unfold tenantResetRunning
  split
  · exact .refl s
  · split
    · split
      · exact abortLoop_order _ s
      · exact endRunning_moves _ s
    · split
      · exact endRunning_moves _ s
      · exact .refl s

theorem tenantReset_moves (k : Slot) (s : State) :
    Moves (s.updSli fun x => { x with events := x.events.set k {} }) (tenantReset k s) := by
  have hqueues : Moves (s.updSli fun x => { x with events := x.events.set k {} })
      ((s.updSli fun x => { x with events := x.events.set k {} }).updTqm fun q => q.modify k (fun r => r.resetSite.clearCounters)) :=
    .traffic _ _ (queuesKept_modify _ _ _ fun _ => resetSite_bounded (s.tqm.get k))
  have hgrants := hqueues.trans (.grants (fun g => { g with slots := g.slots.set k {} }) _ fun j hj => by
    by_cases hjk : j = k
    · subst hjk; simp [GrantRec.bounded]
    · simpa [PerSlot.get_set_ne _ hjk] using hj)
  exact hgrants.trans (.settled ((removeQueued_moves k _).trans (tenantResetRunning_moves k _)))

theorem tenantReset_reaches (k : Slot) (s : State) : Reaches s (tenantReset k s) :=
  ⟨s.updSli fun x => { x with events := x.events.set k {} }, rfl, tenantReset_moves k s⟩

/-! ## Every command but those that write the tables -/

/-- The commands that write a tenant record, or that put tables in force. -/
def writesTables (c : Instr) : Bool :=
  match c with
  | .powerOnReset .. | .descriptorLoad .. | .setSlotState .. | .writeShare .. | .writeTuning .. => true
  | _ => false

theorem exec_reaches {c : Instr} (hc : writesTables c = false) (s : State) : Leaves (exec c s) (Reaches s) := by
  by_cases hp : plainCommand c = true
  · exact fun t ht => (exec_moves hp s t ht).reaches
  · cases c with
    | siteReset =>
      exact .next (serve_reaches (.withParams _ fun _ => .taken _ ⟨emptyPending s, rfl, siteReset_moves s⟩))
    | tenantReset =>
      exact .next (serve_reaches (.withParams _ fun _ => .withParams _ fun k => .taken _ (tenantReset_reaches k s)))
    | ackEvents => exact .next (serve_reaches (judgeAckEvents_reaches _ _ s))
    | setEventEnables => exact .next (serve_reaches (judgeSetEventEnables_reaches _ _ s))
    | powerOnReset | descriptorLoad | setSlotState | writeShare | writeTuning => cases hc
    | _ => exact absurd rfl hp

/-! ## The passing of a nanosecond -/

theorem enqueueIf_moves (b : Bool) (c : Instr) (s : State) : Moves s (s.enqueueIf b c) := .alike (by simp [Alike])

theorem ppsTimersDue_moves (s : State) (k : Slot) : Moves s (ppsTimersDue s k) :=
  (enqueueIf_moves _ _ s).trans (.foldl _ (fun s _ => .alike (by simp [Alike])) _ _)

theorem expiriesDue_moves (s : State) : Moves s (expiriesDue s) := by
  unfold expiriesDue
  dsimp only
  refine Moves.trans ?_ (enqueueIf_moves _ _ _)
  refine Moves.trans ?_ (enqueueIf_moves _ _ _)
  refine Moves.trans ?_ (enqueueIf_moves _ _ _)
  refine Moves.trans ?_ (.foldl _ ppsTimersDue_moves _ _)
  exact ((((enqueueIf_moves _ _ _).trans (enqueueIf_moves _ _ _)).trans (enqueueIf_moves _ _ _)).trans (enqueueIf_moves _ _ _)).trans
    (enqueueIf_moves _ _ _)

theorem tsuTick_moves (s : State) : Moves s (s.updTsu Tsu.tickMs) := by
  have hsame : s.tsu.tickMs.orders = s.tsu.orders ∧ s.tsu.tickMs.log = s.tsu.log ∧ s.tsu.tickMs.queued = s.tsu.queued
      ∧ (s.tsu.tickMs.running = none → s.tsu.running = none) := by
    unfold Tsu.tickMs
    split
    · next o p hr => simp [Tsu.orders, hr]
    · simp
  obtain ⟨ho, hl, hq, hr⟩ := hsame
  exact .orders (.orders _ s (Tsu.bounded_of_eq ho hl)) fun h hn => hq.trans (h (hr hn))

theorem countMs_moves (s : State) : Moves s (countMs s) :=
  (((Moves.lkc (fun l => l.tickCommand.tickBackoff) s).trans (.clock Tmu.tickMs _ rfl rfl id)).trans (tsuTick_moves _)).trans
    (.alike (t := countMs s) (by simp [Alike, countMs]))

theorem advanceTime_moves (s : State) : Moves s (advanceTime s) := by
  have hadvance : Moves s (s.updTmu fun t => { t.advance with crossed := s.nextCrossings }) := by
    refine .clock _ s ?_ ?_ fun h => ?_
    · simp [Tmu.advance]
    · simp [Tmu.advance, Tmu.derivedClass]
    · simpa [Tmu.advance, Tmu.ratesBounded] using h
  exact hadvance.trans (.alike (by simp [Alike, advanceTime]))

theorem tick_moves (s : State) : Moves s (tick s) := by
  have hsub : ∀ n, Moves (advanceTime s) { advanceTime s with subMs := n } := fun n => .alike (by simp [Alike])
  unfold tick
  dsimp only
  refine Moves.trans ?_ ((enqueueIf_moves _ _ _).trans (enqueueIf_moves _ _ _))
  split
  · exact (((advanceTime_moves s).trans (hsub 0)).trans (countMs_moves _)).trans (expiriesDue_moves _)
  · exact (advanceTime_moves s).trans (hsub _)

/-! ## A step -/

/-- All that a step can be: a local nanosecond, or the command at the front with the queue's rest. -/
theorem step_cases {s t : State} (h : step s = .next t) :
    (s.pending = [] ∧ t = tick s) ∨ ∃ c rest, s.pending = c :: rest ∧ exec c { s with pending := rest } = .next t := by
  unfold step at h
  split at h
  · next hp => cases h; exact .inl ⟨hp, rfl⟩
  · next c rest hp => exact .inr ⟨c, rest, hp, h⟩

end Sys2Proof.Machine

namespace Sys2Proof.Machine

open Sys2Proof

/-! ## Writes of a tenant record -/

theorem Takes.withParams_eq {P : State → Prop} {α : Type} (o : Option α) {f : α → Verdict} (h : ∀ a, o = some a → Takes (f a) P) :
    Takes (Machine.withParams o f) P := by
  cases o with
  | none => exact .refuse _
  | some a => exact h a rfl

theorem tenant_updTenant (s : State) (j k : Slot) (f : TenantRec → TenantRec) :
    (s.updTenant j f).tenant k = (s.tenant k).map fun r => if k = j then f r else r := by
  cases hts : s.scu.tenants <;> simp [State.tenant, State.updTenant, hts, PerSlot.get_modify]

@[simp] theorem updTenant_frame (s : State) (k : Slot) (f : TenantRec → TenantRec) :
    (s.updTenant k f).sli = s.sli ∧ (s.updTenant k f).lkc = s.lkc ∧ (s.updTenant k f).tqm = s.tqm ∧ (s.updTenant k f).gre = s.gre
      ∧ (s.updTenant k f).tmu = s.tmu ∧ (s.updTenant k f).tsu = s.tsu ∧ (s.updTenant k f).dsu = s.dsu
      ∧ (s.updTenant k f).scu.site = s.scu.site ∧ (s.updTenant k f).scu.fit = s.scu.fit
      ∧ (s.updTenant k f).scu.inhibit = s.scu.inhibit := by
  simp [State.updTenant]

/-- Fitness record by record. -/
theorem fitnessRight_iff (s : State) :
    s.fitnessRight ↔ ∀ k r, s.tenant k = some r → s.scu.fit.get k = (decide (r.state = .vacant) || s.tmu.cls.meets r.required) := by
  unfold State.fitnessRight State.tenant
  constructor
  · intro h k r hr
    obtain ⟨ts, hts, rfl⟩ := Option.map_eq_some_iff.mp hr
    exact h ts hts k
  · intro h ts hts k
    exact h k _ (by simp [hts])

/-- A write that keeps the record's required class, and whether it is VACANT, leaves the fitness right. -/
theorem updTenant_fitness (k : Slot) (f : TenantRec → TenantRec) (s : State)
    (hv : ∀ r, s.tenant k = some r → ((f r).state = .vacant ↔ r.state = .vacant)) (hr : ∀ r, (f r).required = r.required)
    (h : s.fitnessRight) : (s.updTenant k f).fitnessRight := by
  rw [fitnessRight_iff] at h ⊢
  intro j r' hj
  obtain ⟨r, hjr, rfl⟩ := Option.map_eq_some_iff.mp (tenant_updTenant s k j f ▸ hj)
  have hfit := h j r hjr
  simp only [updTenant_frame]
  split
  · next hjk => subst hjk; rw [hfit, hr, decide_eq_decide.mpr (hv r hjr)]
  · exact hfit

/-- A write that keeps the record's state and required class leaves the lines and the fitness right. -/
theorem updTenant_follows (k : Slot) (f : TenantRec → TenantRec) (s : State) (hs : ∀ r, (f r).state = r.state)
    (hr : ∀ r, (f r).required = r.required) : Follows s (s.updTenant k f) := by
  have hstate : ∀ j, (s.updTenant k f).slotState j = s.slotState j := by
    intro j
    rw [State.slotState, tenant_updTenant]
    cases hj : s.tenant j <;> simp [State.slotState, hj]
    split <;> simp [hs]
  refine ⟨fun h j => ?_, updTenant_fitness k f s (fun r _ => by rw [hs]) hr, fun j e => id, fun hc => absurd rfl hc, fun j h h' => ?_⟩
  · simpa [State.inhibitLevel, State.slotEnabled, hstate] using h j
  · exact absurd (h.symm.trans h') (by decide)

/-- A write between states that are not VACANT, the lines recomputed. -/
theorem updTenant_recomputed_follows (k : Slot) (f : TenantRec → TenantRec) (s : State)
    (hv : ∀ r, s.tenant k = some r → ((f r).state = .vacant ↔ r.state = .vacant)) (hr : ∀ r, (f r).required = r.required) :
    Follows s (recomputeInhibit (s.updTenant k f)) := by
  refine ⟨fun _ => recomputeInhibit_right _, fun h => ?_, fun j e h => ?_, fun hc => absurd (by simp) hc, fun j h h' => ?_⟩
  · exact fitnessRight_congr (s := s.updTenant k f) (by simp) (by simp) (by simp) (updTenant_fitness k f s hv hr h)
  · rwa [pends_of_events (s := s) (by simp)]
  · simp only [recomputeInhibit_frame, updTenant_frame] at h'
    exact absurd (h.symm.trans h') (by decide)

/-- A fitness judged afresh after a write of the slot's record, the lines recomputed. -/
theorem updTenant_judged_follows (k : Slot) (f : TenantRec → TenantRec) (s : State)
    (hkept : ∀ r, s.tenant k = some r → (f r).state = .vacant → r.state = .vacant) :
    Follows s (recomputeInhibit (judgeFitness (s.updTenant k f) k)) := by
  have hjudged := judgeFitness_fit (s.updTenant k f) k
  refine ⟨fun _ => recomputeInhibit_right _, fun h => ?_, fun j e h => ?_, fun hc => absurd (by simp) hc, fun j h h' => ?_⟩
  · rw [fitnessRight_iff] at h ⊢
    intro j r' hj
    have hj' : (s.updTenant k f).tenant j = some r' := by simpa [State.tenant] using hj
    obtain ⟨r, hr, hr'⟩ := Option.map_eq_some_iff.mp (tenant_updTenant s k j f ▸ hj')
    simp only [recomputeInhibit_frame, judgeFitness_frame, updTenant_frame]
    rw [hjudged]
    by_cases hjk : j = k
    · subst hjk
      rw [if_pos rfl, State.judged, hj']
      simp only [if_pos] at hr'
      subst hr'
      dsimp only
      split
      · next hv => simpa [hv, hkept r hr hv] using h j r hr
      · next hv => simp [hv]
    · rw [if_neg hjk] at hr' ⊢
      subst hr'
      exact h j r hr
  · rw [pends_of_events (s := judgeFitness (s.updTenant k f) k) (by simp), pends_judgeFitness]
    exact Bool.or_eq_true_iff.mpr (.inl h)
  · rw [pends_of_events (s := judgeFitness (s.updTenant k f) k) (by simp), pends_judgeFitness]
    simp only [recomputeInhibit_frame] at h'
    rw [hjudged] at h'
    by_cases hjk : j = k
    · subst hjk; rw [if_pos rfl] at h'; simp [h, h']
    · rw [if_neg hjk] at h'; exact absurd (h.symm.trans h') (by decide)

/-- A record made VACANT, the slot fit and the lines recomputed. -/
theorem updTenant_vacant_follows (k : Slot) (f : TenantRec → TenantRec) (s : State) (hv : ∀ r, (f r).state = .vacant) :
    Follows s (recomputeInhibit ((s.updTenant k f).updScu fun c => { c with fit := c.fit.set k true })) := by
  refine ⟨fun _ => recomputeInhibit_right _, fun h => ?_, fun j e => id, fun hc => absurd rfl hc, fun j h h' => ?_⟩
  · rw [fitnessRight_iff] at h ⊢
    intro j r' hj
    obtain ⟨r, hr, hr'⟩ := Option.map_eq_some_iff.mp (tenant_updTenant s k j f ▸ hj)
    have := h j r hr
    by_cases hjk : j = k
    · subst hjk; rw [if_pos rfl] at hr'; simp [← hr', hv]
    · rw [if_neg hjk] at hr'; simpa [PerSlot.get_set_ne _ hjk, ← hr'] using this
  · by_cases hjk : j = k
    · subst hjk; simp at h'
    · simp [PerSlot.get_set_ne _ hjk, h] at h'

/-! ### SET_SLOT_STATE, WRITE_SHARE and WRITE_TUNING -/

theorem recordChanged_moves (k j : Slot) (s : State) : Moves s (recordChanged k j s) := .ite (.refl s) (.raise _ _ s)

/-- A change of slot state flushes or discards, and adds nothing to a queue (R77). -/
theorem tqmSlotState_moves (k : Slot) (new : SlotState) (s : State) : Moves s (tqmSlotState k new s) := by
  refine .traffic _ s (queuesKept_modify _ _ _ fun h => ?_)
  cases new with
  | enabled => exact h
  | suspended => exact discardEgress_bounded h
  | vacant => exact discardEgress_bounded (flushed_bounded _)

theorem changeSlotState_follows (k : Slot) (old new : SlotState) (s : State) (hold : s.slotState k = some old) :
    Follows s (changeSlotState k old new s) := by
  refine (tqmSlotState_moves k new s).follows.trans (.trans ?_ (ppsFollow_moves k _).follows)
  have hrecord : ∀ r, (tqmSlotState k new s).tenant k = some r → r.state = old := by
    intro r hr
    rw [State.tenant, (tqmSlotState_frame _ _ _).2.2.1] at hr
    simpa [State.slotState, State.tenant, hr] using hold
  split
  · next hnew => exact updTenant_vacant_follows k _ _ fun _ => hnew
  · next hnew =>
    split
    · next hvac => exact updTenant_judged_follows k _ _ fun r hr h => absurd h hnew
    · next hvac =>
      exact updTenant_recomputed_follows k _ _ (fun r hr => ⟨fun h => absurd h hnew, fun h => absurd (hrecord r hr ▸ h) hvac⟩) fun _ => rfl

theorem judgeSetSlotState_follows (k : Slot) (ps : List Byte) (s : State) : Takes (judgeSetSlotState k ps s) (Follows s) :=
  .withParams _ fun _ => .withParams _ fun j => .ite (fun _ => .refuse _) fun _ => .withParams_eq _ fun old hold =>
    .ite (fun _ => .taken _ (recordChanged_moves k j s).follows) fun _ => .ite (fun _ => .refuse _) fun _ =>
      .taken _ ((changeSlotState_follows j old _ s hold).trans (recordChanged_moves k j _).follows)

theorem judgeWriteShare_follows (k : Slot) (ps : List Byte) (s : State) : Takes (judgeWriteShare k ps s) (Follows s) :=
  .withParams _ fun w => .withParams _ fun j => .withParams _ fun _ => .ite (fun _ => .refuse _) fun _ => .ite (fun _ => .refuse _) fun _ =>
    .taken _ ((updTenant_follows j w.into s (fun _ => rfl) fun _ => rfl).trans (recordChanged_moves k j _).follows)

theorem takePulse_moves (k : Slot) (s : State) : Moves s (s.updTmu fun t => t.takePulse k) := .clock _ s rfl rfl id

theorem tune_follows (k : Slot) (w : TuningWrite) (s : State) : Follows s (tune k w s) := by
  have hwritten : ∀ u, Follows u (if w.cls.isSome then recomputeInhibit (judgeFitness (u.updTenant k w.into) k) else u.updTenant k w.into) := by
    intro u
    split
    · exact updTenant_judged_follows k w.into u fun _ _ => id
    · next hcls =>
      rw [Option.not_isSome_iff_eq_none] at hcls
      exact updTenant_follows k w.into u (fun _ => rfl) fun r => by simp [TuningWrite.into, hcls]
  refine Follows.trans ?_ (ppsFollow_moves k _).follows
  cases w.offset.isSome
  · exact hwritten s
  · exact (takePulse_moves k s).follows.trans (hwritten _)

theorem judgeWriteTuning_follows (k : Slot) (ps : List Byte) (s : State) : Takes (judgeWriteTuning k ps s) (Follows s) :=
  .withParams _ fun w => .withParams _ fun j => .ite (fun _ => .refuse _) fun _ =>
    .taken _ ((tune_follows j w s).trans (recordChanged_moves k j _).follows)

theorem serve_follows {k : Slot} {tag : Byte} {p f : Bool} {v : Verdict} {s : State} (h : Takes v (Follows s)) :
    Follows s (serve k tag p f v s) :=
  serve_ends (fun st data => (Moves.answer _ _ st data s).follows) fun data t hv _ => (h data t hv).trans (Moves.answer _ _ _ _ _).follows

/-! ## The load -/

/-- The tables of a load, and the site state it leads to. -/
def loadedTables (flash : List Byte) : Tables :=
  match judgeDescriptor flash with
  | .ok t => t
  | .error _ => defaultTables

/-- The load installs tables, sets the site to BRINGUP or UNCONFIGURED, and goes on by moves. -/
theorem completeLoad_moves (flash : List Byte) (s : State) :
    ∃ st load, st ≠ .loading
      ∧ Moves (setSiteState st (installTables (loadedTables flash) (s.updDsu fun d => { d with load := load }))) (completeLoad flash s) := by
  unfold completeLoad loadedTables
  cases judgeDescriptor flash
  · exact ⟨.unconfigured, _, by decide, .lkc _ _⟩
  · exact ⟨.bringup, _, by decide, enterDiscovery_moves _⟩

theorem installTables_fitness (t : Tables) (s : State) : (installTables t s).fitnessRight := by
  intro ts hts k
  simp only [installTables, State.updTmu_scu, State.updSli_scu, State.updGre_scu, State.updLkc_scu, State.updScu_scu, Option.some.injEq] at hts
  simp [installTables, ← hts]

@[simp] theorem installTables_frame (t : Tables) (s : State) :
    (installTables t s).tqm = s.tqm ∧ (installTables t s).tsu = s.tsu ∧ (installTables t s).gre.slots = s.gre.slots
      ∧ (installTables t s).dsu = s.dsu ∧ (installTables t s).sli = { s.sli with access := t.access }
      ∧ (installTables t s).tmu.cls = s.tmu.cls ∧ (installTables t s).tmu.timing = s.tmu.timing
      ∧ (installTables t s).tmu.everLocked = s.tmu.everLocked
      ∧ (installTables t s).tmu.site = s.tmu.site ∧ (installTables t s).tmu.y = s.tmu.y ∧ (installTables t s).tmu.integ = s.tmu.integ
      ∧ (installTables t s).scu.site = s.scu.site ∧ (installTables t s).emitted = s.emitted := by
  simp [installTables]

end Sys2Proof.Machine

namespace Sys2Proof.Machine

open Sys2Proof

/-! ## A step keeps the lines and the fitness right (R18, R19, R90, R129) -/

/-- What a step does to the lines, the fitness and the two kinds of chapter 7, where `Follows` asks besides that no kind ceases to be
pending. -/
structure Judges (s t : State) : Prop where
  lines : s.inhibitsRight → t.inhibitsRight
  fitness : s.fitnessRight → t.fitnessRight
  quality : t.tmu.cls ≠ s.tmu.cls → ∀ k, t.pends k .timeQuality = true
  unfit : ∀ k, s.scu.fit.get k = true → t.scu.fit.get k = false → t.pends k .timeUnfit = true

theorem Follows.judges {s t : State} (h : Follows s t) : Judges s t := ⟨h.lines, h.fitness, h.quality, h.unfit⟩

/-- The event records have no part in the lines and the fitness. -/
theorem Reaches.judges {s t : State} (h : Reaches s t) : Judges s t := by
  obtain ⟨u, hu, hm⟩ := h
  have hf := hm.follows
  rw [hu] at hf
  exact ⟨hf.lines, hf.fitness, hf.quality, hf.unfit⟩

/-- The commands after which neither the lines nor the fitness follow from those before. -/
def startsAfresh (c : Instr) : Bool :=
  match c with
  | .powerOnReset .. | .descriptorLoad .. => true
  | _ => false

theorem exec_judges {c : Instr} (hc : startsAfresh c = false) (s : State) : Leaves (exec c s) (Judges s) := by
  by_cases hw : writesTables c = false
  · exact fun t ht => (exec_reaches hw s t ht).judges
  · cases c with
    | setSlotState => exact .next (serve_follows (judgeSetSlotState_follows _ _ s)).judges
    | writeShare => exact .next (serve_follows (judgeWriteShare_follows _ _ s)).judges
    | writeTuning => exact .next (serve_follows (judgeWriteTuning_follows _ _ s)).judges
    | powerOnReset | descriptorLoad => cases hc
    | _ => exact absurd rfl hw

/-- A power-on reset asserts every line, and no record is installed (R2). -/
theorem powerOnReset_right (strap : Bool) (s : State) : Leaves (exec (.powerOnReset strap) s) fun t => t.inhibitsRight ∧ t.fitnessRight := by
  refine .next ⟨?_, fun ts hts => nomatch hts⟩
  show State.reset.inhibitsRight
  unfold State.inhibitsRight
  decide

/-- The load judges the first fitness, by the class as it stands, and recomputes the lines (R90). -/
theorem completeLoad_right (flash : List Byte) (s : State) :
    (completeLoad flash s).inhibitsRight ∧ (completeLoad flash s).fitnessRight
      ∧ ((completeLoad flash s).tmu.cls ≠ s.tmu.cls → ∀ k, (completeLoad flash s).pends k .timeQuality = true) := by
  obtain ⟨st, load, -, hm⟩ := completeLoad_moves flash s
  have hinstalled := installTables_fitness (loadedTables flash) (s.updDsu fun d => { d with load := load })
  refine ⟨hm.follows.lines (setSiteState_right _ _), hm.follows.fitness (fitnessRight_congr (by simp) (by simp) (by simp) hinstalled), fun hc => ?_⟩
  exact hm.follows.quality (by simpa using hc)

theorem load_right (flash : List Byte) (s : State) :
    Leaves (exec (.descriptorLoad flash) s) fun t => (s.inhibitsRight → t.inhibitsRight) ∧ (s.fitnessRight → t.fitnessRight)
      ∧ (t.tmu.cls ≠ s.tmu.cls → ∀ k, t.pends k .timeQuality = true) := by
  obtain ⟨hl, hf, hq⟩ := completeLoad_right flash s
  exact .ite (.next ⟨fun _ => hl, fun _ => hf, hq⟩) (.next ⟨id, id, fun h => absurd rfl h⟩)

/-! ## The class published (R129) -/

/-- A publication leaves the tables, the store and the responses. -/
theorem deriveClass_tablesStand (s : State) : s.tablesStand (deriveClass s) := by
  simp [State.tablesStand, State.tables, deriveClass_tmu]

/-- What stands pending after a publication: TIME_QUALITY everywhere, and TIME_UNFIT where it was and where a slot ceased to be fit. -/
theorem deriveClass_pends {s : State} (hd : s.tmu.derivedClass ≠ s.tmu.cls) (k : Slot) :
    (deriveClass s).pends k .timeQuality = true
      ∧ (deriveClass s).pends k .timeUnfit = (s.pends k .timeUnfit || (s.scu.fit.get k && !(deriveClass s).scu.fit.get k)) := by
  have hbringup : ∀ e, e ≠ .siteState → e ≠ .testDone → (bringup (publish s)).pends k e = (publish s).pends k e := fun e h1 h2 =>
    ((bringup_moves (publish s)).pends k e).2 h1 h2
  rw [deriveClass_publishes hd]
  refine ⟨?_, ?_⟩ <;> rw [pends_classPublished, hbringup _ (by decide) (by decide), pends_publish]
  · simp
  · simp [classPublished_fit]

/-- The fitness a publication leaves: judged by the class derived, a VACANT slot's its own (R90). -/
theorem deriveClass_fit {s : State} {ts : PerSlot TenantRec} (hts : s.scu.tenants = some ts) (hd : s.tmu.derivedClass ≠ s.tmu.cls) (k : Slot) :
    (deriveClass s).scu.fit.get k
      = if (ts.get k).state = .vacant then s.scu.fit.get k else s.tmu.derivedClass.meets (ts.get k).required := by
  rw [deriveClass_publishes hd, classPublished_fit, judged_of_record (ts := ts) (by simpa using hts)]
  simp

/-- Settles O26, by what every command's moves do to the lines, the fitness and the two kinds. -/
theorem fitnessAndLinesFollow : Obligations.FitnessAndLinesFollow := by
  refine ⟨fun s t h => ?_, fun ts s hts => ⟨deriveClass_same, fun hd => ?_⟩⟩
  · obtain ⟨hp, rfl⟩ | ⟨c, rest, hp, hexec⟩ := step_cases h
    · obtain ⟨hl, hf, -, hq, hu⟩ := (tick_moves s).follows
      exact ⟨hl, hf, fun _ => ⟨hq, fun _ => hu⟩⟩
    · rw [hp]
      cases hc : startsAfresh c with
      | false =>
        obtain ⟨hl, hf, hq, hu⟩ := exec_judges hc _ t hexec
        exact ⟨hl, hf, fun _ => ⟨hq, fun _ => hu⟩⟩
      | true =>
        cases c with
        | powerOnReset strap =>
          obtain ⟨hl, hf⟩ := powerOnReset_right strap _ t hexec
          exact ⟨fun _ => hl, fun _ => hf, fun hne => absurd rfl (hne strap)⟩
        | descriptorLoad flash =>
          obtain ⟨hl, hf, hq⟩ := load_right flash _ t hexec
          exact ⟨hl, hf, fun _ => ⟨hq, fun hne => absurd rfl (hne flash)⟩⟩
        | _ => cases hc
  · refine ⟨deriveClass_tmu s, ?_, by simp, by simp, deriveClass_tablesStand s, fun k => ⟨(deriveClass_pends hd k).1, fun hv => ?_, fun hv => ?_,
      (deriveClass_pends hd k).2⟩⟩
    · rw [deriveClass_publishes hd]; exact classPublished_right _
    · rw [deriveClass_fit hts hd, if_pos hv]
    · rw [deriveClass_fit hts hd, if_neg hv]

end Sys2Proof.Machine

namespace Sys2Proof.Machine

open Sys2Proof

/-! ## The bounds of the records (R67, R96, R152, R161, R162, R166) -/

theorem Reaches.keeps {s t : State} (h : Reaches s t) : Keeps s t := by
  obtain ⟨u, hu, hm⟩ := h
  exact (Keeps.of_same (s := s) (by rw [hu]) (by rw [hu]) (by rw [hu]) (by rw [hu]) (by rw [hu])).trans hm.keeps

theorem serve_keeps {k : Slot} {tag : Byte} {p f : Bool} {v : Verdict} {s : State} (h : Takes v (Keeps s)) : Keeps s (serve k tag p f v s) :=
  serve_ends (fun st data => (Moves.answer _ _ st data s).keeps) fun data t hv _ => (h data t hv).trans (Moves.answer _ _ _ _ _).keeps

theorem updTenant_keeps (k : Slot) (f : TenantRec → TenantRec) (s : State) : Keeps s (s.updTenant k f) := .of_same rfl rfl rfl rfl rfl

theorem updTenant_judged_keeps (k : Slot) (f : TenantRec → TenantRec) (s : State) :
    Keeps s (recomputeInhibit (judgeFitness (s.updTenant k f) k)) :=
  .of_same (by simp) (by simp) (by simp) (by simp) (by simp)

theorem changeSlotState_keeps (k : Slot) (old new : SlotState) (s : State) : Keeps s (changeSlotState k old new s) := by
  refine (tqmSlotState_moves k new s).keeps.trans (.trans ?_ (ppsFollow_moves k _).keeps)
  split
  · exact .of_same rfl rfl rfl rfl rfl
  · split
    · exact updTenant_judged_keeps k _ _
    · exact .of_same rfl rfl rfl rfl rfl

theorem judgeSetSlotState_keeps (k : Slot) (ps : List Byte) (s : State) : Takes (judgeSetSlotState k ps s) (Keeps s) :=
  .withParams _ fun _ => .withParams _ fun j => .ite (fun _ => .refuse _) fun _ => .withParams _ fun old =>
    .ite (fun _ => .taken _ (recordChanged_moves k j s).keeps) fun _ => .ite (fun _ => .refuse _) fun _ =>
      .taken _ ((changeSlotState_keeps j old _ s).trans (recordChanged_moves k j _).keeps)

theorem judgeWriteShare_keeps (k : Slot) (ps : List Byte) (s : State) : Takes (judgeWriteShare k ps s) (Keeps s) :=
  .withParams _ fun w => .withParams _ fun j => .withParams _ fun _ => .ite (fun _ => .refuse _) fun _ => .ite (fun _ => .refuse _) fun _ =>
    .taken _ ((updTenant_keeps j w.into s).trans (recordChanged_moves k j _).keeps)

theorem tune_keeps (k : Slot) (w : TuningWrite) (s : State) : Keeps s (tune k w s) := by
  have hwritten : ∀ u, Keeps u (if w.cls.isSome then recomputeInhibit (judgeFitness (u.updTenant k w.into) k) else u.updTenant k w.into) := by
    intro u
    split
    · exact updTenant_judged_keeps k w.into u
    · exact updTenant_keeps k w.into u
  refine Keeps.trans ?_ (ppsFollow_moves k _).keeps
  cases w.offset.isSome
  · exact hwritten s
  · exact (takePulse_moves k s).keeps.trans (hwritten _)

theorem judgeWriteTuning_keeps (k : Slot) (ps : List Byte) (s : State) : Takes (judgeWriteTuning k ps s) (Keeps s) :=
  .withParams _ fun w => .withParams _ fun j => .ite (fun _ => .refuse _) fun _ =>
    .taken _ ((tune_keeps j w s).trans (recordChanged_moves k j _).keeps)

theorem exec_keeps {c : Instr} (hc : startsAfresh c = false) (s : State) : Leaves (exec c s) (Keeps s) := by
  by_cases hw : writesTables c = false
  · exact fun t ht => (exec_reaches hw s t ht).keeps
  · cases c with
    | setSlotState => exact .next (serve_keeps (judgeSetSlotState_keeps _ _ s))
    | writeShare => exact .next (serve_keeps (judgeWriteShare_keeps _ _ s))
    | writeTuning => exact .next (serve_keeps (judgeWriteTuning_keeps _ _ s))
    | powerOnReset | descriptorLoad => cases hc
    | _ => exact absurd rfl hw

/-! ### The reset and the load -/

/-- The state after a power-on reset keeps every bound, is quiet, and publishes the class it derives. -/
theorem reset_bounded :
    State.reset.queuesBounded ∧ State.reset.grantsBounded ∧ State.reset.ratesBounded ∧ State.reset.ordersBounded ∧ State.reset.loadingQuiet
      ∧ State.reset.noIdleQueue ∧ State.reset.classDerived := by
  refine ⟨?_, ?_, by unfold State.ratesBounded; decide, by unfold State.ordersBounded; decide, fun _ => ⟨rfl, rfl, rfl, rfl, rfl, rfl, rfl⟩,
    fun _ => rfl, rfl⟩
  · unfold State.queuesBounded Traffic.bounded; decide
  · unfold State.grantsBounded; decide

/-- Before the load the timing state is FREERUN and derives NONE whatever the limits, so the tables installed leave the derived class. -/
theorem installTables_derived (tb : Tables) (s : State) (hf : s.tmu.timing = .freerun) (h : s.classDerived) :
    (installTables tb s).classDerived := by
  rw [State.classDerived, Tmu.derivedClass, hf] at h
  simp [State.classDerived, Tmu.derivedClass, hf, h]

theorem completeLoad_loaded (flash : List Byte) (s : State) : (completeLoad flash s).scu.site ≠ .loading := by
  obtain ⟨st, load, hst, hm⟩ := completeLoad_moves flash s
  exact hm.keeps.loaded (by simpa using hst)

end Sys2Proof.Machine

namespace Sys2Proof.Machine

open Sys2Proof

/-! ## The part is quiet while its tables are loading (R2, R21, R136) -/

/-- What the quiet of LOADING is about: the link state and the command to the ODU, the orders, the timing state, and what brings outcomes. -/
def State.activity (s : State) : LinkState × Option Outstanding × Option Running × List Order × TimingState × Option Exchange × Option Nat :=
  (s.lkc.state, s.lkc.outstanding, s.tsu.running, s.tsu.queued, s.tmu.timing, s.tmu.exchange, s.tmu.pulseTimer)

theorem loadingQuiet_iff (s : State) :
    s.loadingQuiet ↔ (s.scu.site = .loading → s.activity = (.off .none, none, none, [], .freerun, none, none)) := by
  simp [State.loadingQuiet, State.activity]

/-- A state that is LOADING and quiet. -/
structure Quiet (s : State) : Prop where
  site : s.scu.site = .loading
  link : s.lkc.state = .off .none
  command : s.lkc.outstanding = none
  running : s.tsu.running = none
  queued : s.tsu.queued = []
  timing : s.tmu.timing = .freerun
  exchange : s.tmu.exchange = none
  pulse : s.tmu.pulseTimer = none

theorem State.loadingQuiet.quiet {s : State} (h : s.loadingQuiet) (hs : s.scu.site = .loading) : Quiet s := by
  obtain ⟨h1, h2, h3, h4, h5, h6, h7⟩ := h hs
  exact ⟨hs, h1, h2, h3, h4, h5, h6, h7⟩

theorem Quiet.of_same {s t : State} (h : Quiet s) (ht : t.activity = s.activity) : t.loadingQuiet := by
  rw [loadingQuiet_iff, ht]
  intro _
  simp [State.activity, h.link, h.command, h.running, h.queued, h.timing, h.exchange, h.pulse]

theorem Quiet.still {s : State} (h : Quiet s) : s.loadingQuiet := h.of_same rfl

theorem Quiet.unmoved {s t : State} (h : Quiet s) (ht : t = s) : t.loadingQuiet := ht ▸ h.still

theorem Quiet.ignored {s : State} {r : Result} (h : Quiet s) (hr : r = .next s) : Leaves r State.loadingQuiet := hr ▸ .next h.still

theorem Quiet.answer {s : State} (h : Quiet s) (k : Slot) (tag : Byte) (st : Status) (data : List Field) :
    (answer k tag st data s).loadingQuiet :=
  h.of_same (by simp [State.activity])

/-- Every request but IDENTIFY is refused while the tables load (R193). -/
theorem Quiet.serve {s : State} (h : Quiet s) (k : Slot) (tag : Byte) (p f : Bool) (v : Verdict) : (serve k tag p f v s).loadingQuiet := by
  rw [serve_wrongState]
  · exact h.answer _ _ _ _
  · simp [State.standing, h.site]

theorem Quiet.conclude_reads {s : State} (h : Quiet s) (k : Slot) (tag : Byte) (ps : List Byte) (data : List Field) :
    (conclude k tag (reads ps data s) s).loadingQuiet := by
  unfold reads withParams
  split <;> exact h.answer _ _ _ _

theorem Quiet.commandDue {s : State} (h : Quiet s) (c : OduCommand) : s.commandDue c = false := by simp [State.commandDue, h.command]

theorem Quiet.awaits {s : State} (h : Quiet s) (c : OduCommand) : s.awaits c = false := by simp [State.awaits, h.command]

theorem Quiet.answers {s : State} (h : Quiet s) (c : OduCommand) (n : Nat) : s.answers c n = false := by simp [State.answers, h.command]

/-- With no command outstanding a confirmation is counted off or discarded. -/
theorem Quiet.confirm {s : State} (h : Quiet s) (c : OduCommand) (answered : State → State) : (takeConfirm c answered s).loadingQuiet := by
  obtain ⟨l, hl | ⟨ha, -⟩⟩ := takeConfirm_cases s c answered
  · rw [hl]; exact h.of_same rfl
  · rw [h.awaits] at ha; cases ha

/-- A boundary forms no outcome while the tables load (R136). -/
theorem Quiet.siteSecond {s : State} (h : Quiet s) (n : Nat) : (siteSecond n s).loadingQuiet := by
  obtain ⟨-, hs⟩ | ⟨-, hs⟩ := siteSecond_cases n s <;> rw [hs]
  · exact h.still
  · unfold enterSecond raiseBoundary
    split
    · dsimp only
      rw [if_pos (by exact h.site)]
      exact h.of_same rfl
    · exact h.of_same rfl

/-- A pulse edge forms no outcome while the tables load, and its timer does not run (R136). -/
theorem Quiet.gnssPulse {s : State} (h : Quiet s) : (gnssPulse s).loadingQuiet := by
  unfold Machine.gnssPulse
  dsimp only
  rw [if_pos h.site]
  exact h.of_same rfl

theorem Quiet.arrive {s : State} (h : Quiet s) (k : Slot) (bytes : List Byte) (cut : Bool) : (arrive k bytes cut s).loadingQuiet :=
  h.of_same (by simp [State.activity])

theorem Quiet.emitPulse {s : State} (h : Quiet s) (k : Slot) (n : Int) : (ppsCrossing k n s).loadingQuiet :=
  h.of_same (by simp [State.activity])

theorem Quiet.sendFrame {s : State} (h : Quiet s) : (sendFrame s).loadingQuiet := by
  unfold Machine.sendFrame
  split
  · exact h.still
  · simp only [h.link]
    split
    · exact h.of_same (by simp [State.activity, stampRequest, h.exchange])
    · exact h.of_same rfl

theorem Quiet.endSave {s : State} (h : Quiet s) (v : Save) (good : Bool) : (endSave v good s).loadingQuiet :=
  h.of_same (by simp [State.activity, Machine.endSave])

/-- A report of the flash moves the save alone. -/
theorem Quiet.inPhase {s : State} (h : Quiet s) (p : SavePhase) (f : Save → State) (hf : ∀ v, (f v).activity = s.activity) :
    (inPhase p s f).loadingQuiet := by
  unfold Machine.inPhase
  split
  · split
    · exact h.of_same (hf _)
    · exact h.still
  · exact h.still

/-- A command that is no request, but for a power-on reset and the load, changes nothing that the quiet is about. -/
theorem exec_quiet {c : Instr} (hc : startsAfresh c = false) {s : State} (h : Quiet s) : Leaves (exec c s) State.loadingQuiet := by
  cases c with
  | powerOnReset | descriptorLoad => cases hc
  | readAccess | readEvents | siteStatus | linkStatus | readProfiles | timeRead | timeStatus | testStatus | descriptorStatus | readTenant
  | queueStatus | grantStatus | readResults | writeAccess | setLock | ackEvents | setEventEnables | beginBringup | retryAcceptance
  | forceService | siteReset | setAcceptanceSet | setSiteClass | setCommitCeiling | setSlotState | writeShare | writeTuning | clearCounters
  | tenantReset | linkRestart | setRungLimits | writeProfile | setLinkLimits | setGrantLimits | setTime | setSourcePriority
  | presetIntegrator | setLoopBank | setTimeLimits | clearTimeSticky | orderTest | cancelTest | saveDescriptor =>
    exact .next (h.serve _ _ _ _ _)
  | identify => exact .next (h.conclude_reads _ _ _ _)
  | requestWriteBegin => exact .next (h.of_same rfl)
  | corruptFrame k frame =>
    change Leaves (execCorruptFrame k frame s) _
    unfold execCorruptFrame
    split
    · exact .next h.still
    · split
      · exact .next (h.answer _ _ _ _)
      · exact .refused _
  | unknownName => exact .ite (.refused _) (.next (h.answer _ _ _ _))
  | responseRead k n =>
    change Leaves (execResponseRead k n s) _
    unfold execResponseRead
    split
    · exact .next (h.of_same rfl)
    · exact .ite (.next (h.of_same rfl)) (.next (h.of_same rfl))
  | oduIdentifyReply number id => exact h.ignored (r := execOduIdentifyReply number id s) (by simp [execOduIdentifyReply, h.answers])
  | identifyReplyLimit => exact h.ignored (r := execIdentifyReplyLimit s) (by simp [execIdentifyReplyLimit, h.commandDue])
  | readPageReply page => exact h.ignored (r := execReadPageReply page s) (by simp [execReadPageReply, h.answers])
  | readPageReplyLimit => exact h.ignored (r := execReadPageReplyLimit s) (by simp [execReadPageReplyLimit, h.commandDue])
  | loopOnConfirmed | loopOffConfirmed => exact .next (h.confirm _ _)
  | loopOnLimit => exact h.ignored (r := execLoopOnLimit s) (by simp [execLoopOnLimit, h.commandDue])
  | loopOffLimit => exact h.ignored (r := execLoopOffLimit s) (by simp [execLoopOffLimit, h.commandDue])
  | loopedFrameReturn frame errored => exact .next (h.unmoved (by simp [returnLooped, h.link, LinkState.isHeld]))
  | statusReport margin => exact .next (h.unmoved (by simp [takeReport, h.link]))
  | missingStatusReport => exact .next (h.unmoved (by simp [takeReport, h.link]))
  | farFrame f => exact .next (h.unmoved (by simp [takeFarFrame, h.link]))
  | missingFarFrame => exact h.ignored (r := execMissingFarFrame s) (by simp [execMissingFarFrame, h.link])
  | backoffExpiry => exact h.ignored (r := execBackoffExpiry s) (by simp [execBackoffExpiry, h.link, LinkState.backoffDue])
  | frameFill => exact .next (h.unmoved (by simp [fillFrame, h.link]))
  | frameLeavesRadioPort => exact .next h.sendFrame
  | packetArrival => exact .next (h.arrive _ _ _)
  | gnssTimeMessage bytes =>
    change Leaves (execGnssTimeMessage bytes s) _
    unfold execGnssTimeMessage
    split
    · exact .next (h.of_same rfl)
    · exact .next h.still
  | gnssPulse => exact .next h.gnssPulse
  | pulseTimerExpiry => exact .next (h.unmoved (by simp [pulseTimerExpiry, Tmu.pulseDue, h.pulse]))
  | siteSecondBoundary n => exact .next (h.siteSecond n)
  | replyTimerExpiry => exact .next (h.unmoved (by simp [replyTimerExpiry, Tmu.replyDue, h.exchange]))
  | ppsEmission => exact .next (h.emitPulse _ _)
  | ppsDelayedEmission | ppsPulseEnd => exact .next (h.of_same rfl)
  | portLoopPacketSend => exact .next (h.unmoved (by simp [sendTestPacket, h.running]))
  | portLoopReturn p => exact .next (h.unmoved (by simp [returnTestPacket, h.running]))
  | loopTimerExpiry => exact .next (h.unmoved (by simp [expireLoopTimer, Tsu.loopTimerDue, h.running]))
  | eraseComplete | programComplete => exact .next (h.inPhase _ _ fun _ => rfl)
  | verifyComplete => exact .next (h.inPhase _ _ fun _ => by split <;> simp [State.activity, enterPhase, endSave])
  | commitComplete => exact .next (h.inPhase _ _ fun _ => by simp [State.activity, endSave])
  | saveTimerExpiry =>
    change Leaves (execSaveTimerExpiry s) _
    unfold execSaveTimerExpiry
    split
    · split
      · exact .next (h.endSave _ _)
      · exact .next h.still
    · exact .next h.still

theorem enqueueIf_activity (s : State) (b : Bool) (c : Instr) : (s.enqueueIf b c).activity = s.activity := by simp [State.activity]

theorem ppsTimersDue_activity (s : State) (k : Slot) : (ppsTimersDue s k).activity = s.activity :=
  (foldl_keeps State.activity (fun t _ => t.enqueue (.ppsDelayedEmission k)) (fun _ _ => rfl) _ _).trans (enqueueIf_activity _ _ _)

theorem expiriesDue_activity (s : State) : (expiriesDue s).activity = s.activity := by
  unfold expiriesDue
  dsimp only
  rw [enqueueIf_activity, enqueueIf_activity, enqueueIf_activity, foldl_keeps State.activity _ ppsTimersDue_activity]
  simp only [enqueueIf_activity]

theorem advanceTime_activity (s : State) : (advanceTime s).activity = s.activity := by simp [State.activity, advanceTime, Tmu.advance]

/-- The timers of a quiet part do not run. -/
theorem Quiet.countMs {s : State} (h : Quiet s) : (countMs s).activity = s.activity := by
  simp [State.activity, Machine.countMs, Lkc.tickBackoff, Lkc.tickCommand, Tmu.tickMs, Tsu.tickMs, h.link, h.command, h.running, h.exchange, h.pulse]

theorem Quiet.tick {s : State} (h : Quiet s) : (tick s).loadingQuiet := by
  refine h.of_same ?_
  have hadvanced := advanceTime_activity s
  have hq : Quiet { advanceTime s with subMs := 0 } :=
    State.loadingQuiet.quiet (h.of_same hadvanced) h.site
  unfold Machine.tick
  dsimp only
  rw [enqueueIf_activity, enqueueIf_activity]
  split
  · rw [expiriesDue_activity, hq.countMs]; exact hadvanced
  · exact hadvanced

/-! ## Every step keeps the bounds -/

/-- What a step keeps: each bound by itself, and the published class where the part was quiet. -/
def StepBounds (s t : State) : Prop :=
  (s.queuesBounded → t.queuesBounded) ∧ (s.grantsBounded → t.grantsBounded) ∧ (s.ratesBounded → t.ratesBounded)
    ∧ (s.ordersBounded → t.ordersBounded) ∧ (s.loadingQuiet → t.loadingQuiet) ∧ (s.noIdleQueue → t.noIdleQueue)
    ∧ (s.loadingQuiet → s.classDerived → t.classDerived)

/-- Once the tables are loaded they stay so, and the quiet of LOADING asks nothing more. -/
theorem StepBounds.of_keeps {s t : State} (hk : Keeps s t) (hq : Quiet s → t.loadingQuiet) : StepBounds s t := by
  refine ⟨hk.queues, hk.grants, hk.rates, hk.orders, fun hl ht => ?_, hk.noIdle, fun _ => hk.derived⟩
  by_cases hs : s.scu.site = .loading
  · exact hq (hl.quiet hs) ht
  · exact absurd ht (hk.loaded hs)

theorem powerOnReset_bounds (strap : Bool) (s : State) : Leaves (exec (.powerOnReset strap) s) (StepBounds s) := by
  obtain ⟨hqueues, hgrants, hrates, horders, hquiet, hidle, hderived⟩ := reset_bounded
  exact .next ⟨fun _ => hqueues, fun _ => hgrants, fun _ => hrates, fun _ => horders, fun _ => hquiet, fun _ => hidle, fun _ _ => hderived⟩

/-- The load finds the part quiet, so that it leaves the class derived; it leaves LOADING. -/
theorem load_bounds (flash : List Byte) (s : State) : Leaves (exec (.descriptorLoad flash) s) (StepBounds s) := by
  refine fun t ht => ?_
  by_cases hs : s.scu.site = .loading
  · have hload : exec (.descriptorLoad flash) s = .next (completeLoad flash s) := if_pos hs
    rw [hload] at ht
    cases ht
    obtain ⟨st, load, hst, hm⟩ := completeLoad_moves flash s
    have hkeeps := ((Moves.site st (installTables (loadedTables flash) (s.updDsu fun d => { d with load := load })) hst).trans hm).keeps
    refine ⟨fun h => hkeeps.queues (by simpa [State.queuesBounded] using h), fun h => hkeeps.grants (by simpa [State.grantsBounded] using h),
      fun h => hkeeps.rates (by simpa [State.ratesBounded] using h), fun h => hkeeps.orders (by simpa [State.ordersBounded] using h),
      fun _ hl => absurd hl (completeLoad_loaded flash s), fun h => hkeeps.noIdle (by simpa [State.noIdleQueue] using h), fun hl h => ?_⟩
    exact hkeeps.derived (installTables_derived _ _ (hl.quiet hs).timing h)
  · have hload : exec (.descriptorLoad flash) s = .next s := if_neg hs
    rw [hload] at ht
    cases ht
    exact .of_keeps (.refl s) Quiet.still

/-- Settles O50, by what every command's moves keep, and command by command for the quiet of LOADING. -/
theorem recordsStayBounded : Obligations.RecordsStayBounded := by
  intro s t h
  show StepBounds s t
  obtain ⟨hp, rfl⟩ | ⟨c, rest, hp, hexec⟩ := step_cases h
  · exact .of_keeps (tick_moves s).keeps Quiet.tick
  · have hbounds : StepBounds { s with pending := rest } t := by
      cases hc : startsAfresh c with
      | false => exact .of_keeps (exec_keeps hc _ t hexec) fun hq => exec_quiet hc hq t hexec
      | true =>
        cases c with
        | powerOnReset strap => exact powerOnReset_bounds strap _ t hexec
        | descriptorLoad flash => exact load_bounds flash _ t hexec
        | _ => cases hc
    exact hbounds

end Sys2Proof.Machine

namespace Sys2Proof.Machine

open Sys2Proof

/-! ## The state after reset -/

/-- Settles O11, with the bounds of the reset and the values themselves. -/
theorem resetMeetsTheInvariants : Obligations.ResetMeetsTheInvariants := by
  obtain ⟨hqueues, hgrants, hrates, horders, hquiet, hidle, hderived⟩ := reset_bounded
  refine ⟨?_, fun h => absurd rfl h, (fun _ h => nomatch h), ?_, hqueues, hgrants, hrates, horders, hquiet, hidle,
    ⟨(fun _ h => nomatch h), rfl, rfl⟩, hderived, fun _ k => ?_, fun _ h => nomatch h⟩
  · unfold State.linesDriven; decide
  · unfold State.inhibitsRight; decide
  · fin_cases k <;> rfl

/-- Settles O14: the reset's values slot by slot, the rest as POWER_ON_RESET writes them. -/
theorem powerOnResetValues : Obligations.PowerOnResetValues := by
  intro strap s
  refine ⟨_, rfl, rfl, rfl, rfl, rfl, rfl, rfl, rfl, rfl, rfl, rfl, rfl, fun k c => ?_, fun k => ?_, rfl, rfl, rfl, rfl, rfl, rfl, rfl, rfl, rfl,
    rfl, rfl, rfl, rfl, rfl, rfl, rfl, rfl, rfl, rfl, rfl, rfl, fun src => ?_, rfl, rfl, rfl, rfl, rfl, rfl, rfl, rfl, rfl⟩
  · fin_cases k <;> cases c <;> rfl
  · fin_cases k <;> exact ⟨rfl, rfl, rfl, rfl, rfl, rfl, rfl⟩
  · cases src <;> rfl

/-! ## Requests that need a class -/

/-- A request whose class the slot holds, and that no lock freezes, goes to its owner (R192). -/
theorem serve_mayAsk {s : State} {k : Slot} {c : PermClass} (h : s.mayAsk k c) (tag : Byte) {frozen : Bool} (v : Verdict)
    (hf : frozen = false ∨ s.sli.lock = false) : serve k tag (s.holds k c) frozen v s = conclude k tag v s := by
  rw [h.2]
  exact serve_owner tag v h.1 hf

/-- A request whose class the slot does not hold is refused (R192). -/
theorem serve_lacking {s : State} {k : Slot} {c : PermClass} (h : s.standing k = true) (hc : s.holds k c = false) (tag : Byte) (frozen : Bool)
    (v : Verdict) : serve k tag (s.holds k c) frozen v s = answer k tag .denied [] s := by
  rw [hc]
  exact serve_denied tag v h

/-! ## Entering IN_SERVICE -/

/-- Settles O22: the request as its judgement, the state it leaves as the entry to IN_SERVICE. -/
theorem forceServiceEntersService : Obligations.ForceServiceEntersService := by
  intro k tag s hask
  have hexec : exec (.forceService k tag []) s = .next (conclude k tag (judgeForceService [] s) s) :=
    congrArg _ (serve_mayAsk hask tag _ (.inl rfl))
  refine ⟨fun h1 h2 => ?_, fun j hj hd => congrArg _ (serve_lacking hj hd tag _ _), fun hst => ?_⟩
  · rw [hexec, judgeForceService, if_pos ⟨h1, h2⟩, conclude_refuse]
  · have hnot : ¬(s.scu.site ≠ .acceptance ∧ s.scu.site ≠ .acceptFailed) := by rcases hst with h | h <;> simp [h]
    refine ⟨enterService .forced (s.updScu fun c => { c with tracking := [] }), ?_, rfl, setSiteState_right _ _, fun j => ?_, rfl, fun o out => ?_⟩
    · rw [hexec, judgeForceService, if_neg hnot]; rfl
    · exact (pends_setSiteState _ _ _ _).trans (by simp)
    · have hsite : (enterService .forced (s.updScu fun c => { c with tracking := [] })).scu.site = .inService := by simp [enterService]
      rw [reportCompletion, if_neg (by simp [hsite]), bringupStep_of_ne (by simp [hsite])]

/-! ## Acceptance followed (R6, R7) -/

/-- The entry of an order among the tracked ones, and what the list is without it. -/
theorem tracked_split {l1 l2 : List Tracked} {e : Tracked} {n : Nat} (he : e.order = n) (hne : ∀ x ∈ l1 ++ l2, x.order ≠ n) :
    (l1 ++ e :: l2).find? (fun x => decide (x.order = n)) = some e
      ∧ (l1 ++ e :: l2).filter (fun x => decide (x.order ≠ n)) = l1 ++ l2 := by
  simp only [List.mem_append] at hne
  constructor
  · rw [List.find?_append, List.find?_eq_none.mpr fun x hx => by simpa using hne x (.inl hx)]
    simp [he]
  · rw [List.filter_append, List.filter_cons_of_neg (by simp [he]), List.filter_eq_self.mpr fun x hx => by simpa using hne x (.inl hx),
      List.filter_eq_self.mpr fun x hx => by simpa using hne x (.inr hx)]

/-- Settles O27, by the place of the order's entry in the tracking list. -/
theorem acceptanceIsFollowed : Obligations.AcceptanceIsFollowed := by
  intro o out s hs
  refine ⟨fun hr => ?_, fun hn => ?_, fun l1 l2 e hl he hne hr ho => ?_⟩
  · simp [reportCompletion, hs, matchedReport, hr]
  · have hfind : s.scu.tracking.find? (fun e => decide (e.order = o.id)) = none := List.find?_eq_none.mpr fun x hx => by simpa using hn x hx
    simp [reportCompletion, hs, followAcceptance, hfind]
  · obtain ⟨hfind, hfilter⟩ := tracked_split he hne
    have hreport : reportCompletion o out s = followAcceptance o out s := by simp [reportCompletion, hs, matchedReport, hr, ho]
    rw [hreport, followAcceptance, hl, hfind]
    dsimp only
    refine ⟨fun hp hrest => ?_, fun hp hrest => ?_, fun hp => ?_⟩
    · rw [if_pos hp, State.updScu_scu, hl, hfilter, if_neg hrest]
      simp only [State.updScu, hl, hfilter]
    · rw [if_pos hp, State.updScu_scu, hl, hfilter, if_pos hrest]
      refine ⟨by simp [enterService], by simp [enterService], ?_⟩
      simp only [enterService, setSiteState_frame, State.updScu_scu, hl, hfilter, hrest]
    · rw [if_neg hp]
      simp

/-! ## The bring-up step (R3, R4, R5) -/

/-- Templates queued where there is room take ids that no order holds. -/
theorem queueTemplates_nodup (l : List (Nat × Test)) (s : State) (h : s.tsu.orders.length + l.length ≤ 8)
    (hid : (s.tsu.orders.map Order.id).Nodup) : ((l.foldl queueTemplate s).tsu.orders.map Order.id).Nodup := by
  induction l generalizing s with
  | nil => exact hid
  | cons it l ih =>
    simp only [List.length_cons] at h
    have horders : (queueTemplate s it).tsu.orders = s.tsu.orders ++ [⟨s.tsu.newId, .site, it.2⟩] := by simp [queueTemplate, Tsu.place_orders]
    refine ih _ (by rw [horders, List.length_append, List.length_singleton]; omega) ?_
    rw [horders, List.map_append]
    exact List.Nodup.append hid (by simp) (by simpa using newId_fresh s.tsu (by omega))

theorem queueAcceptance_nodup (s : State) (h : s.tsu.orders.length + s.scu.acceptanceSet.length ≤ 8)
    (hid : (s.tsu.orders.map Order.id).Nodup) : ((queueAcceptance s).tsu.orders.map Order.id).Nodup :=
  queueTemplates_nodup _ s (by rwa [numbered_length]) hid

/-- The step with a condition wanting. -/
theorem bringupStep_waits {s : State} (hb : s.scu.site = .bringup) (h : ¬(s.lkc.state = .up ∧ s.siteClassMet = true)) :
    bringupStep s
      = setWait (some (if s.lkc.state = .up then .timeClass else if s.siteClassMet then .linkNotUp else .linkAndTime)) s := by
  by_cases hu : s.lkc.state = .up
  · have hm : s.siteClassMet = false := by simpa [hu] using h
    simp [bringupStep, State.linkUp, hb, hu, hm]
  · cases hm : s.siteClassMet <;> simp [bringupStep, State.linkUp, hb, hu, hm]

/-- The step with both conditions met. -/
theorem bringupStep_goes {s : State} (hb : s.scu.site = .bringup) (hu : s.lkc.state = .up) (hm : s.siteClassMet = true) :
    bringupStep s
      = if s.scu.acceptanceSet = [] then enterService .emptySet s
        else if s.scu.acceptanceSet.length ≤ s.tsu.room then setSiteState .acceptance (setWait none (queueAcceptance s))
        else setWait (some (.queueFull s.scu.acceptanceSet.length s.tsu.room)) s := by
  simp [bringupStep, State.linkUp, hb, hu, hm]

/-- The start considered with no order left waiting. -/
theorem settle_of_noIdle {s : State} (h : s.noIdleQueue) : settle s = s := by
  refine settle_of_noStart ?_
  cases hr : s.tsu.running with
  | none => exact .inr (h hr)
  | some r => exact .inl rfl

theorem bringup_of_ne {s : State} (hb : s.scu.site ≠ .bringup) (h : s.noIdleQueue) : bringup s = s := by
  rw [bringup, bringupStep_of_ne hb, settle_of_noIdle h]

/-- What a write of a setting leaves: the setting replaced, and in BRINGUP the step after it (R9, R10). -/
theorem settingWritten (f : Scu → Scu) (hf : ∀ c, (f c).site = c.site) {s : State} (hidle : s.noIdleQueue) :
    (s.scu.site ≠ .bringup → bringup (s.updScu f) = s.updScu f)
      ∧ (s.scu.site = .bringup → bringup (s.updScu f) = settle (bringupStep (s.updScu f))) :=
  ⟨fun hb => bringup_of_ne (by simpa [hf] using hb) hidle, fun _ => rfl⟩

/-- Settles O19: the step by its two conditions and the room, the settings by the write they make. -/
theorem bringupStepAndSettings : Obligations.BringupStepAndSettings := by
  refine ⟨fun s => ⟨bringupStep_of_ne, fun hb => ⟨bringupStep_waits hb, fun hu hm => ?_⟩⟩,
    fun k tag ps s hask hidle => ⟨fun c hc => ?_, fun ts hl hts => ?_⟩⟩
  · rw [bringupStep_goes hb hu hm]
    dsimp only
    refine ⟨fun hn => ?_, fun hn hroom => ?_, fun hn hroom => ?_⟩
    · rw [if_pos (List.length_eq_zero_iff.mp hn)]
      simp [enterService]
    · rw [if_neg (List.ne_nil_of_length_pos hn), if_neg (by unfold Tsu.room Config.maxOrders; omega)]
      rfl
    · rw [if_neg (List.ne_nil_of_length_pos hn), if_pos (by unfold Tsu.room Config.maxOrders; omega)]
      obtain ⟨placed, hq, ht, hr, ho, hi⟩ := queueAcceptance_placed s
      refine ⟨placed, by simpa using hq, by simp, ht, hr, fun hid => ?_, by simpa using ho, by simpa using hi, by simp, by simp [setWait]⟩
      simpa using queueAcceptance_nodup s (by omega) hid
  · have hexec : exec (.setSiteClass k tag ps) s = .next (answer k tag .ok [] (bringup (s.updScu fun x => { x with siteClass := c }))) := by
      refine congrArg _ ((serve_mayAsk hask tag _ (.inl rfl)).trans ?_)
      rw [hc]; rfl
    obtain ⟨hout, hin⟩ := settingWritten (fun x => { x with siteClass := c }) (fun _ => rfl) hidle
    exact ⟨fun hb => by rw [hexec, hout hb]; rfl, fun hb => by rw [hexec, hin hb]; rfl⟩
  · have hexec : exec (.setAcceptanceSet k tag ps) s = .next (conclude k tag (judgeSetAcceptanceSet ps s) s) :=
      congrArg _ (serve_mayAsk hask tag _ (.inr hl))
    obtain ⟨hout, hin⟩ := settingWritten (fun x => { x with acceptanceSet := ts }) (fun _ => rfl) hidle
    rw [hexec, judgeSetAcceptanceSet, hts, withParams_some]
    refine ⟨fun h => by rw [if_pos (show Config.maxTemplates < _ from h)]; rfl, fun h hb => ?_, fun h hb => ?_⟩
    · rw [if_neg (show ¬Config.maxTemplates < _ from not_lt.mpr h), hout hb]; rfl
    · rw [if_neg (show ¬Config.maxTemplates < _ from not_lt.mpr h), hin hb]; rfl

end Sys2Proof.Machine

namespace Sys2Proof.Machine

open Sys2Proof

/-! ## The readings -/

/-- An open reading of a standing slot is answered with its data. -/
theorem serve_reads {s : State} {k : Slot} (h : s.standing k = true) (tag : Byte) (data : List Field) :
    serve k tag true false (reads [] data s) s = answer k tag .ok data s :=
  serve_owner tag _ h (.inl rfl)

/-- The reading of a slot's record, for the slot itself or with OBSERVE_ALL. -/
theorem serve_readsSlot {s : State} {k t : Slot} (h : s.standing k = true) (ht : t = k ∨ s.holds k .observeAll = true) (tag : Byte)
    (data : Slot → List Field) :
    serve k tag (s.ownOr k .observeAll [BitVec.ofNat 8 t.val]) false (readsSlot [BitVec.ofNat 8 t.val] data s) s
      = answer k tag .ok (data t) s := by
  have hown : s.ownOr k .observeAll [BitVec.ofNat 8 t.val] = true := by
    rcases ht with rfl | ht
    · simp [State.ownOr, namesOwn]
    · simp [State.ownOr, ht]
  rw [hown, serve_owner tag _ h (.inl rfl), readsSlot, slotParam_val, withParams_some, slotOf_val, withParams_some, conclude_taken]

/-- The entries from a starting number on, of a log split at that number. -/
theorem entries_from {n : Nat} {below above : List LogEntry} (hb : ∀ x ∈ below, x.seq < n) (ha : ∀ x ∈ above, n ≤ x.seq) :
    (below ++ above).filter (fun e => decide (n ≤ e.seq)) = above := by
  rw [List.filter_append, List.filter_eq_nil_iff.mpr fun x hx => by simpa using hb x hx, List.nil_append,
    List.filter_eq_self.mpr fun x hx => by simpa using ha x hx]

theorem resultsData_empty {s : State} (h : s.tsu.log = []) (n : Nat) :
    resultsData n s = [.present false, .present false, .text (txt "clear"), .count 0] := by
  simp [resultsData, h, optField, listField, lostFlag, setText]

theorem resultsData_split {s : State} {n : Nat} {below above : List LogEntry} {e last : LogEntry} (hl : s.tsu.log = below ++ above)
    (he : s.tsu.log.head? = some e) (hlast : s.tsu.log.getLast? = some last) (hb : ∀ x ∈ below, x.seq < n) (ha : ∀ x ∈ above, n ≤ x.seq) :
    resultsData n s = .present true :: .num 4 e.seq :: .present true :: .num 4 last.seq
      :: .text (if 0 < n ∧ n < e.seq then txt "set" else txt "clear")
      :: .count (min 4 above.length) :: ((above.take 4).map entryFields).flatten := by
  have hentries : s.tsu.log.filter (fun e => decide (n ≤ e.seq)) = above := by rw [hl, entries_from hb ha]
  simp [resultsData, hentries, he, hlast, optField, listField, lostFlag, setText]

/-- Settles O13: each reading as the request it is, the data of READ_EVENTS and READ_RESULTS written out. -/
theorem readingsChangeNothing : Obligations.ReadingsChangeNothing := by
  intro k tag s
  refine ⟨rfl, fun h => ?_, rfl, resultsData_empty, fun n below above e last hl he hlast hb ha => resultsData_split hl he hlast hb ha⟩
  have hopen : ∀ data, (.next (serve k tag true false (reads [] data s) s) : Result) = .next (answer k tag .ok data s) := fun data =>
    congrArg _ (serve_reads h tag data)
  refine ⟨hopen _, hopen _, hopen _, hopen _, hopen _, hopen _, hopen _, hopen _, hopen _, fun n hn => ?_, fun t ht => ?_⟩
  · refine congrArg _ ((serve_owner tag _ h (.inl rfl)).trans ?_)
    rw [numParam_toBE hn]
    rfl
  · exact ⟨congrArg _ (serve_readsSlot h ht tag _), congrArg _ (serve_readsSlot h ht tag _), congrArg _ (serve_readsSlot h ht tag _)⟩

end Sys2Proof.Machine

namespace Sys2Proof.Machine

open Sys2Proof

/-! ## Event records through the moves (R205) -/

/-- The enable set stands, and a line that follows its sets follows them still. -/
def EventFollows (x y : EventRec) : Prop :=
  y.enabled = x.enabled ∧ (x.attention = attentionLevel x.pending x.enabled → y.attention = attentionLevel y.pending y.enabled)

theorem EventFollows.refl (x : EventRec) : EventFollows x x := ⟨rfl, id⟩

theorem EventFollows.trans {x y z : EventRec} (h1 : EventFollows x y) (h2 : EventFollows y z) : EventFollows x z :=
  ⟨h2.1.trans h1.1, h2.2 ∘ h1.2⟩

theorem judgeFitness_event (s : State) (j k : Slot) : EventFollows (s.sli.events.get k) ((judgeFitness s j).sli.events.get k) := by
  unfold judgeFitness
  split
  · exact .refl _
  · split
    · exact .refl _
    · dsimp only
      split
      · exact raiseIn_event _ _ _ _
      · exact .refl _

theorem judgeSlots_event (l : List Slot) (s : State) (k : Slot) :
    EventFollows (s.sli.events.get k) ((l.foldl judgeFitness s).sli.events.get k) := by
  induction l generalizing s with
  | nil => exact .refl _
  | cons j l ih => exact (judgeFitness_event s j k).trans (ih _)

theorem deriveClass_event (s : State) (k : Slot) : EventFollows (s.sli.events.get k) ((deriveClass s).sli.events.get k) := by
  by_cases hd : s.tmu.derivedClass = s.tmu.cls
  · rw [deriveClass_same hd]; exact .refl _
  · rw [deriveClass_publishes hd]
    have hraised : EventFollows (s.sli.events.get k) ((publish s).sli.events.get k) :=
      ⟨(raiseAll_event _ _ k).1, fun _ => (raiseAll_event _ _ k).2⟩
    have hjudged := judgeSlots_event allSlots (bringup (publish s)) k
    have hsame : (classPublished (publish s)).sli.events = (allSlots.foldl judgeFitness (bringup (publish s))).sli.events := by
      simp [classPublished]
    rw [hsame]
    exact (hraised.trans ((bringup_moves _).events k)).trans hjudged

theorem Moves.event {s t : State} (h : Moves s t) (k : Slot) : EventFollows (s.sli.events.get k) (t.sli.events.get k) := by
  induction h with
  | refl => exact .refl _
  | trans _ _ ih1 ih2 => exact ih1.trans ih2
  | orders h => exact h.events k
  | raise e j s => exact raiseIn_event s e j k
  | raiseAll e s => exact ⟨(raiseAll_event s e k).1, fun _ => (raiseAll_event s e k).2⟩
  | grants | clock => exact .refl _
  | derive f s => exact deriveClass_event (s.updTmu f) k

/-- Where the tables and the grant records stand through moves, every record stands. -/
theorem Moves.recordsStand {s t : State} (h : Moves s t) (ht : s.tablesStand t) (hg : t.gre = s.gre) : s.recordsStand t :=
  ⟨ht, hg, fun k => (h.event k).1, h.follows.keeps⟩

/-! ## The bring-up step with the link not UP -/

/-- The link is not UP and no acceptance is followed: whatever completes, the bring-up step can set the wait and no more. -/
structure Grounded (s : State) : Prop where
  link : s.lkc.state ≠ .up
  site : s.scu.site ≠ .acceptance

/-- No order is held. -/
structure Bare (s : State) : Prop where
  running : s.tsu.running = none
  queued : s.tsu.queued = []

theorem Bare.settle {s : State} (h : Bare s) : settle s = s := settle_of_noStart (.inr h.queued)

/-- The step sets the wait that follows from the class (R3), or in another state than BRINGUP leaves it. -/
theorem Grounded.bringupStep {s : State} (h : Grounded s) :
    bringupStep s = setWait (if s.scu.site = .bringup then some (if s.siteClassMet then .linkNotUp else .linkAndTime) else s.scu.wait) s := by
  by_cases hb : s.scu.site = .bringup
  · rw [bringupStep_waits hb fun hup => h.link hup.1, if_neg h.link, if_pos hb]
  · rw [bringupStep_of_ne hb, if_neg hb]; rfl

theorem Grounded.of_same {s t : State} (h : Grounded s) (hl : t.lkc.state = s.lkc.state) (hs : t.scu.site = s.scu.site) : Grounded t :=
  ⟨hl ▸ h.link, hs ▸ h.site⟩

/-- The site records but for the wait, the fitness and the lines. -/
def Scu.settled (c d : Scu) : Prop := d = { c with wait := d.wait, fit := d.fit, inhibit := d.inhibit }

/-- The kinds that may follow a missing outcome (R129, R144, R145). -/
def outcomeKinds : List EventKind := [.source, .timeQuality, .timeUnfit]

/-- From a grounded state the site and the link stand; with no order held besides, so do the orders, the queues, the site record but for the
wait, the fitness and the lines, and every kind but those of an outcome. -/
structure Stays (s t : State) : Prop where
  link : t.lkc.state = s.lkc.state
  site : Grounded s → t.scu.site = s.scu.site
  orders : Grounded s → Bare s → t.tsu = s.tsu
  queues : Grounded s → Bare s → t.tqm = s.tqm
  record : Grounded s → Bare s → s.scu.settled t.scu
  kinds : Grounded s → Bare s → ∀ k e, e ∉ outcomeKinds → t.pends k e = s.pends k e

theorem Stays.grounded {s t : State} (h : Stays s t) (hg : Grounded s) : Grounded t := hg.of_same h.link (h.site hg)

theorem Stays.bare {s t : State} (h : Stays s t) (hg : Grounded s) (hb : Bare s) : Bare t := by
  have ht := h.orders hg hb
  exact ⟨by rw [ht, hb.running], by rw [ht, hb.queued]⟩

theorem Stays.refl (s : State) : Stays s s := ⟨rfl, fun _ => rfl, fun _ _ => rfl, fun _ _ => rfl, fun _ _ => rfl, fun _ _ _ _ _ => rfl⟩

theorem Stays.trans {s t u : State} (h1 : Stays s t) (h2 : Stays t u) : Stays s u where
  link := h2.link.trans h1.link
  site hg := (h2.site (h1.grounded hg)).trans (h1.site hg)
  orders hg hb := (h2.orders (h1.grounded hg) (h1.bare hg hb)).trans (h1.orders hg hb)
  queues hg hb := (h2.queues (h1.grounded hg) (h1.bare hg hb)).trans (h1.queues hg hb)
  record hg hb := by
    have hr1 := h1.record hg hb
    have hr2 := h2.record (h1.grounded hg) (h1.bare hg hb)
    unfold Scu.settled at hr1 hr2 ⊢
    rw [hr2, hr1]
  kinds hg hb k e he := (h2.kinds (h1.grounded hg) (h1.bare hg hb) k e he).trans (h1.kinds hg hb k e he)

/-- What touches neither link, site record, orders nor queues, and raises nothing but a kind of an outcome. -/
theorem Stays.of_same {s t : State} (hl : t.lkc = s.lkc) (hs : t.scu = s.scu) (ho : t.tsu = s.tsu) (hq : t.tqm = s.tqm)
    (hk : ∀ k e, e ∉ outcomeKinds → t.pends k e = s.pends k e) : Stays s t :=
  ⟨by rw [hl], fun _ => by rw [hs], fun _ _ => ho, fun _ _ => hq, fun _ _ => by rw [hs]; rfl, fun _ _ => hk⟩

theorem Stays.tmu (f : Tmu → Tmu) (s : State) : Stays s (s.updTmu f) := .of_same rfl rfl rfl rfl fun _ _ _ => rfl

/-- A grounded completion leaves the site: it is not followed, and the step sets at most the wait. -/
theorem completeOrder_site {s : State} (h : Grounded s) (o : Order) (out : TestOutcome) (m : Measures) :
    (completeOrder o out m s).scu.site = s.scu.site := by
  have hg : Grounded (raiseTestDone o.requester (writeEntry o out m s)) := h.of_same (by simp) (by simp)
  rw [completeOrder, reportCompletion, if_neg hg.site, hg.bringupStep]
  simp

theorem considerStart_site {s : State} (h : Grounded s) (n : Nat) : (considerStart n s).scu.site = s.scu.site := by
  induction n generalizing s with
  | zero => rfl
  | succ n ih =>
    unfold considerStart
    split
    · next o rest _ _ =>
      dsimp only
      have hg : Grounded (s.updTsu fun t => { t with queued := rest }) := ⟨h.link, h.site⟩
      split
      · simp
      · exact (ih (hg.of_same (by simp) (completeOrder_site hg _ _ _))).trans (completeOrder_site hg _ _ _)
    · rfl

theorem settle_stays (s : State) : Stays s (settle s) :=
  ⟨by simp, fun hg => considerStart_site hg _, fun _ hb => by rw [hb.settle], fun _ hb => by rw [hb.settle], fun _ hb => by rw [hb.settle]; rfl,
    fun _ hb _ _ _ => by rw [hb.settle]⟩

theorem bringupStep_stays (s : State) : Stays s (bringupStep s) :=
  ⟨by simp, fun hg => by rw [hg.bringupStep]; rfl, fun hg _ => by rw [hg.bringupStep]; rfl, fun hg _ => by rw [hg.bringupStep]; rfl,
    fun hg _ => by rw [hg.bringupStep]; rfl, fun hg _ _ _ _ => by rw [hg.bringupStep]; rfl⟩

theorem bringup_stays (s : State) : Stays s (bringup s) := (bringupStep_stays s).trans (settle_stays _)

theorem endRunning_stays (out : TestOutcome) (s : State) : Stays s (endRunning out s) := by
  have hid : Bare s → endRunning out s = s := fun hb => by simp [endRunning, hb.running]
  refine ⟨by simp, fun hg => ?_, fun _ hb => by rw [hid hb], fun _ hb => by rw [hid hb], fun _ hb => by rw [hid hb]; rfl,
    fun _ hb _ _ _ => by rw [hid hb]⟩
  unfold endRunning
  split
  · rfl
  · have hg' : Grounded (s.updTsu fun t => { t with running := none }) := ⟨hg.link, hg.site⟩
    exact ((settle_stays _).site (hg'.of_same (by simp) (completeOrder_site hg' _ _ _))).trans (completeOrder_site hg' _ _ _)

theorem judgeFitness_stays (s : State) (j : Slot) : Stays s (judgeFitness s j) := by
  refine ⟨by simp, fun _ => by simp, fun _ _ => by simp, fun _ _ => by simp, fun _ _ => ?_, fun _ _ k e he => ?_⟩
  · unfold judgeFitness
    dsimp only
    (repeat' split) <;> simp [Scu.settled]
  · rw [pends_judgeFitness]
    have : e ≠ .timeUnfit := fun h => he (by simp [h, outcomeKinds])
    simp [this]

theorem judgeSlots_stays (l : List Slot) (s : State) : Stays s (l.foldl judgeFitness s) := by
  induction l generalizing s with
  | nil => exact .refl s
  | cons j l ih => exact (judgeFitness_stays s j).trans (ih _)

theorem recomputeInhibit_stays (s : State) : Stays s (recomputeInhibit s) :=
  ⟨by simp, fun _ => by simp, fun _ _ => by simp, fun _ _ => by simp, fun _ _ => rfl, fun _ _ _ _ _ => pends_of_events (by simp) _ _⟩

/-- A kind of an outcome raised everywhere. -/
theorem raiseAll_stays (e : EventKind) (he : e ∈ outcomeKinds) (s : State) : Stays s (raiseAll e s) :=
  .of_same (by simp) (by simp) (by simp) (by simp) fun k x hx => by
    rw [pends_raiseAll]
    have : x ≠ e := fun h => hx (h ▸ he)
    simp [this]

theorem deriveClass_stays (s : State) : Stays s (deriveClass s) := by
  unfold deriveClass
  split
  · exact .refl s
  · exact (((((Stays.tmu _ s).trans (raiseAll_stays _ (by decide) _)).trans (bringup_stays _)).trans (judgeSlots_stays _ _)).trans
      (recomputeInhibit_stays _))

theorem judgeSelection_stays (s : State) : Stays s (judgeSelection s) := by
  unfold judgeSelection
  split
  · exact .refl s
  · exact ((Stays.tmu _ s).trans (raiseAll_stays _ (by decide) _)).trans (deriveClass_stays _)

theorem tsuSourceLeft_stays (s : State) : Stays s (tsuSourceLeft s) := by
  unfold tsuSourceLeft
  split
  · exact endRunning_stays _ s
  · exact .refl s

theorem takeOutcome_stays (src : Source) (v : Bool) (s : State) : Stays s (takeOutcome src v s) := by
  unfold takeOutcome qualificationChanged
  split
  · exact .refl s
  · refine (Stays.tmu (fun t => t.updSource src fun r => r.afterOutcome v) s).trans ?_
    split
    · exact .refl _
    · refine Stays.trans ?_ (judgeSelection_stays _)
      split
      · exact tsuSourceLeft_stays _
      · exact .refl _

theorem exchangeMissing_stays (s : State) : Stays s (exchangeMissing s) := by
  unfold exchangeMissing
  split
  · exact .refl s
  · exact (Stays.tmu _ s).trans (takeOutcome_stays _ _ _)

end Sys2Proof.Machine

namespace Sys2Proof.Machine

open Sys2Proof

/-! ## Entry to discovery (R24, R45) -/

/-- What is sent, and not awaited, as HELD is left. -/
def holdRelease (s : State) : List Emission := if s.lkc.state.isHeld then [.odu .loopOff] else []

theorem abandon_apart (l : Lkc) : l.abandon = { l with outstanding := none, late := l.abandon.late } := by
  unfold Lkc.abandon
  split
  · rfl
  · next h => rw [← h]

/-- From HELD LOOP_OFF is sent; of the link record the command, the frames awaited and the counts of commands alone change. -/
theorem releaseHold_lkc (s : State) :
    (releaseHold s).emitted = s.emitted ++ holdRelease s
      ∧ (releaseHold s).lkc
          = { s.lkc with outstanding := (releaseHold s).lkc.outstanding, late := (releaseHold s).lkc.late, looped := (releaseHold s).lkc.looped,
                         sent := s.lkc.sent + (holdRelease s).length } := by
  unfold releaseHold holdRelease
  split
  · have habandon := abandon_apart { s.lkc with sent := s.lkc.sent + 1 }
    refine ⟨by simp, ?_⟩
    simp only [judgeLooped, State.updLkc_lkc, countLooped_frame, emitOdu_frame]
    rw [habandon]
    rfl
  · simp

/-- The link record at the entry: what discovery clears cleared, IDENTIFY outstanding (R24). -/
theorem discoveryEntry_lkc (s : State) :
    (discoveryEntry s).emitted = s.emitted ++ holdRelease s ++ [.odu .identify]
      ∧ (discoveryEntry s).lkc
          = { s.lkc.clear with
              state := .discovery .identify 1, syncMiss := 0, lowRun := 0, sent := s.lkc.sent + (holdRelease s).length + 1,
              outstanding := some ⟨.identify, 0, 100, s.lkc.sent + (holdRelease s).length⟩,
              late := (discoveryEntry s).lkc.late, looped := (discoveryEntry s).lkc.looped } := by
  obtain ⟨hemitted, hlkc⟩ := releaseHold_lkc s
  constructor
  · simp [discoveryEntry, sendOdu, hemitted]
  · simp only [discoveryEntry, linkStateEvent_frame, sendOdu, State.updLkc_lkc, emitOdu_frame, Lkc.clear]
    rw [hlkc]
    rfl

theorem pends_linkStateEvent (s : State) (k : Slot) (e : EventKind) :
    (linkStateEvent s).pends k e = (s.pends k e || decide (e = .linkState)) := pends_raiseAll _ _ _ _

theorem pends_discoveryEntry (s : State) (k : Slot) (e : EventKind) :
    (discoveryEntry s).pends k e = (s.pends k e || decide (e = .linkState)) := by
  unfold discoveryEntry
  rw [pends_linkStateEvent, pends_of_events (s := s) (by simp)]

theorem State.tablesStand.trans {s t u : State} (h1 : s.tablesStand t) (h2 : t.tablesStand u) : s.tablesStand u := by
  obtain ⟨a1, b1, c1, d1, e1, f1⟩ := h1
  obtain ⟨a2, b2, c2, d2, e2, f2⟩ := h2
  exact ⟨a2.trans a1, b2.trans b1, c2.trans c1, d2.trans d1, e2.trans e1, f2.trans f1⟩

theorem setSiteState_tablesStand (st : SiteState) (s : State) : s.tablesStand (setSiteState st s) := by
  simp [State.tablesStand, State.tables]

/-- The link's limits and profiles stand at the entry. -/
theorem discoveryEntry_limits (s : State) :
    (discoveryEntry s).lkc.ceiling = s.lkc.ceiling ∧ (discoveryEntry s).lkc.upLimit = s.lkc.upLimit
      ∧ (discoveryEntry s).lkc.lossLimit = s.lkc.lossLimit ∧ (discoveryEntry s).lkc.confirmLimit = s.lkc.confirmLimit
      ∧ (discoveryEntry s).lkc.profiles = s.lkc.profiles := by
  rw [(discoveryEntry_lkc s).2]
  simp [Lkc.clear]

/-- The tables stand at an entry to discovery. -/
theorem enterDiscovery_tablesStand (s : State) : s.tablesStand (enterDiscovery s) := by
  have hlkc : (enterDiscovery s).lkc = (discoveryEntry s).lkc := by simp [enterDiscovery]
  simp [State.tablesStand, State.tables, hlkc, discoveryEntry_limits]

/-! ## The wait of a grounded step (R3) -/

/-- The wait that the step sets with the link not UP. -/
def State.groundedWait (s : State) : Option BringupWait := some (if s.siteClassMet then .linkNotUp else .linkAndTime)

theorem groundedWait_congr {s t : State} (hc : t.tmu.cls = s.tmu.cls) (hs : t.scu.siteClass = s.scu.siteClass) :
    t.groundedWait = s.groundedWait := by
  rw [State.groundedWait, State.siteClassMet, hc, hs]
  rfl

theorem completeOrder_wait {s : State} (h : Grounded s) (hb : s.scu.site = .bringup) (o : Order) (out : TestOutcome) (m : Measures) :
    (completeOrder o out m s).scu.wait = s.groundedWait := by
  have hg : Grounded (raiseTestDone o.requester (writeEntry o out m s)) := h.of_same (by simp) (by simp)
  rw [completeOrder, reportCompletion, if_neg hg.site, hg.bringupStep, if_pos (by simpa using hb)]
  exact groundedWait_congr (by simp) (by simp)

theorem considerStart_wait {s : State} (h : Grounded s) (hb : s.scu.site = .bringup) (hw : s.scu.wait = s.groundedWait) (n : Nat) :
    (considerStart n s).scu.wait = s.groundedWait := by
  induction n generalizing s with
  | zero => exact hw
  | succ n ih =>
    unfold considerStart
    split
    · next o rest _ _ =>
      dsimp only
      have hg : Grounded (s.updTsu fun t => { t with queued := rest }) := ⟨h.link, h.site⟩
      have hsite := completeOrder_site hg o .notRun {}
      have hsame : (completeOrder o .notRun {} (s.updTsu fun t => { t with queued := rest })).groundedWait = s.groundedWait :=
        groundedWait_congr (by simp) (by simp)
      split
      · simpa using hw
      · rw [ih (hg.of_same (by simp) hsite) (hsite.trans hb) ((completeOrder_wait hg hb _ _ _).trans hsame.symm), hsame]
    · exact hw

theorem bringup_wait {s : State} (h : Grounded s) (hb : s.scu.site = .bringup) : (bringup s).scu.wait = s.groundedWait := by
  have hstep : bringupStep s = setWait s.groundedWait s := by rw [h.bringupStep, if_pos hb]; rfl
  unfold bringup settle
  rw [hstep]
  exact considerStart_wait (s := setWait s.groundedWait s) ⟨h.link, h.site⟩ hb rfl _

/-- A departure leaves the site of a grounded state, and in BRINGUP the wait follows. -/
theorem depart_grounded {s : State} (h : Grounded s) (w : LinkState) (out : TestOutcome) :
    (depart w out s).scu.site = s.scu.site
      ∧ (s.scu.site = .bringup → (depart w out s).scu.wait = some .linkNotUp ∨ (depart w out s).scu.wait = some .linkAndTime) := by
  have key : ∀ u, Grounded u → u.scu.site = s.scu.site →
      (bringup u).scu.site = s.scu.site
        ∧ (s.scu.site = .bringup → (bringup u).scu.wait = some .linkNotUp ∨ (bringup u).scu.wait = some .linkAndTime) := by
    refine fun u hu hs => ⟨((bringup_stays u).site hu).trans hs, fun hb => ?_⟩
    rw [bringup_wait hu (hs.trans hb), State.groundedWait]
    split
    · exact .inl rfl
    · exact .inr rfl
  have hqueues : Stays (tqmDepart s) (exchangeMissing (tqmDepart s)) := exchangeMissing_stays _
  have htests : ∀ u, Stays u (tsuDepart out u) := fun u => by
    unfold tsuDepart
    split
    · exact endRunning_stays _ u
    · exact endRunning_stays _ u
    · exact .refl u
  unfold depart departQueues
  split
  · have hall := hqueues.trans (htests _)
    exact key _ (hall.grounded ⟨h.link, h.site⟩) (hall.site ⟨h.link, h.site⟩)
  · exact key s h rfl

/-! ## BEGIN_BRINGUP (R11, R44) -/

/-- What the entry leaves, from a state whose site is not following acceptance. -/
theorem enterDiscovery_bringup {s : State} (hs : s.scu.site = .bringup) :
    (enterDiscovery s).scu.site = .bringup
      ∧ ((enterDiscovery s).scu.wait = some .linkNotUp ∨ (enterDiscovery s).scu.wait = some .linkAndTime) := by
  have hg : Grounded (discoveryEntry s) := ⟨by rw [(discoveryEntry_lkc s).2]; simp, by simp [hs]⟩
  obtain ⟨hsite, hwait⟩ := depart_grounded hg s.lkc.state (.aborted .linkLost)
  exact ⟨hsite.trans (by simpa using hs), hwait (by simpa using hs)⟩

/-- Settles O20: the checks as `bringupFault` makes them, then the entry. -/
theorem beginBringupChecksThenStarts : Obligations.BeginBringupChecksThenStarts := by
  intro k tag s hask
  have hexec : exec (.beginBringup k tag []) s = .next (conclude k tag (judgeBeginBringup [] s) s) :=
    congrArg _ (serve_mayAsk hask tag _ (.inl rfl))
  refine ⟨fun hs => by rw [hexec, judgeBeginBringup, if_pos hs]; rfl, fun hs => ?_⟩
  have hfault : ∀ data, s.bringupFault = some data → exec (.beginBringup k tag []) s = .next (answer k tag .badValue data s) := by
    intro data hd
    rw [hexec, judgeBeginBringup, if_neg (not_not.mpr hs), noParams_nil, withParams_some, hd]
    rfl
  refine ⟨fun i hi => hfault _ ?_, fun h1 hc hn => hfault _ ?_, fun i h1 h2 ho hi => hfault _ ?_, fun h1 h2 h3 => ?_⟩
  · simp [State.bringupFault, hi]
  · simp [State.bringupFault, h1, hc, hn]
  · have h2' : ¬(s.scu.siteClass ≠ .none ∧ s.tmu.params.gnssPriority = 0 ∧ s.tmu.params.linkPriority = 0) := h2
    simp only [State.bringupFault, h1, if_neg h2', hi, if_pos ho]
  · have h2' : ¬(s.scu.siteClass ≠ .none ∧ s.tmu.params.gnssPriority = 0 ∧ s.tmu.params.linkPriority = 0) := h2
    have hnone : s.bringupFault = none := by
      simp only [State.bringupFault, h1, if_neg h2']
      split
      · next i hi => rw [if_neg fun ho => h3 ⟨ho, by rw [hi]; rfl⟩]
      · rfl
    have hmoves : Moves s (enterDiscovery (setSiteState .bringup s)) := (Moves.site .bringup s (by decide)).trans (enterDiscovery_moves _)
    have hstand : s.tablesStand (enterDiscovery (setSiteState .bringup s)) :=
      (setSiteState_tablesStand .bringup s).trans (enterDiscovery_tablesStand _)
    have hlkc : (enterDiscovery (setSiteState .bringup s)).lkc = (discoveryEntry (setSiteState .bringup s)).lkc := by simp [enterDiscovery]
    have hentry := (discoveryEntry_lkc (setSiteState .bringup s)).2
    obtain ⟨hsite, hwait⟩ := enterDiscovery_bringup (setSiteState_site .bringup s)
    refine ⟨enterDiscovery (setSiteState .bringup s), ?_, hsite, by rw [hlkc, hentry],
      ⟨s.lkc.sent + (holdRelease (setSiteState .bringup s)).length, Nat.le_add_right _ _, by rw [hlkc, hentry]; simp, by rw [hlkc, hentry]; simp⟩,
      hwait, fun j => ?_, hmoves.recordsStand hstand (by simp), by simp [enterDiscovery]⟩
    · rw [hexec, judgeBeginBringup, if_neg (not_not.mpr hs), noParams_nil, withParams_some, hnone]
      rfl
    · have hkeeps := (depart_moves (setSiteState .bringup s).lkc.state (.aborted .linkLost) (discoveryEntry (setSiteState .bringup s))).follows.keeps
      exact ⟨hkeeps j _ (by rw [pends_discoveryEntry, pends_setSiteState]; simp), hkeeps j _ (by rw [pends_discoveryEntry]; simp)⟩

end Sys2Proof.Machine

namespace Sys2Proof.Machine

open Sys2Proof

/-! ## The load (R2, R21, R160, R211) -/

theorem sli_apart {x y : Sli} (hl : y.links = x.links) (hk : y.lock = x.lock) (hs : y.strap = x.strap) :
    y = { x with access := y.access, events := y.events } := by
  cases x; cases y; simp_all

/-- Outside HELD nothing is released. -/
theorem discoveryEntry_of_notHeld {s : State} (h : s.lkc.state.isHeld = false) :
    holdRelease s = [] ∧ (discoveryEntry s).tsu = s.tsu := by
  have hrelease : releaseHold s = s := by simp [releaseHold, h]
  exact ⟨by simp [holdRelease, h], by simp [discoveryEntry, hrelease]⟩

/-- Tables installed are the tables in force. -/
theorem installTables_tables (tb : Tables) (s : State) : (installTables tb s).tables = tb := rfl

theorem installTables_tmu (tb : Tables) (s : State) :
    (installTables tb s).tmu.pulseTimer = some 0 ∧ ((installTables tb s).tmu.gnss.qual = .disabled ↔ tb.time.gnssPriority = 0)
      ∧ ((installTables tb s).tmu.link.qual = .disabled ↔ tb.time.linkPriority = 0) := by
  simp [installTables, SourceRec.atLoad]

/-- What both loads leave, over the state the tables are installed in. -/
theorem load_leaves {st : SiteState} {tb : Tables} {l : LoadOutcome} {s t : State}
    (hm : Moves (setSiteState st (installTables tb (s.updDsu fun d => { d with load := some l }))) t)
    (hd : t.dsu = { s.dsu with load := some l }) (hg : t.gre.slots = s.gre.slots) (hlinks : t.sli.links = s.sli.links)
    (hlock : t.sli.lock = s.sli.lock) (hstrap : t.sli.strap = s.sli.strap) :
    (∀ k, (t.sli.events.get k).pending.has .siteState = true) ∧ t.gre.slots = s.gre.slots ∧ t.dsu = { s.dsu with load := t.dsu.load }
      ∧ t.inhibitsRight ∧ t.sli = { s.sli with access := t.sli.access, events := t.sli.events } :=
  ⟨fun k => hm.follows.keeps k .siteState (by rw [pends_setSiteState]; simp), hg, by rw [hd], hm.follows.lines (setSiteState_right _ _),
    sli_apart hlinks hlock hstrap⟩

/-- The state that a VALID load enters discovery from. -/
def validLoaded (tb : Tables) (s : State) : State :=
  setSiteState .bringup (installTables tb (s.updDsu fun d => { d with load := some .valid }))

/-- Discovery entered from the load: no order is held and the link is not UP, so the step sets the wait alone. -/
theorem validLoaded_enters {tb : Tables} {s : State} (hq : Quiet s) :
    enterDiscovery (validLoaded tb s) = bringup (discoveryEntry (validLoaded tb s))
      ∧ holdRelease (validLoaded tb s) = [] ∧ Grounded (discoveryEntry (validLoaded tb s)) ∧ Bare (discoveryEntry (validLoaded tb s))
      ∧ (discoveryEntry (validLoaded tb s)).scu.site = .bringup ∧ (discoveryEntry (validLoaded tb s)).tsu = s.tsu := by
  have hlink : (validLoaded tb s).lkc.state = .off .none := by simp [validLoaded, installTables, hq.link]
  have hsite : (discoveryEntry (validLoaded tb s)).scu.site = .bringup := by simp [validLoaded]
  obtain ⟨hrelease, htsu⟩ := discoveryEntry_of_notHeld (s := validLoaded tb s) (by rw [hlink]; rfl)
  have horders : (discoveryEntry (validLoaded tb s)).tsu = s.tsu := htsu.trans (by simp [validLoaded])
  refine ⟨?_, hrelease, ⟨?_, by rw [hsite]; decide⟩, ⟨by rw [horders, hq.running], by rw [horders, hq.queued]⟩, hsite, horders⟩
  · simp [enterDiscovery, depart, hlink, LinkState.carries]
  · rw [(discoveryEntry_lkc _).2]; simp

/-- Settles O15: the tables installed, then discovery entered with no order held, or the link left OFF. -/
theorem descriptorLoadInstalls : Obligations.DescriptorLoadInstalls := by
  intro flash s hs hl
  have hq := hl.quiet hs
  have hexec : exec (.descriptorLoad flash) s = .next (completeLoad flash s) := if_pos hs
  cases hj : judgeDescriptor flash with
  | error f =>
    have hload : completeLoad flash s
        = (setSiteState .unconfigured (installTables defaultTables (s.updDsu fun d => { d with load := some (.defaults f) }))).updLkc
            fun l => { l with state := .off .unconfigured } := by rw [completeLoad, hj]
    rw [hexec, hload]
    obtain ⟨hsite, hgre, hdsu, hlines, hsli⟩ := load_leaves (st := .unconfigured) (.lkc (fun l => { l with state := .off .unconfigured })
      (setSiteState .unconfigured (installTables defaultTables (s.updDsu fun d => { d with load := some (.defaults f) }))))
      (by simp) (by simp) (by simp) (by simp) (by simp)
    refine ⟨_, rfl, hsite, by simp, by simp, hgre, hdsu, hlines, hsli, by simp, by simp, fun tb h => (nomatch h), fun g h => ?_⟩
    cases h
    exact ⟨rfl, rfl, by simp, by simp, rfl, by simp, rfl⟩
  | ok tb =>
    have hload : completeLoad flash s = enterDiscovery (validLoaded tb s) := by rw [completeLoad, hj]; rfl
    rw [hexec, hload]
    obtain ⟨henter, hrelease, hg, hb, hsite, htsu⟩ := validLoaded_enters (tb := tb) hq
    obtain ⟨hemitted, hlkc⟩ := discoveryEntry_lkc (validLoaded tb s)
    have hstays := bringup_stays (discoveryEntry (validLoaded tb s))
    obtain ⟨hpending, hgre, hdsu, hlines, hsli⟩ := load_leaves (st := .bringup) (enterDiscovery_moves (validLoaded tb s))
      (by simp [validLoaded]) (by simp [validLoaded]) (by simp [validLoaded]) (by simp [validLoaded]) (by simp [validLoaded])
    have htables : (enterDiscovery (validLoaded tb s)).tables = tb :=
      ((setSiteState_tablesStand _ _).trans (enterDiscovery_tablesStand (validLoaded tb s))).1.trans (installTables_tables _ _)
    have htmu : (enterDiscovery (validLoaded tb s)).tmu = (installTables tb (s.updDsu fun d => { d with load := some .valid })).tmu := by
      rw [henter]; simp [validLoaded]
    have hstate : (enterDiscovery (validLoaded tb s)).lkc = (discoveryEntry (validLoaded tb s)).lkc := by simp [enterDiscovery]
    refine ⟨_, rfl, hpending, ?_, ?_, hgre, hdsu, hlines, hsli, by rw [htmu]; simp, by rw [htmu]; simp, fun tb' h => ?_, fun f h => (nomatch h)⟩
    · rw [henter, hstays.queues hg hb]; simp [validLoaded]
    · rw [henter, hstays.orders hg hb, htsu]
    · cases h
      obtain ⟨hpulse, hgnss, hlink⟩ := installTables_tmu tb (s.updDsu fun d => { d with load := some .valid })
      rw [hrelease] at hemitted hlkc
      refine ⟨htables, by simp [validLoaded, installTables], by simp [validLoaded], ?_, by rw [hstate, hlkc],
        by rw [hstate, hlkc]; simp [validLoaded, installTables], by rw [hstate, hlkc]; simp [validLoaded, installTables], ?_, fun k => ?_, by rw [htmu]; exact hpulse, by rw [htmu]; exact hgnss,
        by rw [htmu]; exact hlink, ?_⟩
      · rw [henter, hstays.site hg, hsite]
      · rw [henter, (bringup_frame _).2.2.2.2.2.2.2.1, hemitted]; simp [validLoaded]
      · rw [henter]
        exact pends_bringup _ k .linkState (by rw [pends_discoveryEntry]; simp)
      · rw [henter, bringup_wait hg hsite]
        exact groundedWait_congr (s := validLoaded tb s) (by simp) (by simp)

end Sys2Proof.Machine

namespace Sys2Proof.Machine

open Sys2Proof

/-! ## RETRY_ACCEPTANCE (R12) -/

/-- The tables stand where only orders, the site and the events change. -/
theorem settle_tablesStand (s : State) : s.tablesStand (settle s) := by simp [State.tablesStand, State.tables]

/-- The set queued, the failure made absent, and ACCEPTANCE entered. -/
def retried (s : State) : State := setSiteState .acceptance (clearFailure (queueAcceptance s))

theorem retried_moves {s : State} (hroom : s.scu.acceptanceSet.length ≤ s.tsu.room) (hne : s.scu.acceptanceSet ≠ []) :
    OrderMoves s (retried s) :=
  ((queueAcceptance_moves s hroom hne).trans (.alike (t := clearFailure (queueAcceptance s)) (by simp [Alike, clearFailure]))).trans
    (.site _ _ (by decide))

/-- What the retry leaves alone, and what stands of the queue. -/
theorem retried_frame (s : State) :
    (retried s).lkc = s.lkc ∧ (retried s).tqm = s.tqm ∧ (retried s).tmu = s.tmu ∧ (retried s).gre = s.gre ∧ s.tablesStand (retried s)
      ∧ (retried s).scu.site = .acceptance ∧ (retried s).scu.failure = none ∧ (retried s).tsu.running = s.tsu.running
      ∧ (retried s).tsu.log = s.tsu.log ∧ (retried s).tsu.nextSeq = s.tsu.nextSeq ∧ (retried s).tsu.queued = (queueAcceptance s).tsu.queued
      ∧ (retried s).scu.tracking = (queueAcceptance s).scu.tracking ∧ (retried s).scu.tenants = s.scu.tenants := by
  simp [retried, clearFailure, State.tablesStand, State.tables]

/-- The orders the retry queues: one for each template, each tracked. -/
theorem retried_queued (s : State) :
    (retried s).tsu.queued.map Order.test = s.tsu.queued.map Order.test ++ s.scu.acceptanceSet
      ∧ (retried s).scu.tracking.length = s.scu.tracking.length + s.scu.acceptanceSet.length := by
  obtain ⟨-, -, -, -, -, -, -, -, -, -, hq, ht, -⟩ := retried_frame s
  obtain ⟨placed, hplaced, htest, -, horder, -⟩ := queueAcceptance_placed s
  refine ⟨by rw [hq, hplaced, List.map_append, htest], ?_⟩
  have := congrArg List.length horder
  simpa [ht, ← htest] using this

/-- With the queue empty the first of the orders queued is the first template's, under the next id. -/
theorem retried_first {s : State} {first : Test} {rest : List Test} (hset : s.scu.acceptanceSet = first :: rest) (hq : s.tsu.queued = [])
    (ht : s.scu.tracking = []) :
    ∃ orders tracked, (retried s).tsu.queued = ⟨s.tsu.newId, .site, first⟩ :: orders ∧ orders.map Order.test = rest
      ∧ (retried s).scu.tracking = ⟨0, s.tsu.newId⟩ :: tracked := by
  obtain ⟨-, -, -, -, -, -, -, -, -, -, hqueued, htracking, -⟩ := retried_frame s
  obtain ⟨hq1, ht1⟩ := queueTemplate_queued s (0, first)
  have hset' : queueAcceptance s = (numbered 1 rest).foldl queueTemplate (queueTemplate s (0, first)) := by rw [queueAcceptance, hset]; rfl
  obtain ⟨placed, hplaced, htest, -, horder, htemplate⟩ := queueTemplates_placed (numbered 1 rest) (queueTemplate s (0, first))
  rw [← hset'] at hplaced horder htemplate
  rw [hq1, hq] at hplaced
  rw [ht1, ht] at horder htemplate
  rw [hqueued, htracking, hplaced]
  refine ⟨placed, (queueAcceptance s).scu.tracking.tail, rfl, by rw [htest, numbered_map_test], ?_⟩
  cases htr : (queueAcceptance s).scu.tracking with
  | nil => rw [htr] at horder; simp at horder
  | cons x xs =>
    rw [htr] at horder htemplate
    obtain ⟨template, order⟩ := x
    simp only [List.map_cons, List.nil_append, List.cons_append, List.cons.injEq] at horder htemplate
    rw [horder.1, htemplate.1]
    rfl

/-! ## The start considered one order at a time (R166) -/

theorem considerStart_cons {s : State} {o : Order} {rest : List Order} (hr : s.tsu.running = none) (hq : s.tsu.queued = o :: rest) (n : Nat) :
    considerStart (n + 1) s
      = if (s.updTsu fun t => { t with queued := rest }).startable o.test then startOrder o (s.updTsu fun t => { t with queued := rest })
        else considerStart n (completeOrder o .notRun {} (s.updTsu fun t => { t with queued := rest })) := by
  rw [considerStart, hr, hq]

theorem startable_congr {s t : State} (hl : t.lkc = s.lkc) (hm : t.tmu = s.tmu) (ht : t.scu.tenants = s.scu.tenants) (x : Test) :
    t.startable x = s.startable x := by
  cases x <;> simp [State.startable, State.slotEnabled, State.slotState, State.tenant, State.linkUp, hl, hm, ht]

/-- A completion where no acceptance is followed and no step is due is its entry and its event. -/
theorem completeOrder_elsewhere {s : State} (ha : s.scu.site ≠ .acceptance) (hb : s.scu.site ≠ .bringup) (o : Order) (out : TestOutcome)
    (m : Measures) : completeOrder o out m s = raiseTestDone o.requester (writeEntry o out m s) := by
  rw [completeOrder, reportCompletion, if_neg (by simpa using ha), bringupStep_of_ne (by simpa using hb)]

theorem considerStart_scu {s : State} (ha : s.scu.site ≠ .acceptance) (hb : s.scu.site ≠ .bringup) (n : Nat) :
    (considerStart n s).scu = s.scu := by
  induction n generalizing s with
  | zero => rfl
  | succ n ih =>
    unfold considerStart
    split
    · next o rest _ _ =>
      dsimp only
      split
      · simp
      · rw [completeOrder_elsewhere (by exact ha) (by exact hb), ih (by simpa using ha) (by simpa using hb)]
        simp
    · rfl

/-- An entry written at the log's end, the lowest one leaving a full log (R183). -/
theorem writeEntry_log {s : State} {n : Nat} (h : s.tsu.nextSeq = some n) (o : Order) (out : TestOutcome) (m : Measures) :
    (writeEntry o out m s).tsu.log
      = (if 16 ≤ s.tsu.log.length then s.tsu.log.drop 1 else s.tsu.log) ++ [⟨n, o, out, m, s.tmu.site, s.tmu.cls⟩] := by
  rw [writeEntry, h]
  rfl

/-- An entry that is followed by less than 15 others outlives one more (R183). -/
theorem writeEntry_keeps {e : LogEntry} {pre post : List LogEntry} {s : State} (h : s.tsu.log = pre ++ e :: post) (hp : post.length < 15)
    (o : Order) (out : TestOutcome) (m : Measures) :
    ∃ pre' post', (writeEntry o out m s).tsu.log = pre' ++ e :: post' ∧ post'.length ≤ post.length + 1 := by
  cases hn : s.tsu.nextSeq with
  | none => exact ⟨pre, post, by rw [writeEntry, hn]; exact h, Nat.le_succ _⟩
  | some n =>
    rw [writeEntry_log hn]
    generalize (⟨n, o, out, m, s.tmu.site, s.tmu.cls⟩ : LogEntry) = x
    rw [h]
    cases pre with
    | nil =>
      rw [if_neg (by simp only [List.nil_append, List.length_cons]; omega)]
      exact ⟨[], post ++ [x], rfl, by simp⟩
    | cons y ys =>
      split
      · exact ⟨ys, post ++ [x], by simp, by simp⟩
      · exact ⟨y :: ys, post ++ [x], by simp, by simp⟩

/-- An entry outlives the orders that complete NOT_RUN, as long as they are few. -/
theorem considerStart_keepsEntry {e : LogEntry} {pre post : List LogEntry} {s : State} (ha : s.scu.site ≠ .acceptance)
    (hb : s.scu.site ≠ .bringup) (h : s.tsu.log = pre ++ e :: post) (hp : post.length + s.tsu.queued.length ≤ 15) (n : Nat) :
    e ∈ (considerStart n s).tsu.log := by
  induction n generalizing s pre post with
  | zero => simp [considerStart, h]
  | succ n ih =>
    unfold considerStart
    split
    · next o rest _ hq =>
      rw [hq, List.length_cons] at hp
      dsimp only
      split
      · simp [h]
      · obtain ⟨pre', post', hlog, hlen⟩ :=
          writeEntry_keeps (s := s.updTsu fun t => { t with queued := rest }) h (by omega) o .notRun {}
        rw [completeOrder_elsewhere (by exact ha) (by exact hb)]
        refine ih (pre := pre') (post := post') (by simpa using ha) (by simpa using hb) (by simpa using hlog) ?_
        simp only [raiseTestDone_frame, writeEntry_frame, State.updTsu_tsu]
        omega
    · simp [h]

/-- The first template completed NOT_RUN in ACCEPTANCE: its entry last in the log, and its failure (R6, R183). -/
theorem completeOrder_notRun {s : State} {o : Order} {tracked : List Tracked} (ha : s.scu.site = .acceptance) (ho : o.requester = .site)
    (ht : s.scu.tracking = ⟨0, o.id⟩ :: tracked) :
    completeOrder o .notRun {} s
      = setSiteState .acceptFailed ((raiseTestDone o.requester (writeEntry o .notRun {} s)).updScu fun c =>
          { c with tracking := [], failure := some ⟨0, o.id, o.test, .notRun⟩ }) := by
  have hsite : (raiseTestDone o.requester (writeEntry o .notRun {} s)).scu.site = .acceptance := by simpa using ha
  have htracking : (raiseTestDone o.requester (writeEntry o .notRun {} s)).scu.tracking = ⟨0, o.id⟩ :: tracked := by simpa using ht
  rw [completeOrder, reportCompletion, if_pos hsite, if_pos (by simp [matchedReport, ho]), followAcceptance, htracking]
  simp

theorem startOrder_running (o : Order) (s : State) : (startOrder o s).tsu.running = some ⟨o, o.test.progress⟩ := by
  unfold startOrder
  split <;> rfl

/-- With no order held, the first template whose start condition holds starts at once. -/
theorem retried_starts {s : State} {first : Test} {rest : List Test} (hset : s.scu.acceptanceSet = first :: rest)
    (hr : s.tsu.running = none) (hq : s.tsu.queued = []) (htr : s.scu.tracking = []) (hgo : s.startable first = true) :
    (settle (retried s)).scu.site = .acceptance ∧ (settle (retried s)).scu.failure = none ∧ (settle (retried s)).tsu.log = s.tsu.log
      ∧ (settle (retried s)).scu.tracking.length = rest.length + 1
      ∧ (settle (retried s)).tsu.running = some ⟨⟨s.tsu.newId, .site, first⟩, first.progress⟩
      ∧ (settle (retried s)).tsu.queued.map Order.test = rest := by
  obtain ⟨hlkc, -, htmu, -, -, hsite, hfailure, hrunning, hlog, -, -, -, htenants⟩ := retried_frame s
  obtain ⟨orders, tracked, hfirst, hrest, -⟩ := retried_first hset hq htr
  have hlength := (retried_queued s).2
  have hstart : ((retried s).updTsu fun t => { t with queued := orders }).startable first = true :=
    (startable_congr hlkc htmu htenants first).trans hgo
  rw [settle, considerStart_cons (hrunning.trans hr) hfirst, if_pos hstart]
  refine ⟨by simpa using hsite, by simpa using hfailure, by simpa using hlog, ?_, startOrder_running _ _, by simpa using hrest⟩
  simpa [htr, hset] using hlength

/-- With no order held, the first template whose start condition fails completes NOT_RUN and returns the site to ACCEPT_FAILED; the orders
after it are no longer tracked, and too few to push its entry out of the log. -/
theorem retried_notRun {s : State} {first : Test} {rest : List Test} (hset : s.scu.acceptanceSet = first :: rest) (hlen : rest.length < 8)
    (hr : s.tsu.running = none) (hq : s.tsu.queued = []) (htr : s.scu.tracking = []) (hgo : s.startable first = false) :
    (settle (retried s)).scu.site = .acceptFailed ∧ (settle (retried s)).scu.failure = some ⟨0, s.tsu.newId, first, .notRun⟩
      ∧ (settle (retried s)).scu.tracking = []
      ∧ ∀ n, s.tsu.nextSeq = some n →
          ∃ e ∈ (settle (retried s)).tsu.log, e.seq = n ∧ e.order = ⟨s.tsu.newId, .site, first⟩ ∧ e.outcome = .notRun ∧ e.measures = {} := by
  obtain ⟨hlkc, -, htmu, -, -, hsite, -, hrunning, hlog, hseq, -, -, htenants⟩ := retried_frame s
  obtain ⟨orders, tracked, hfirst, hrest, htracking⟩ := retried_first hset hq htr
  have hstart : ((retried s).updTsu fun t => { t with queued := orders }).startable first = false :=
    (startable_congr hlkc htmu htenants first).trans hgo
  have hcomplete := completeOrder_notRun (s := (retried s).updTsu fun t => { t with queued := orders })
    (o := ⟨s.tsu.newId, .site, first⟩) hsite rfl htracking
  rw [settle, considerStart_cons (hrunning.trans hr) hfirst, if_neg (by rw [hstart]; decide), hcomplete]
  rw [considerStart_scu (by simp) (by simp)]
  refine ⟨by simp, by simp, by simp, fun n hn => ⟨⟨n, ⟨s.tsu.newId, .site, first⟩, .notRun, {}, s.tmu.site, s.tmu.cls⟩, ?_, rfl, rfl, rfl, rfl⟩⟩
  refine considerStart_keepsEntry (pre := if 16 ≤ s.tsu.log.length then s.tsu.log.drop 1 else s.tsu.log) (post := []) (by simp) (by simp) ?_ ?_ _
  · have hn' : ((retried s).updTsu fun t => { t with queued := orders }).tsu.nextSeq = some n := hseq.trans hn
    simp [writeEntry_log hn', hlog, htmu]
  · have : orders.length = rest.length := by rw [← hrest, List.length_map]
    simp only [setSiteState_frame, State.updScu_tsu, raiseTestDone_frame, writeEntry_frame, State.updTsu_tsu, List.length_nil]
    omega

/-- Settles O21: each case of the request, the last one through the start considered for the first template. -/
theorem retryAcceptanceQueuesTheSet : Obligations.RetryAcceptanceQueuesTheSet := by
  intro k tag s hask
  have hexec : exec (.retryAcceptance k tag []) s = .next (conclude k tag (judgeRetryAcceptance [] s) s) :=
    congrArg _ (serve_mayAsk hask tag _ (.inl rfl))
  have htaken : s.scu.site = .acceptFailed → s.scu.acceptanceSet ≠ [] → s.scu.acceptanceSet.length ≤ s.tsu.room →
      exec (.retryAcceptance k tag []) s = .next (answer k tag .ok [] (settle (retried s))) := fun hs hne hroom => by
    rw [hexec, judgeRetryAcceptance, if_neg (not_not.mpr hs), noParams_nil, withParams_some, if_neg hne, if_pos hroom]; rfl
  obtain ⟨hlkc, htqm, htmu, hgre, hstand, hsite, hfailure, hrunning, hlog, hseq, -, -, htenants⟩ := retried_frame s
  obtain ⟨hqueued, htracked⟩ := retried_queued s
  have hrecords : s.scu.acceptanceSet ≠ [] → s.scu.acceptanceSet.length ≤ s.tsu.room → s.recordsStand (settle (retried s)) :=
    fun hne hroom => (Moves.settled (retried_moves hroom hne)).recordsStand (hstand.trans (settle_tablesStand _)) (by simpa using hgre)
  refine ⟨fun hs => by rw [hexec, judgeRetryAcceptance, if_pos hs]; rfl, fun hs he => ?_, fun hs hfull hne => ?_, fun hs hroom hne hr => ?_,
    fun first rest hs hset hlen hr hidle htr => ?_⟩
  · have hmoves : Moves s (enterService .emptySet (clearFailure s)) :=
      (Moves.alike (t := clearFailure s) (by simp [Alike, clearFailure])).trans (.orders (enterService_moves _ _) (by simp))
    refine ⟨enterService .emptySet (clearFailure s), ?_, by simp [enterService], by simp [enterService], by simp [enterService, clearFailure], rfl,
      hmoves.recordsStand (by simp [State.tablesStand, State.tables, clearFailure]) (by simp [clearFailure])⟩
    rw [hexec, judgeRetryAcceptance, if_neg (not_not.mpr hs), noParams_nil, withParams_some, if_pos he]; rfl
  · have hpos := List.length_pos_of_ne_nil hne
    rw [hexec, judgeRetryAcceptance, if_neg (not_not.mpr hs), noParams_nil, withParams_some, if_neg hne,
      if_neg (by unfold Tsu.room Config.maxOrders; omega)]
    rfl
  · have hroom' : s.scu.acceptanceSet.length ≤ s.tsu.room := by unfold Tsu.room Config.maxOrders; omega
    have hsettle : settle (retried s) = retried s := settle_of_noStart (.inl (by rw [hrunning]; exact hr))
    have hstands := hrecords hne hroom'
    rw [hsettle] at hstands
    exact ⟨retried s, by rw [htaken hs hne hroom', hsettle], hsite, hfailure, hrunning, hqueued, htracked, hstands, hlkc, htqm, htmu, hlog⟩
  · have hq := hidle hr
    have hne : s.scu.acceptanceSet ≠ [] := by rw [hset]; exact List.cons_ne_nil _ _
    have hroom : s.scu.acceptanceSet.length ≤ s.tsu.room := by
      simp only [hset, List.length_cons, Tsu.room, Config.maxOrders, Tsu.orders, hr, hq]
      simpa using hlen
    exact ⟨settle (retried s), htaken hs hne hroom, hrecords hne hroom, by simpa using hlkc, by simpa using htmu,
      retried_starts hset hr hq htr, retried_notRun hset hlen hr hq htr⟩

end Sys2Proof.Machine

namespace Sys2Proof.Machine

open Sys2Proof

/-! ## The blocks of a site reset (R14, R45, R79, R118, R180, R209) -/

/-! ### The site, the queues and the grants -/

/-- The state after SLI's, SCU's, TQM's and GRE's parts. -/
def resetBlocks (s : State) : State :=
  ((siteResetSite (emptyPending s)).updTqm fun t => t.map Traffic.resetSite).updGre fun g => { g with slots := g.slots.map GrantRec.clear }

theorem siteReset_eq (s : State) :
    siteReset s = bringup (departQueues s.lkc.state (tsuSiteReset (siteResetLink (resetBlocks s)))) := rfl

theorem pends_resetBlocks (s : State) (k : Slot) (e : EventKind) : (resetBlocks s).pends k e = decide (e = .siteState) := by
  have hset : (resetBlocks s).pends k e = (siteResetSite (emptyPending s)).pends k e := rfl
  rw [hset, siteResetSite, pends_setSiteState]
  simp [State.pends, emptyPending, EventRec.drive, EventSet.has_empty]

theorem resetBlocks_frame (s : State) :
    (resetBlocks s).lkc = s.lkc ∧ (resetBlocks s).tsu = s.tsu ∧ (resetBlocks s).tmu = s.tmu ∧ (resetBlocks s).dsu = s.dsu
      ∧ (resetBlocks s).emitted = s.emitted ∧ (resetBlocks s).tqm = s.tqm.map Traffic.resetSite
      ∧ (resetBlocks s).gre = { s.gre with slots := s.gre.slots.map GrantRec.clear } ∧ s.tablesStand (resetBlocks s)
      ∧ (resetBlocks s).scu.site = (if s.scu.site = .unconfigured then .unconfigured else .bringup) ∧ (resetBlocks s).scu.tracking = []
      ∧ (resetBlocks s).scu.failure = none ∧ (resetBlocks s).scu.entry = none :=
  ⟨rfl, rfl, rfl, rfl, rfl, rfl, rfl, ⟨rfl, rfl, rfl, rfl, rfl, rfl⟩, rfl, rfl, rfl, rfl⟩

/-! ### The link -/

/-- The link reset to OFF with its reason UNCONFIGURED. -/
def linkReset (s : State) : State := linkStateEvent ((releaseHold s).updLkc fun l => { l.clear with state := .off .unconfigured })

/-- All that LKC's part can be. -/
theorem siteResetLink_cases (s : State) :
    (s.scu.site = .unconfigured ∧ s.lkc.state = .off .unconfigured ∧ siteResetLink s = s)
      ∨ (s.scu.site = .unconfigured ∧ s.lkc.state ≠ .off .unconfigured ∧ siteResetLink s = linkReset s)
      ∨ (s.scu.site ≠ .unconfigured ∧ siteResetLink s = discoveryEntry s) := by
  by_cases hs : s.scu.site = .unconfigured <;> by_cases hl : s.lkc.state = .off .unconfigured <;> simp [siteResetLink, hs, hl, linkReset]

theorem linkReset_lkc (s : State) :
    (linkReset s).emitted = s.emitted ++ holdRelease s
      ∧ (linkReset s).lkc
          = { s.lkc.clear with state := .off .unconfigured, sent := s.lkc.sent + (holdRelease s).length, late := (linkReset s).lkc.late,
                               looped := (linkReset s).lkc.looped } := by
  obtain ⟨hemitted, hlkc⟩ := releaseHold_lkc s
  constructor
  · simp [linkReset, hemitted]
  · simp only [linkReset, linkStateEvent_frame, State.updLkc_lkc, Lkc.clear]
    rw [hlkc]

theorem siteResetLink_state (s : State) :
    (siteResetLink s).lkc.state = if s.scu.site = .unconfigured then .off .unconfigured else .discovery .identify 1 := by
  obtain ⟨hs, hl, h⟩ | ⟨hs, -, h⟩ | ⟨hs, h⟩ := siteResetLink_cases s <;> rw [h]
  · rw [hl, if_pos hs]
  · rw [(linkReset_lkc s).2, if_pos hs]
  · rw [(discoveryEntry_lkc s).2, if_neg hs]

/-- What LKC's part leaves alone: the frame number, the counters, the limits and the profiles. -/
theorem siteResetLink_stands (s : State) :
    (siteResetLink s).lkc.frame = s.lkc.frame ∧ (siteResetLink s).lkc.losses = s.lkc.losses ∧ s.tablesStand (siteResetLink s) := by
  obtain ⟨-, -, h⟩ | ⟨-, -, h⟩ | ⟨-, h⟩ := siteResetLink_cases s <;> rw [h]
  · exact ⟨rfl, rfl, rfl, rfl, rfl, rfl, rfl, rfl⟩
  · have hlkc := (linkReset_lkc s).2
    refine ⟨by rw [hlkc]; rfl, by rw [hlkc]; rfl, ?_, by simp [linkReset], by simp [linkReset], by simp [linkReset], by simp [linkReset],
      by simp [linkReset]⟩
    unfold State.tables
    rw [hlkc]
    simp [linkReset, Lkc.clear]
  · refine ⟨by rw [(discoveryEntry_lkc s).2]; rfl, by rw [(discoveryEntry_lkc s).2]; rfl, ?_, by simp, by simp, by simp, by simp, by simp⟩
    simp [State.tables, discoveryEntry_limits]

/-- What LKC's part clears, where it enters a state. -/
theorem siteResetLink_clears {s : State} (h : ¬(s.scu.site = .unconfigured ∧ s.lkc.state = .off .unconfigured)) :
    (siteResetLink s).lkc.unsent = [] ∧ (siteResetLink s).lkc.odu = none ∧ (siteResetLink s).lkc.ladder = none
      ∧ (siteResetLink s).lkc.source = none ∧ (siteResetLink s).lkc.rung = 0 ∧ (siteResetLink s).lkc.notice = none
      ∧ (siteResetLink s).lkc.voided = none ∧ (siteResetLink s).lkc.upCount = 0 ∧ (siteResetLink s).lkc.near = none
      ∧ (siteResetLink s).lkc.far = none ∧ (siteResetLink s).lkc.effective = none := by
  obtain ⟨hs, hl, -⟩ | ⟨-, -, hr⟩ | ⟨-, hr⟩ := siteResetLink_cases s
  · exact absurd ⟨hs, hl⟩ h
  · rw [hr, (linkReset_lkc s).2]; simp [Lkc.clear]
  · rw [hr, (discoveryEntry_lkc s).2]; simp [Lkc.clear]

/-- What LKC's part sends: LOOP_OFF from HELD, and IDENTIFY where discovery restarts. -/
theorem siteResetLink_sends (s : State) :
    (s.scu.site = .unconfigured → (siteResetLink s).emitted = s.emitted ++ holdRelease s)
      ∧ (s.scu.site ≠ .unconfigured →
          (siteResetLink s).emitted = s.emitted ++ holdRelease s ++ [.odu .identify]
            ∧ (siteResetLink s).lkc.outstanding = some ⟨.identify, 0, 100, s.lkc.sent + (holdRelease s).length⟩
            ∧ (siteResetLink s).lkc.sent = s.lkc.sent + (holdRelease s).length + 1) := by
  obtain ⟨hs, hl, h⟩ | ⟨hs, -, h⟩ | ⟨hs, h⟩ := siteResetLink_cases s <;> rw [h]
  · exact ⟨fun _ => by simp [holdRelease, hl, LinkState.isHeld], fun hne => absurd hs hne⟩
  · exact ⟨fun _ => (linkReset_lkc s).1, fun hne => absurd hs hne⟩
  · exact ⟨fun he => absurd he hs, fun _ => ⟨(discoveryEntry_lkc s).1, by rw [(discoveryEntry_lkc s).2], by rw [(discoveryEntry_lkc s).2]⟩⟩

/-- LINK_STATE is raised where LKC's part enters a state (assumption 16). -/
theorem pends_siteResetLink (s : State) (k : Slot) (e : EventKind) :
    (siteResetLink s).pends k e
      = (s.pends k e || decide (e = .linkState ∧ ¬(s.scu.site = .unconfigured ∧ s.lkc.state = .off .unconfigured))) := by
  obtain ⟨hs, hl, h⟩ | ⟨hs, hl, h⟩ | ⟨hs, h⟩ := siteResetLink_cases s <;> rw [h]
  · simp [hs, hl]
  · rw [linkReset, pends_linkStateEvent, pends_of_events (s := s) (by simp)]
    simp [hl]
  · rw [pends_discoveryEntry]
    simp [hs]

theorem setProgress_running (p : Progress) (s : State) :
    (setProgress p s).tsu.running.map Running.order = s.tsu.running.map Running.order := by
  cases hr : s.tsu.running <;> simp [setProgress, hr]

theorem judgeLooped_running (s : State) : (judgeLooped s).tsu.running.map Running.order = s.tsu.running.map Running.order := by
  unfold judgeLooped countLooped updLoop
  split
  · exact setProgress_running _ s
  · rfl

/-- LKC's part leaves which order runs: at most the looped frames are counted. -/
theorem siteResetLink_running (s : State) : (siteResetLink s).tsu.running.map Running.order = s.tsu.running.map Running.order := by
  have hrelease : (releaseHold s).tsu.running.map Running.order = s.tsu.running.map Running.order := by
    unfold releaseHold
    split
    · rw [judgeLooped_running]; simp
    · rfl
  obtain ⟨-, -, h⟩ | ⟨-, -, h⟩ | ⟨-, h⟩ := siteResetLink_cases s <;> rw [h]
  · simpa [linkReset] using hrelease
  · simpa [discoveryEntry] using hrelease

/-! ### The orders -/

theorem pends_raiseTestDone (r : Requester) (s : State) (k : Slot) (e : EventKind) :
    (raiseTestDone r s).pends k e = (s.pends k e || decide (e = .testDone ∧ (k = 0 ∨ r = .slot k))) := by
  unfold raiseTestDone
  split
  · rw [pends_raiseIn]
    by_cases hk : k = 0 <;> by_cases he : e = .testDone <;> simp [hk, he]
  · next j =>
    split
    · next hj =>
      rw [pends_raiseIn]
      by_cases hk : k = 0
      · simp [hk]
      · have : j ≠ k := fun h => hk (h ▸ hj)
        simp [hk, this]
    · rw [pends_raiseIn, pends_raiseIn]
      by_cases he : e = .testDone
      · simp [he, eq_comm, Bool.or_assoc]
      · simp [he]

/-- TSU's part with no order running. -/
theorem tsuSiteReset_none {s : State} (h : s.tsu.running = none) : tsuSiteReset s = s.updTsu fun t => { t with queued := [] } := by
  simp [tsuSiteReset, endRunning, h]

/-- TSU's part ends the running order: its entry, its event, and at most the wait set. -/
theorem tsuSiteReset_some {s : State} (hg : Grounded s) {r : Running} (h : s.tsu.running = some r) :
    ∃ w m, tsuSiteReset s
      = setWait w (raiseTestDone r.order.requester
          (writeEntry r.order (.aborted .siteReset) m (s.updTsu fun t => { t with running := none, queued := [] }))) := by
  have hend : tsuSiteReset s = settle (completeOrder r.order (.aborted .siteReset) (measuresOf r.order r.progress)
      (s.updTsu fun t => { t with running := none, queued := [] })) := by
    rw [tsuSiteReset, endRunning, State.updTsu_tsu, h]; rfl
  have hg' : Grounded (raiseTestDone r.order.requester (writeEntry r.order (.aborted .siteReset) (measuresOf r.order r.progress)
      (s.updTsu fun t => { t with running := none, queued := [] }))) := hg.of_same (by simp) (by simp)
  rw [hend, completeOrder, reportCompletion, if_neg hg'.site, hg'.bringupStep, settle_of_noStart (.inr (by simp))]
  exact ⟨_, _, rfl⟩

/-- What TSU's part leaves: no order, the site record but for the wait, and the entry and the event of the order that ran. -/
theorem tsuSiteReset_leaves {s : State} (hg : Grounded s) :
    Bare (tsuSiteReset s) ∧ (tsuSiteReset s).tsu.nextId = s.tsu.nextId ∧ (tsuSiteReset s).tqm = s.tqm
      ∧ s.scu.settled (tsuSiteReset s).scu
      ∧ (s.tsu.running = none → (tsuSiteReset s).tsu.log = s.tsu.log)
      ∧ (∀ o n, s.tsu.running.map Running.order = some o → s.tsu.nextSeq = some n →
          ∃ e, (tsuSiteReset s).tsu.log.getLast? = some e ∧ e.seq = n ∧ e.order = o ∧ e.outcome = .aborted .siteReset)
      ∧ ∀ k e, (tsuSiteReset s).pends k e = true
          ↔ s.pends k e = true
            ∨ (e = .testDone ∧ ∃ o, s.tsu.running.map Running.order = some o ∧ (k = 0 ∨ o.requester = .slot k)) := by
  cases hr : s.tsu.running with
  | none =>
    rw [tsuSiteReset_none hr]
    exact ⟨⟨hr, rfl⟩, rfl, rfl, rfl, fun _ => rfl, fun _ _ h => (nomatch h), fun k e => by simp [State.pends]⟩
  | some r =>
    obtain ⟨w, m, hreset⟩ := tsuSiteReset_some hg hr
    rw [hreset]
    refine ⟨⟨by simp, by simp⟩, by simp, by simp, by simp [Scu.settled, setWait], fun h => (nomatch h), fun o n ho hn => ?_, fun k e => ?_⟩
    · cases ho
      refine ⟨⟨n, r.order, .aborted .siteReset, m, s.tmu.site, s.tmu.cls⟩, ?_, rfl, rfl, rfl⟩
      simp [writeEntry_log (s := s.updTsu fun t => { t with running := none, queued := [] }) hn]
    · change State.pends (raiseTestDone _ _) k e = true ↔ _
      rw [pends_raiseTestDone, pends_of_events (s := s) (by simp)]
      simp

/-! ### The departure and the whole -/

/-- A departure told to TQM finds the queues flushed. -/
theorem tqmDepart_resetSite {s : State} {q : PerSlot Traffic} (h : s.tqm = q.map Traffic.resetSite) : tqmDepart s = s := by
  have hq : s.tqm.map Traffic.depart = s.tqm := by rw [h]; rfl
  rw [tqmDepart, State.updTqm, hq]

/-- With no exchange in flight nothing ends (R142). -/
theorem exchangeMissing_none {s : State} (h : s.tmu.exchange = none) : exchangeMissing s = s := by simp [exchangeMissing, h]

theorem exchangeMissing_exchange (s : State) : (exchangeMissing s).tmu.exchange = none := by
  unfold exchangeMissing
  split
  · next h => exact h
  · simp

/-- The state after the blocks' own parts, before the departure is told to TMU. -/
def resetOrders (s : State) : State := tsuSiteReset (siteResetLink (resetBlocks s))

theorem resetOrders_frame (s : State) :
    (resetOrders s).lkc = (siteResetLink (resetBlocks s)).lkc ∧ (resetOrders s).gre = { s.gre with slots := s.gre.slots.map GrantRec.clear }
      ∧ (resetOrders s).tmu = s.tmu ∧ (resetOrders s).dsu = s.dsu ∧ (resetOrders s).emitted = (siteResetLink (resetBlocks s)).emitted
      ∧ s.tablesStand (resetOrders s) := by
  obtain ⟨hlkc, htsu, htmu, hdsu, -, htqm, hgre, hstand, -⟩ := resetBlocks_frame s
  refine ⟨by simp [resetOrders], by simp [resetOrders, hgre], by simp [resetOrders, htmu], by simp [resetOrders, hdsu], by simp [resetOrders], ?_⟩
  exact (hstand.trans (siteResetLink_stands _).2.2).trans (by simp [resetOrders, State.tablesStand, State.tables])

theorem siteResetLink_grounded (s : State) : Grounded (siteResetLink (resetBlocks s)) := by
  have hsite : (siteResetLink (resetBlocks s)).scu.site = if s.scu.site = .unconfigured then .unconfigured else .bringup := by
    rw [(siteResetLink_frame _).2.1]
    rfl
  refine ⟨?_, ?_⟩
  · rw [siteResetLink_state]; split <;> decide
  · rw [hsite]; split <;> decide

/-- What the departure and the last bring-up step leave. -/
theorem siteReset_stays (s : State) :
    Stays (resetOrders s) (siteReset s) ∧ (s.lkc.state.carries = true → (siteReset s).tmu.exchange = none)
      ∧ (¬(s.lkc.state.carries = true ∧ s.tmu.exchange.isSome = true) → siteReset s = bringup (resetOrders s)) := by
  obtain ⟨-, -, htmu, -⟩ := resetOrders_frame s
  have hqueues : tqmDepart (resetOrders s) = resetOrders s := by
    refine tqmDepart_resetSite (q := s.tqm) ?_
    rw [resetOrders, (tsuSiteReset_leaves (siteResetLink_grounded s)).2.2.1, (siteResetLink_frame _).2.2.1]
    rfl
  have hreset : siteReset s = bringup (if s.lkc.state.carries then exchangeMissing (resetOrders s) else resetOrders s) := by
    rw [siteReset_eq, departQueues]
    change bringup (if _ then exchangeMissing (tqmDepart (resetOrders s)) else resetOrders s) = _
    rw [hqueues]
  rw [hreset]
  refine ⟨?_, fun hc => ?_, fun hn => ?_⟩
  · refine Stays.trans ?_ (bringup_stays _)
    split
    · exact exchangeMissing_stays _
    · exact .refl _
  · rw [if_pos hc, (bringup_frame _).2.2.2.1, exchangeMissing_exchange]
  · split
    · next hc =>
      have hx : s.tmu.exchange = none := by
        cases hx : s.tmu.exchange with
        | none => rfl
        | some x => exact absurd ⟨hc, by rw [hx]; rfl⟩ hn
      rw [exchangeMissing_none (by rw [htmu, hx])]
    · rfl

end Sys2Proof.Machine

namespace Sys2Proof.Machine

open Sys2Proof

/-! ### What a site reset leaves -/

theorem Scu.settled.stands {c d : Scu} (h : c.settled d) :
    d.site = c.site ∧ d.tracking = c.tracking ∧ d.failure = c.failure ∧ d.entry = c.entry := by
  rw [Scu.settled] at h
  rw [h]
  simp

theorem resetOrders_scu (s : State) :
    (resetOrders s).scu.site = (if s.scu.site = .unconfigured then .unconfigured else .bringup) ∧ (resetOrders s).scu.tracking = []
      ∧ (resetOrders s).scu.failure = none ∧ (resetOrders s).scu.entry = none := by
  obtain ⟨h1, h2, h3, h4⟩ := (tsuSiteReset_leaves (siteResetLink_grounded s)).2.2.2.1.stands
  rw [resetOrders, h1, h2, h3, h4, (siteResetLink_frame _).2.1]
  exact ⟨rfl, rfl, rfl, rfl⟩

theorem resetOrders_grounded (s : State) : Grounded (resetOrders s) :=
  (siteResetLink_grounded s).of_same (by rw [(resetOrders_frame s).1]) (tsuSiteReset_leaves (siteResetLink_grounded s)).2.2.2.1.stands.1

theorem resetOrders_bare (s : State) : Bare (resetOrders s) := (tsuSiteReset_leaves (siteResetLink_grounded s)).1

theorem resetBlocks_unconfigured (s : State) : (resetBlocks s).scu.site = .unconfigured ↔ s.scu.site = .unconfigured := by
  have hsite : (resetBlocks s).scu.site = if s.scu.site = .unconfigured then .unconfigured else .bringup := rfl
  rw [hsite]
  split <;> simp_all

/-- What is pending before the departure's outcome: SITE_STATE, LINK_STATE of an entry, TEST_DONE of the order that ran (R14, R209). -/
theorem pends_resetOrders (s : State) (k : Slot) (e : EventKind) :
    (resetOrders s).pends k e = true
      ↔ e = .siteState ∨ (e = .linkState ∧ ¬(s.scu.site = .unconfigured ∧ s.lkc.state = .off .unconfigured))
        ∨ (e = .testDone ∧ ∃ r, s.tsu.running = some r ∧ (k = 0 ∨ r.order.requester = .slot k)) := by
  have hrunning : (siteResetLink (resetBlocks s)).tsu.running.map Running.order = s.tsu.running.map Running.order := siteResetLink_running _
  have hlink : (resetBlocks s).lkc = s.lkc := rfl
  rw [resetOrders, (tsuSiteReset_leaves (siteResetLink_grounded s)).2.2.2.2.2.2, pends_siteResetLink, pends_resetBlocks, hrunning, hlink]
  simp only [resetBlocks_unconfigured, Bool.or_eq_true, decide_eq_true_eq, or_assoc, Option.map_eq_some_iff]
  refine or_congr_right (or_congr_right (and_congr_right fun _ => ⟨?_, ?_⟩))
  · rintro ⟨o, ⟨r, hr, rfl⟩, ho⟩; exact ⟨r, hr, ho⟩
  · rintro ⟨r, hr, ho⟩; exact ⟨r.order, ⟨r, hr, rfl⟩, ho⟩

/-- The event records after a site reset. -/
theorem siteReset_events (s : State) (j : Slot) :
    ((siteReset s).sli.events.get j).enabled = (s.sli.events.get j).enabled
      ∧ ((siteReset s).sli.events.get j).attention
          = attentionLevel ((siteReset s).sli.events.get j).pending ((siteReset s).sli.events.get j).enabled
      ∧ (siteReset s).pends j .siteState = true
      ∧ ((siteReset s).pends j .linkState = true ↔ ¬(s.scu.site = .unconfigured ∧ s.lkc.state = .off .unconfigured))
      ∧ ((siteReset s).pends j .testDone = true ↔ ∃ r, s.tsu.running = some r ∧ (j = 0 ∨ r.order.requester = .slot j))
      ∧ ∀ e, (siteReset s).pends j e = true → e ∉ [EventKind.siteState, .linkState, .testDone] →
          e ∈ outcomeKinds ∧ s.lkc.state.carries = true ∧ s.tmu.exchange.isSome = true := by
  obtain ⟨henabled, hline⟩ := (siteReset_moves s).event j
  obtain ⟨hstays, -, hquiet⟩ := siteReset_stays s
  have hkinds := hstays.kinds (resetOrders_grounded s) (resetOrders_bare s) j
  refine ⟨henabled.trans (by simp [emptyPending, EventRec.drive]), hline (by simp [emptyPending, EventRec.drive]), ?_, ?_, ?_, fun e he hne => ?_⟩
  · rw [hkinds _ (by decide), pends_resetOrders]; simp
  · rw [hkinds _ (by decide), pends_resetOrders]; simp
  · rw [hkinds _ (by decide), pends_resetOrders]; simp
  · have hother : ¬(resetOrders s).pends j e = true := by
      simp only [List.mem_cons, not_or, List.not_mem_nil] at hne
      rw [pends_resetOrders]
      simp [hne]
    constructor
    · by_contra hout
      exact hother (hkinds e hout ▸ he)
    · by_contra hnone
      rw [hquiet hnone, bringup, (resetOrders_grounded s).bringupStep, Bare.settle (by exact ⟨(resetOrders_bare s).1, (resetOrders_bare s).2⟩)] at he
      exact hother he

/-- The orders after a site reset: none, and the entry of the one that ran last in the log. -/
theorem siteReset_orders (s : State) :
    (siteReset s).tsu.running = none ∧ (siteReset s).tsu.queued = [] ∧ (siteReset s).tsu.nextId = s.tsu.nextId
      ∧ (s.tsu.running = none → (siteReset s).tsu.log = s.tsu.log)
      ∧ ∀ r n, s.tsu.running = some r → s.tsu.nextSeq = some n →
          ∃ e, (siteReset s).tsu.log.getLast? = some e ∧ e.seq = n ∧ e.order = r.order ∧ e.outcome = .aborted .siteReset := by
  have hrunning : (siteResetLink (resetBlocks s)).tsu.running.map Running.order = s.tsu.running.map Running.order := siteResetLink_running _
  obtain ⟨⟨hr, hq⟩, hid, -, -, hnone, hsome, -⟩ := tsuSiteReset_leaves (siteResetLink_grounded s)
  have htsu : (siteReset s).tsu = (tsuSiteReset (siteResetLink (resetBlocks s))).tsu :=
    (siteReset_stays s).1.orders (resetOrders_grounded s) (resetOrders_bare s)
  have hblocks : (resetBlocks s).tsu = s.tsu := rfl
  rw [htsu]
  refine ⟨hr, hq, by simp [hid, hblocks], fun h => ?_, fun r n h hn => hsome r.order n (by rw [hrunning, h]; rfl) ?_⟩
  · rw [h] at hrunning
    simp [hnone (by simpa using hrunning), hblocks]
  · simpa [hblocks] using hn

/-- The link, the clock's exchange and what stands after a site reset. -/
theorem siteReset_frame (s : State) :
    (siteReset s).lkc = (siteResetLink (resetBlocks s)).lkc ∧ (siteReset s).emitted = (siteResetLink (resetBlocks s)).emitted
      ∧ (siteReset s).gre = { s.gre with slots := s.gre.slots.map GrantRec.clear } ∧ (siteReset s).tmu.site = s.tmu.site
      ∧ s.tablesStand (siteReset s) := by
  obtain ⟨hlkc, hgre, htmu, hdsu, hemitted, hstand⟩ := resetOrders_frame s
  have hreset : siteReset s = bringup (departQueues s.lkc.state (resetOrders s)) := rfl
  rw [hreset]
  exact ⟨by simp [hlkc], by simp [hemitted], by simp [hgre], by simp [htmu], hstand.trans (by simp [State.tablesStand, State.tables])⟩

/-- The queues after a site reset: flushed, their counters kept (R79). -/
theorem siteReset_tqm (s : State) : (siteReset s).tqm = s.tqm.map Traffic.resetSite := by
  rw [(siteReset_stays s).1.queues (resetOrders_grounded s) (resetOrders_bare s), resetOrders,
    (tsuSiteReset_leaves (siteResetLink_grounded s)).2.2.1, (siteResetLink_frame _).2.2.1]
  rfl

/-- Settles O24: block by block, each by what its own part leaves and the departure's outcome keeps. -/
theorem siteResetRestartsTheBlocks : Obligations.SiteResetRestartsTheBlocks := by
  intro k tag s hask
  have hexec : exec (.siteReset k tag []) s = .next (answer k tag .ok [] (siteReset s)) := congrArg _ (serve_mayAsk hask tag _ (.inl rfl))
  have hrecord := (siteReset_stays s).1.record (resetOrders_grounded s) (resetOrders_bare s)
  obtain ⟨hsite, htracking, hfailure, hentry⟩ := hrecord.stands
  obtain ⟨hsite', htracking', hfailure', hentry'⟩ := resetOrders_scu s
  obtain ⟨hlkc, hemitted, hgre, htime, htables, htenants, hdsu, hlock, hstrap, hlinks⟩ := siteReset_frame s
  obtain ⟨hrunning, hqueued, hid, hlog, hended⟩ := siteReset_orders s
  obtain ⟨hframe, hlosses, -⟩ := siteResetLink_stands (resetBlocks s)
  obtain ⟨hstays, hcalls⟩ := siteResetLink_sends (resetBlocks s)
  have hsame : (resetBlocks s).scu.site = .unconfigured ↔ s.scu.site = .unconfigured := resetBlocks_unconfigured s
  refine ⟨siteReset s, hexec, hsite.trans hsite', htracking.trans htracking', hfailure.trans hfailure', hentry.trans hentry', fun j => ?_, ?_,
    hlinks, hrunning, hqueued, hid, hlog, hended, ?_, fun hne => ?_, (siteReset_stays s).2.1, htables, hlock, hstrap, htime, ?_, ?_, hdsu⟩
  · rw [siteReset_tqm, hgre, PerSlot.get_map, PerSlot.get_map]
    exact ⟨rfl, rfl, rfl, rfl, rfl, rfl, rfl, rfl, rfl, siteReset_events s j⟩
  · rw [hemitted, hlkc]
    exact ⟨fun h => hstays (hsame.mpr h), fun h => hcalls (fun h' => h (hsame.mp h'))⟩
  · rw [hlkc, siteResetLink_state]
    exact if_congr hsame rfl rfl
  · rw [hlkc]
    exact siteResetLink_clears fun h => hne ⟨hsame.mp h.1, h.2⟩
  · rw [hlkc, hframe]; rfl
  · rw [hlkc, hlosses]; rfl

end Sys2Proof.Machine

/-! What the operations of the part leave of the hold, of the command outstanding, of the rung and of the egress partials (chapters 2, 4 and
9): the steady moves, of which every command is made that does not itself move the link. -/

namespace Sys2Proof.Machine

open Sys2Proof

/-! ## The hold as the running order has it (R161, R174) -/

/-- Whether a running order's request for a hold was taken. -/
def Progress.held (p : Progress) : Bool :=
  match p with
  | .linkLoop p => p.held
  | _ => false

/-- Which kind of test a progress is of. -/
def Progress.kind (p : Progress) : Nat :=
  match p with
  | .portLoop _ => 0
  | .airPattern _ => 1
  | .linkLoop _ => 2
  | .timeCompare _ => 3

/-- The progress of the running order is of its kind (R161). -/
def Tsu.kindly (t : Tsu) : Prop := ∀ r, t.running = some r → r.ofKind = true

/-- Whether an order runs whose hold was taken (R174). -/
def Tsu.taken (t : Tsu) : Bool := (t.running.map fun r => r.progress.held).getD false

theorem loopProgress_held (s : State) : (s.loopProgress.map LoopProgress.held).getD false = s.tsu.taken := by
  unfold State.loopProgress Tsu.taken
  cases hr : s.tsu.running with
  | none => rfl
  | some r =>
    obtain ⟨o, p⟩ := r
    cases p <;> rfl

theorem holdFits_iff (s : State) :
    s.holdFits ↔ s.tsu.kindly ∧ s.lkc.commandFits = true ∧ s.lkc.state.isHeld = s.tsu.taken := by
  rw [← loopProgress_held]
  rfl

theorem ofKind_iff (r : Running) : r.ofKind = true ↔ r.progress.kind = r.order.test.code := by
  obtain ⟨⟨i, who, x⟩, p⟩ := r
  cases x <;> cases p <;> simp [Running.ofKind, Progress.kind, Test.code]

theorem ofKind_congr (o : Order) {p q : Progress} (h : p.kind = q.kind) :
    (⟨o, p⟩ : Running).ofKind = (⟨o, q⟩ : Running).ofKind := by
  exact Bool.eq_iff_iff.mpr (by simp only [ofKind_iff, h])

/-- A progress just started is of its order's kind, and asks for a hold that is not taken. -/
theorem progress_started (o : Order) : (⟨o, o.test.progress⟩ : Running).ofKind = true ∧ o.test.progress.held = false := by
  obtain ⟨i, r, x⟩ := o
  cases x <;> exact ⟨rfl, rfl⟩

theorem kindly_congr {t u : Tsu} (h : u.running = t.running) : t.kindly → u.kindly := fun ht r hr => ht r (h ▸ hr)

theorem taken_congr {t u : Tsu} (h : u.running = t.running) : u.taken = t.taken := by simp [Tsu.taken, h]

theorem kindly_none {t : Tsu} (h : t.running = none) : t.kindly := by simp [Tsu.kindly, h]

theorem taken_none {t : Tsu} (h : t.running = none) : t.taken = false := by simp [Tsu.taken, h]

theorem kindly_some {t : Tsu} {r : Running} (h : t.running = some r) : t.kindly ↔ r.ofKind = true := by
  simp [Tsu.kindly, h]

theorem taken_some {t : Tsu} {r : Running} (h : t.running = some r) : t.taken = r.progress.held := by simp [Tsu.taken, h]

/-! ## The steady moves -/

/-- Between two states HELD, UP and the hold taken stand, the outstanding command still fits, the running order's progress is still of its
kind, and no slot gains an egress partial. -/
structure Firm (s t : State) : Prop where
  held : t.lkc.state.isHeld = s.lkc.state.isHeld
  up : s.lkc.state = .up → t.lkc.state = .up
  fits : s.lkc.commandFits = true → t.lkc.commandFits = true
  kind : s.tsu.kindly → t.tsu.kindly
  taken : t.tsu.taken = s.tsu.taken
  egress : ∀ k, (s.tqm.get k).egress = none → (t.tqm.get k).egress = none

theorem Firm.refl (s : State) : Firm s s := ⟨rfl, id, id, id, rfl, fun _ => id⟩

theorem Firm.trans {s t u : State} (h1 : Firm s t) (h2 : Firm t u) : Firm s u :=
  ⟨h2.held.trans h1.held, h2.up ∘ h1.up, h2.fits ∘ h1.fits, h2.kind ∘ h1.kind, h2.taken.trans h1.taken, fun k => h2.egress k ∘ h1.egress k⟩

theorem Firm.ite {c : Prop} [Decidable c] {s t u : State} (h1 : Firm s t) (h2 : Firm s u) : Firm s (if c then t else u) := by
  split
  · exact h1
  · exact h2

/-- A change of the link that leaves the state, and the command outstanding fitting. -/
theorem Firm.lkc (f : Lkc → Lkc) (s : State) (hs : (f s.lkc).state = s.lkc.state)
    (hf : s.lkc.commandFits = true → (f s.lkc).commandFits = true) : Firm s (s.updLkc f) :=
  ⟨congrArg LinkState.isHeld hs, hs.trans, hf, id, rfl, fun _ => id⟩

/-- And the rung stands. -/
structure Steady (s t : State) : Prop extends Firm s t where
  rung : t.lkc.rung = s.lkc.rung

theorem Steady.refl (s : State) : Steady s s := ⟨.refl s, rfl⟩

theorem Steady.trans {s t u : State} (h1 : Steady s t) (h2 : Steady t u) : Steady s u :=
  ⟨h1.toFirm.trans h2.toFirm, h2.rung.trans h1.rung⟩

/-- With the link as it stood, the orders and the queues alone are to be looked at. -/
theorem Steady.of_link {s t : State} (hl : t.lkc = s.lkc) (hk : s.tsu.kindly → t.tsu.kindly) (ht : t.tsu.taken = s.tsu.taken)
    (hq : ∀ k, (s.tqm.get k).egress = none → (t.tqm.get k).egress = none) : Steady s t :=
  ⟨⟨hl ▸ rfl, hl ▸ id, hl ▸ id, hk, ht, hq⟩, hl ▸ rfl⟩

theorem Steady.of_same {s t : State} (hl : t.lkc = s.lkc) (hr : t.tsu.running = s.tsu.running) (hq : t.tqm = s.tqm) : Steady s t :=
  .of_link hl (kindly_congr hr) (taken_congr hr) fun _ => hq ▸ id

theorem Steady.ite {c : Prop} [Decidable c] {s t u : State} (h1 : Steady s t) (h2 : Steady s u) : Steady s (if c then t else u) := by
  split
  · exact h1
  · exact h2

theorem Steady.foldl {α : Type} (f : State → α → State) (h : ∀ s a, Steady s (f s a)) (l : List α) (s : State) :
    Steady s (l.foldl f s) := by
  induction l generalizing s with
  | nil => exact .refl s
  | cons a l ih => exact (h s a).trans (ih _)

/-- A change of the link that leaves the state, the command and the rung. -/
theorem Steady.lkc (f : Lkc → Lkc) (s : State) (hr : (f s.lkc).rung = s.lkc.rung) (hs : (f s.lkc).state = s.lkc.state)
    (ho : (f s.lkc).outstanding = s.lkc.outstanding) : Steady s (s.updLkc f) :=
  ⟨.lkc f s hs (by simp [Lkc.commandFits, hs, ho]), hr⟩

theorem Steady.tmu (f : Tmu → Tmu) (s : State) : Steady s (s.updTmu f) := .of_same rfl rfl rfl

theorem Steady.gre (f : Gre → Gre) (s : State) : Steady s (s.updGre f) := .of_same rfl rfl rfl

theorem Steady.scu (f : Scu → Scu) (s : State) : Steady s (s.updScu f) := .of_same rfl rfl rfl

/-! ### Orders -/

theorem discardEgress_egress (t : Traffic) : t.discardEgress.egress = none := by
  unfold Traffic.discardEgress
  split
  · next h => exact h
  · rfl

/-- A change of one slot's traffic that leaves its egress absent where it was. -/
theorem Steady.traffic (k : Slot) (f : Traffic → Traffic) (s : State) (h : ∀ t : Traffic, t.egress = none → (f t).egress = none) :
    Steady s (s.updTqm fun q => q.modify k f) := by
  refine .of_link rfl id rfl fun j hj => ?_
  simp only [State.updTqm_tqm, PerSlot.get_modify]
  split
  · exact h _ hj
  · exact hj

/-- A change of every slot's traffic that leaves its egress absent where it was. -/
theorem Steady.trafficAll (f : Traffic → Traffic) (s : State) (h : ∀ t : Traffic, t.egress = none → (f t).egress = none) :
    Steady s (s.updTqm fun q => q.map f) :=
  .of_link rfl id rfl fun j hj => by simpa using h _ hj

theorem startOrder_steady {o : Order} {s : State} (hr : s.tsu.running = none) : Steady s (startOrder o s) := by
  have hrun := startOrder_running o s
  obtain ⟨hkind, hheld⟩ := progress_started o
  refine .of_link (by simp) (fun _ => (kindly_some hrun).mpr hkind) ?_ fun k hk => ?_
  · rw [taken_some hrun, taken_none hr, hheld]
  · unfold startOrder
    dsimp only
    split
    · exact (Steady.traffic _ _ _ fun t _ => discardEgress_egress t).egress k hk
    · exact hk

theorem considerStart_steady (n : Nat) (s : State) : Steady s (considerStart n s) := by
  induction n generalizing s with
  | zero => exact .refl s
  | succ n ih =>
    unfold considerStart
    split
    · next o rest hr hq =>
      have hdrop : Steady s (s.updTsu fun t => { t with queued := rest }) := .of_same rfl rfl rfl
      dsimp only
      split
      · exact hdrop.trans (startOrder_steady hr)
      · exact (hdrop.trans (.of_same (by simp) (by simp) (by simp))).trans (ih _)
    · exact .refl s

theorem settle_steady (s : State) : Steady s (settle s) := considerStart_steady _ s

theorem bringupStep_steady (s : State) : Steady s (bringupStep s) := .of_same (by simp) (by simp) (by simp)

theorem bringup_steady (s : State) : Steady s (bringup s) := (bringupStep_steady s).trans (settle_steady _)

/-- What an end of the running order leaves: no hold is taken, whichever order starts. -/
theorem endRunning_free (out : TestOutcome) (s : State) :
    (endRunning out s).tsu.kindly ∧ (endRunning out s).tsu.taken = false
      ∧ ∀ k, (s.tqm.get k).egress = none → ((endRunning out s).tqm.get k).egress = none := by
  unfold endRunning
  split
  · next hr => exact ⟨kindly_none hr, taken_none hr, fun _ => id⟩
  · next r hr =>
    have hsettle := settle_steady (completeOrder r.order out (measuresOf r.order r.progress) (s.updTsu fun t => { t with running := none }))
    refine ⟨hsettle.kind (kindly_none (by simp)), hsettle.taken.trans (taken_none (by simp)), fun k hk => hsettle.egress k ?_⟩
    simpa using hk

theorem endRunning_steady (out : TestOutcome) {s : State} (h : s.tsu.taken = false) : Steady s (endRunning out s) := by
  obtain ⟨hk, ht, hq⟩ := endRunning_free out s
  exact .of_link (by simp) (fun _ => hk) (ht.trans h.symm) hq

theorem setProgress_steady {p : Progress} {s : State}
    (h : ∀ r, s.tsu.running = some r → p.kind = r.progress.kind ∧ p.held = r.progress.held) : Steady s (setProgress p s) := by
  have hrun : (setProgress p s).tsu.running = s.tsu.running.map fun r => { r with progress := p } := rfl
  refine .of_link (by simp) (fun hk => ?_) ?_ fun _ => by simp
  · cases hr : s.tsu.running with
    | none => exact kindly_none (by simp [hrun, hr])
    | some r =>
      have hofKind := (kindly_some hr).mp hk
      exact (kindly_some (by simp [hrun, hr])).mpr ((ofKind_congr r.order (h r hr).1).trans hofKind)
  · cases hr : s.tsu.running with
    | none => simp [Tsu.taken, hrun, hr]
    | some r => simp [Tsu.taken, hrun, hr, (h r hr).2]

end Sys2Proof.Machine

namespace Sys2Proof.Machine

open Sys2Proof

/-! ### The kinds of test -/

theorem updLoop_steady (f : LoopProgress → LoopProgress) (s : State) (hf : ∀ p, (f p).held = p.held) : Steady s (updLoop f s) := by
  unfold updLoop
  split
  · next p hp =>
    refine setProgress_steady fun r hr => ?_
    unfold State.loopProgress at hp
    split at hp
    · next o q hrun =>
      cases hp
      cases hr.symm.trans hrun
      exact ⟨rfl, hf _⟩
    · cases hp
  · exact .refl s

theorem decideLoop_steady (out : TestOutcome) (s : State) : Steady s (decideLoop out s) := updLoop_steady _ s fun _ => rfl

theorem countLooped_steady (n : Nat) (s : State) : Steady s (countLooped n s) := updLoop_steady _ s fun _ => rfl

theorem emit_steady (e : Emission) (s : State) : Steady s (s.emit e) := .of_same rfl rfl rfl

theorem raiseAll_steady (e : EventKind) (s : State) : Steady s (raiseAll e s) := .of_same (by simp) (by simp) (by simp)

theorem raiseIn_steady (e : EventKind) (k : Slot) (s : State) : Steady s (raiseIn e k s) := .of_same (by simp) (by simp) (by simp)

theorem taken_portLoop {s : State} {o : Order} {p : PortLoopProgress} (h : s.tsu.running = some ⟨o, .portLoop p⟩) : s.tsu.taken = false :=
  taken_some h

theorem taken_air {s : State} {o : Order} {p : AirProgress} (h : s.tsu.running = some ⟨o, .airPattern p⟩) : s.tsu.taken = false :=
  taken_some h

theorem taken_compare {s : State} {o : Order} {p : CompareProgress} (h : s.tsu.running = some ⟨o, .timeCompare p⟩) :
    s.tsu.taken = false := taken_some h

/-- Progress counted on by a test that holds no link. -/
theorem countOn {s : State} {o : Order} {p q : Progress} (h : s.tsu.running = some ⟨o, p⟩) (hk : q.kind = p.kind := by rfl)
    (hh : q.held = p.held := by rfl) : Steady s (setProgress q s) :=
  setProgress_steady fun r hr => by cases hr.symm.trans h; exact ⟨hk, hh⟩

/-- Progress counted on, and the order then ended. -/
theorem countAndEnd {s : State} {o : Order} {p q : Progress} (out : TestOutcome) (h : s.tsu.running = some ⟨o, p⟩)
    (hk : q.kind = p.kind := by rfl) (hh : q.held = p.held := by rfl) (hp : p.held = false := by rfl) : Steady s (endRunning out (setProgress q s)) :=
  have hcount := countOn h hk hh
  hcount.trans (endRunning_steady out (hcount.taken.trans ((taken_some h).trans hp)))

theorem sendTestPacket_steady (s : State) : Steady s (sendTestPacket s) := by
  unfold sendTestPacket
  split
  · next h =>
    split
    · exact (countOn h).trans (emit_steady _ _)
    · exact .refl s
  · exact .refl s

theorem returnTestPacket_steady (q : TestPacket) (s : State) : Steady s (returnTestPacket q s) := by
  unfold returnTestPacket
  split
  · next h =>
    dsimp only
    split
    · exact .refl s
    · split
      · split
        · exact countAndEnd _ h
        · exact countOn h
      · exact countAndEnd _ h
  · exact .refl s

theorem expireLoopTimer_steady (s : State) : Steady s (expireLoopTimer s) := by
  unfold expireLoopTimer
  split
  · next h =>
    unfold Tsu.loopTimerDue at h
    split at h
    · next hr => exact endRunning_steady _ (taken_portLoop hr)
    · cases h
  · exact .refl s

theorem judgeAir_steady (s : State) : Steady s (judgeAir s) := by
  unfold judgeAir
  split
  · next h =>
    have hend := fun out => endRunning_steady out (taken_air h)
    split
    · exact .ite (hend _) (.refl s)
    · exact .ite (hend _) (.refl s)
  · exact .refl s

theorem airFill_steady (frame t : Nat) (s : State) : Steady s (airFill frame t s) := by
  unfold airFill
  split
  · next h => exact countOn h
  · exact .refl s

theorem airReport_steady (r : PatternReport) (s : State) : Steady s (airReport r s) := by
  unfold airReport
  split
  · next h =>
    split
    · exact .refl s
    · exact (countOn h).trans (judgeAir_steady _)
  · exact .refl s

theorem tsuSample_steady (src : Source) (x : Sample) (s : State) : Steady s (tsuSample src x s) := by
  unfold tsuSample
  split
  · next h =>
    dsimp only
    split
    · split
      · split
        · exact countAndEnd _ h
        · split
          · exact countAndEnd _ h
          · exact countOn h
      · exact countOn h
    · exact countOn h
  · exact .refl s

theorem tsuBoundary_steady (s : State) : Steady s (tsuBoundary s) := by
  unfold tsuBoundary
  split
  · next h =>
    dsimp only
    split
    · exact countAndEnd _ h
    · exact countOn h
  · exact .refl s

theorem tsuSourceLeft_steady (s : State) : Steady s (tsuSourceLeft s) := by
  unfold tsuSourceLeft
  split
  · next h => exact endRunning_steady _ (taken_compare h)
  · exact .refl s

/-! ### Site time -/

theorem recomputeInhibit_steady (s : State) : Steady s (recomputeInhibit s) := .scu _ s

theorem judgeFitness_steady (s : State) (k : Slot) : Steady s (judgeFitness s k) := .of_same (by simp) (by simp) (by simp)

theorem classPublished_steady (s : State) : Steady s (classPublished s) :=
  ((bringup_steady s).trans (.foldl _ judgeFitness_steady allSlots _)).trans (recomputeInhibit_steady _)

theorem deriveClass_steady (s : State) : Steady s (deriveClass s) := by
  unfold deriveClass
  split
  · exact .refl s
  · exact ((Steady.tmu _ s).trans (raiseAll_steady _ _)).trans (classPublished_steady _)

theorem judgeSelection_steady (s : State) : Steady s (judgeSelection s) := by
  unfold judgeSelection
  split
  · exact .refl s
  · exact ((Steady.tmu _ s).trans (raiseAll_steady _ _)).trans (deriveClass_steady _)

theorem qualificationChanged_steady (b : Qualification) (src : Source) (s : State) : Steady s (qualificationChanged b src s) := by
  unfold qualificationChanged
  split
  · exact .refl s
  · exact (Steady.ite (tsuSourceLeft_steady s) (.refl s)).trans (judgeSelection_steady _)

theorem takeOutcome_steady (src : Source) (v : Bool) (s : State) : Steady s (takeOutcome src v s) := by
  unfold takeOutcome
  split
  · exact .refl s
  · exact (Steady.tmu _ s).trans (qualificationChanged_steady _ _ _)

theorem exchangeMissing_steady (s : State) : Steady s (exchangeMissing s) := by
  unfold exchangeMissing
  split
  · exact .refl s
  · exact (Steady.tmu _ s).trans (takeOutcome_steady _ _ _)

theorem tmuRungChange_steady (n : Nat) (s : State) : Steady s (tmuRungChange n s) := by
  unfold tmuRungChange
  split
  · exact .ite (.refl s) (exchangeMissing_steady s)
  · exact .refl s

theorem placeRequest_steady (n : Nat) (s : State) : Steady s (placeRequest n s).2 := by
  unfold placeRequest
  split
  · exact Steady.of_same rfl rfl rfl
  · exact .refl s

theorem stepTime_steady (new : SiteTime) (s : State) : Steady s (stepTime new s) := (Steady.tmu _ s).trans (exchangeMissing_steady _)

theorem screenSample_steady (x : Sample) (s : State) : Steady s (screenSample x s) := by
  have hderive : ∀ f : Tmu → Tmu, Steady s (deriveClass (s.updTmu f)) := fun f => (Steady.tmu f s).trans (deriveClass_steady _)
  unfold screenSample
  split
  · exact .ite ((Steady.tmu _ s).trans (stepTime_steady _ _)) (hderive _)
  · exact .ite (hderive _) (hderive _)
  · exact .refl s

theorem takeSample_steady (src : Source) (x : Sample) (s : State) : Steady s (takeSample src x s) := by
  have hlast : Steady s (s.updTmu fun t => t.updSource src fun r => { r with last := some x }) := .tmu _ s
  have htaken := (hlast.trans (takeOutcome_steady src true _)).trans (tsuSample_steady src x _)
  unfold takeSample
  dsimp only
  split
  · exact hlast
  · exact .ite (htaken.trans (screenSample_steady x _)) htaken

theorem gnssPulse_steady (s : State) : Steady s (gnssPulse s) := by
  have hmessage : Steady s (s.updTmu fun t => { t with message := none }) := .tmu _ s
  have htimer := hmessage.trans (.tmu (fun t => { t with pulseTimer := some 0 }) _)
  unfold gnssPulse
  dsimp only
  split
  · exact hmessage
  · split
    · exact htimer.trans (takeSample_steady _ _ _)
    · exact htimer.trans (takeOutcome_steady _ _ _)

theorem pulseTimerExpiry_steady (s : State) : Steady s (pulseTimerExpiry s) :=
  .ite ((Steady.tmu _ s).trans (takeOutcome_steady _ _ _)) (.refl s)

theorem takeReply_steady (r : TimeReply) (s : State) : Steady s (takeReply r s) := by
  have hend : Steady s (s.updTmu fun t => { t with exchange := none }) := .tmu _ s
  unfold takeReply
  split
  · split
    · dsimp only
      split
      · exact (hend.trans (.ite (.refl _) (.tmu _ _))).trans (takeSample_steady _ _ _)
      · exact hend.trans (takeOutcome_steady _ _ _)
    · exact .refl s
  · exact .refl s

theorem replyTimerExpiry_steady (s : State) : Steady s (replyTimerExpiry s) := .ite (exchangeMissing_steady s) (.refl s)

theorem siteSecond_steady (n : Nat) (s : State) : Steady s (siteSecond n s) := by
  have hexchange : ∀ t, Steady t (boundaryExchange n t) := fun t =>
    .ite ((exchangeMissing_steady t).trans (.tmu _ _)) (takeOutcome_steady _ _ t)
  have hraise : ∀ t, Steady t (raiseBoundary n t) := fun t =>
    .ite (.tmu _ t) (((((Steady.tmu _ t).trans (.tmu _ _)).trans (deriveClass_steady _)).trans (tsuBoundary_steady _)).trans (hexchange _))
  obtain ⟨-, h⟩ | ⟨-, h⟩ := siteSecond_cases n s
  · rw [h]; exact .refl s
  · rw [h]; exact (Steady.tmu _ s).trans (.ite (hraise _) (.refl _))

/-! ### Traffic -/

theorem addPacket_egress (t : Traffic) (c : IngressClass) (bytes : List Byte) : (t.addPacket c bytes).egress = t.egress := by
  cases c <;> rfl

theorem arrive_steady (k : Slot) (bytes : List Byte) (cut : Bool) (s : State) : Steady s (arrive k bytes cut s) := by
  have hdrop : Steady s (dropMalformed k s) := .traffic k _ s fun _ => id
  have hoffer : Steady s (offer k bytes s) :=
    .ite (.traffic k _ s fun t h => (addPacket_egress t _ _).trans h)
      ((Steady.traffic k (fun r => { r with droppedFull := satInc r.droppedFull }) s fun _ => id).trans
        (raiseIn_steady _ _ _))
  exact .ite (.refl s) (.ite hdrop (.ite hdrop hoffer))

theorem drainAll_steady (g : PerSlot Nat) (s : State) : Steady s (drainAll g s).2 :=
  .of_link rfl id rfl fun k hk => by simpa [drainAll, Traffic.drain] using hk

theorem recordPass_steady (h : PassFrame) (es : PerSlot Entrant) (p : Pass) (s : State) : Steady s (recordPass h es p s) :=
  .of_same (by simp) (by simp) (by simp)

theorem passAndDrain_steady (s : State) : Steady s (passAndDrain s).2.2 :=
  (recordPass_steady _ _ _ s).trans (drainAll_steady _ _)

theorem depart_egress (t : Traffic) : t.depart.egress = none := discardEgress_egress _

theorem tqmDepart_egress (s : State) (k : Slot) : ((tqmDepart s).tqm.get k).egress = none := by
  simp [tqmDepart, depart_egress]

theorem tqmSlotState_steady (k : Slot) (new : SlotState) (s : State) : Steady s (tqmSlotState k new s) := by
  refine .traffic k _ s fun t h => ?_
  cases new with
  | enabled => exact h
  | suspended | vacant => exact discardEgress_egress _

end Sys2Proof.Machine

namespace Sys2Proof.Machine

open Sys2Proof

/-! ### The hold -/

theorem sendOdu_lkc (c : OduCommand) (n : Nat) (s : State) :
    (sendOdu c n s).lkc = { s.lkc with sent := s.lkc.sent + 1, outstanding := some ⟨c, 0, n, s.lkc.sent⟩ } := by simp [sendOdu]

theorem sendOdu_emitted (c : OduCommand) (n : Nat) (s : State) : (sendOdu c n s).emitted = s.emitted ++ [.odu c] := by simp [sendOdu]

theorem enterLoopExit_lkc (s : State) :
    (enterLoopExit s).lkc
      = { s.lkc with
          state := .held .loopExit, outstanding := some ⟨.loopOff, 0, s.lkc.confirmLimit, s.lkc.sent⟩, sent := s.lkc.sent + 1,
          late := s.lkc.abandon.late } := by
  unfold enterLoopExit
  rw [sendOdu_lkc, State.updLkc_lkc, abandon_apart]

theorem leavePending_lkc (s : State) :
    (leavePending false s).lkc
      = { s.lkc with
          state := .held .loopEntry, outstanding := some ⟨.loopOn, 0, s.lkc.confirmLimit, s.lkc.sent⟩, sent := s.lkc.sent + 1 } := by
  simp [leavePending, sendOdu_lkc]

/-- In HELD, the link moves on to another phase with its command. -/
theorem Steady.phase {s t : State} {ph : LoopPhase} (hs : s.lkc.state.isHeld = true) (hr : t.lkc.rung = s.lkc.rung)
    (hp : t.lkc.state = .held ph) (hf : t.lkc.commandFits = true) (ho : t.tsu = s.tsu) (hq : t.tqm = s.tqm) : Steady s t where
  rung := hr
  held := by rw [hp, hs]; rfl
  up := fun h => by simp [h, LinkState.isHeld] at hs
  fits := fun _ => hf
  kind := ho ▸ id
  taken := by rw [ho]
  egress := fun _ => hq ▸ id

theorem enterLoopExit_steady {s : State} (h : s.lkc.state.isHeld = true) : Steady s (enterLoopExit s) :=
  .phase h (by rw [enterLoopExit_lkc]) (by rw [enterLoopExit_lkc]) (by rw [enterLoopExit_lkc]; rfl) (by simp) (by simp)

theorem leavePending_steady {s : State} (h : s.lkc.state.isHeld = true) (b : Bool) : Steady s (leavePending b s) := by
  cases b with
  | true => exact enterLoopExit_steady h
  | false => exact .phase h (by rw [leavePending_lkc]) (by rw [leavePending_lkc]) (by rw [leavePending_lkc]; rfl) (by simp) (by simp)

/-- No command is outstanding, or none fits, while frames filled before the hold are still to be sent. -/
theorem commandFits_pending {l : Lkc} {u : Nat} {b : Bool} (h : l.state = .held (.holdPending u b)) (hf : l.commandFits = true) :
    l.outstanding = none := by
  unfold Lkc.commandFits at hf
  split at hf
  · assumption
  · split at hf <;> simp_all

/-- HOLD_PENDING counts down, or marks the end asked for. -/
theorem pending_steady {s : State} {u v : Nat} {a b : Bool} (h : s.lkc.state = .held (.holdPending u a)) :
    Steady s (s.updLkc fun l => { l with state := .held (.holdPending v b) }) where
  rung := rfl
  held := by rw [h]; rfl
  up := fun h' => by rw [h] at h'; cases h'
  fits := fun hf => by simp [Lkc.commandFits, commandFits_pending h hf]
  kind := id
  taken := rfl
  egress := fun _ => id

theorem askLoopEnd_steady (s : State) : Steady s (askLoopEnd s) := by
  unfold askLoopEnd
  split
  · next h => exact pending_steady h
  · next h => exact enterLoopExit_steady (by rw [h]; rfl)
  · next h => exact enterLoopExit_steady (by rw [h]; rfl)
  · exact .refl s

/-- A LINK_LOOP's progress is the running order's. -/
theorem loopProgress_some {s : State} {p : LoopProgress} : s.loopProgress = some p ↔ ∃ o, s.tsu.running = some ⟨o, .linkLoop p⟩ := by
  unfold State.loopProgress
  constructor
  · intro h
    split at h
    · next o q hr => cases h; exact ⟨o, hr⟩
    · cases h
  · rintro ⟨o, hr⟩
    rw [hr]

theorem taken_loop {s : State} {p : LoopProgress} (h : s.loopProgress = some p) : s.tsu.taken = p.held := by
  obtain ⟨o, hr⟩ := loopProgress_some.mp h
  exact taken_some hr

theorem abortLoop_steady (r : AbortReason) (s : State) : Steady s (abortLoop r s) := by
  unfold abortLoop
  split
  · exact .refl s
  · next p hp =>
    split
    · exact .ite (.refl s) ((decideLoop_steady _ s).trans (askLoopEnd_steady _))
    · next hheld => exact endRunning_steady _ (by simpa [taken_loop hp] using hheld)

theorem returnLooped_steady (n e : Nat) (s : State) : Steady s (returnLooped n e s) :=
  .ite ((countLooped_steady _ s).trans (.lkc _ _ rfl rfl rfl)) (.refl s)

/-- The oldest frame gone, stamped where it carries a request (R140). -/
def frameSent (f : AirFrame) (rest : List AirFrame) (s : State) : State :=
  let s1 := (s.updLkc fun l => { l with unsent := rest }).emit (.airFrame f (if f.request then some s.tmu.site else none))
  if f.request then stampRequest f.number s1 else s1

theorem frameSent_frame (f : AirFrame) (rest : List AirFrame) (s : State) :
    (frameSent f rest s).lkc = { s.lkc with unsent := rest } ∧ (frameSent f rest s).tsu = s.tsu ∧ (frameSent f rest s).tqm = s.tqm
      ∧ (frameSent f rest s).emitted = s.emitted ++ [.airFrame f (if f.request then some s.tmu.site else none)] := by
  unfold frameSent
  dsimp only
  split <;> simp [stampRequest]

/-- All that the departure of the oldest frame can do: no frame is there; the last before a hold goes, or an earlier one of those; or any
other frame goes (R41, R140). -/
theorem sendFrame_cases (s : State) :
    (s.lkc.unsent = [] ∧ sendFrame s = s)
      ∨ ∃ f rest, s.lkc.unsent = f :: rest
          ∧ ((∃ u asked, s.lkc.state = .held (.holdPending u asked) ∧ u ≤ 1 ∧ sendFrame s = leavePending asked (frameSent f rest s))
            ∨ (∃ u asked, s.lkc.state = .held (.holdPending u asked) ∧ 1 < u
                ∧ sendFrame s = (frameSent f rest s).updLkc fun l => { l with state := .held (.holdPending (u - 1) asked) })
            ∨ ((∀ u asked, s.lkc.state ≠ .held (.holdPending u asked)) ∧ sendFrame s = frameSent f rest s)) := by
  unfold sendFrame
  split
  · next h => exact .inl ⟨h, rfl⟩
  · next f rest h =>
    refine .inr ⟨f, rest, h, ?_⟩
    dsimp only
    split
    · next u asked hs =>
      by_cases hu : u ≤ 1
      · exact .inl ⟨u, asked, hs, hu, if_pos hu⟩
      · exact .inr (.inl ⟨u, asked, hs, by omega, if_neg hu⟩)
    · next hs => exact .inr (.inr ⟨hs, rfl⟩)

theorem sendFrame_steady (s : State) : Steady s (sendFrame s) := by
  obtain ⟨-, h⟩ | ⟨f, rest, -, h⟩ := sendFrame_cases s
  · rw [h]; exact .refl s
  · obtain ⟨hlkc, htsu, htqm, -⟩ := frameSent_frame f rest s
    have hsent : Steady s (frameSent f rest s) :=
      (Steady.lkc (fun l => { l with unsent := rest }) s rfl rfl rfl).trans (.of_same hlkc (by rw [htsu]; rfl) htqm)
    obtain ⟨u, asked, hs, -, h⟩ | ⟨u, asked, hs, -, h⟩ | ⟨-, h⟩ := h <;> rw [h]
    · exact hsent.trans (leavePending_steady (by rw [hlkc, hs]; rfl) _)
    · exact hsent.trans (pending_steady (u := u) (a := asked) (by rw [hlkc, hs]))
    · exact hsent

/-! ### Requests -/

theorem serve_steady {k : Slot} {tag : Byte} {p f : Bool} {v : Verdict} {s : State} (h : Takes v (Steady s)) :
    Steady s (serve k tag p f v s) :=
  have hanswer : ∀ t st data, Steady t (answer k tag st data t) := fun t _ _ => .of_same (by simp) (by simp) (by simp)
  serve_ends (fun _ _ => hanswer s _ _) fun data t hv _ => (h data t hv).trans (hanswer t _ _)

theorem reads_steady (ps : List Byte) (data : List Field) (s : State) : Takes (reads ps data s) (Steady s) :=
  .withParams _ fun _ => .taken _ (.refl s)

theorem readsSlot_steady (ps : List Byte) (data : Slot → List Field) (s : State) : Takes (readsSlot ps data s) (Steady s) :=
  .withParams _ fun _ => .withParams _ fun _ => .taken _ (.refl s)

theorem judgeRetryAcceptance_steady (ps : List Byte) (s : State) : Takes (judgeRetryAcceptance ps s) (Steady s) := by
  have hcleared : Steady s (clearFailure s) := .scu _ s
  refine .ite (fun _ => .refuse _) fun _ => .withParams _ fun _ => .ite (fun _ => .taken _ ?_) fun _ =>
    .ite (fun _ => .taken _ ?_) fun _ => .refuse _
  · exact hcleared.trans (.of_same (by simp) (by simp) (by simp))
  · refine Steady.trans (.of_same ?_ ?_ ?_) (settle_steady _) <;> simp [clearFailure]

theorem judgeForceService_steady (ps : List Byte) (s : State) : Takes (judgeForceService ps s) (Steady s) :=
  .ite (fun _ => .refuse _) fun _ => .withParams _ fun _ => .taken _ (.of_same (by simp) (by simp) (by simp))

theorem judgeWriteProfile_steady (ps : List Byte) (s : State) : Takes (judgeWriteProfile ps s) (Steady s) := by
  refine .withParams _ fun w => ?_
  dsimp only
  split
  · exact .ite (fun _ => .refuse _) fun _ => .ite (fun _ => .refuse _) fun _ => .taken _ (.lkc _ s rfl rfl rfl)
  · exact .ite (fun _ => .taken _ (.lkc _ s rfl rfl rfl)) fun _ => .refuse _

theorem cancelOrder_steady (o : Order) (s : State) : Steady s (cancelOrder o s) := by
  unfold cancelOrder
  split
  · split
    · exact abortLoop_steady _ s
    · next h => exact endRunning_steady _ (by rw [← loopProgress_held, h]; rfl)
  · exact Steady.trans (.of_same (by simp) (by simp) (by simp)) (settle_steady _)

theorem judgeCancelTest_steady (k : Slot) (ps : List Byte) (s : State) : Takes (judgeCancelTest k ps s) (Steady s) := by
  refine .withParams _ fun _ => .ite (fun _ => .refuse _) fun _ => ?_
  split
  · exact .refuse _
  · exact .ite (fun _ => .refuse _) fun _ => .ite (fun _ => .refuse _) fun _ => .taken _ (cancelOrder_steady _ s)

theorem writePriority_steady (src : Source) (n : Nat) (s : State) : Steady s (writePriority src n s) :=
  ((Steady.tmu _ s).trans (.ite (tsuSourceLeft_steady _) (.refl _))).trans (judgeSelection_steady _)

theorem writeLimits_steady (w : LimitWrite) (s : State) : Steady s (writeLimits w s) :=
  .ite ((Steady.tmu _ s).trans (deriveClass_steady _)) (.tmu _ s)

theorem recordChanged_steady (k j : Slot) (s : State) : Steady s (recordChanged k j s) := .ite (.refl s) (raiseIn_steady _ _ s)

theorem ppsFollow_steady (k : Slot) (s : State) : Steady s (ppsFollow k s) := .of_same (by simp) (by simp) (by simp)

theorem changeSlotState_steady (k : Slot) (old new : SlotState) (s : State) : Steady s (changeSlotState k old new s) :=
  ((((Steady.scu _ s).trans (tqmSlotState_steady k new _)).trans
    (.ite (.scu _ _) (.ite (judgeFitness_steady _ k) (.refl _)))).trans (recomputeInhibit_steady _)).trans (ppsFollow_steady k _)

theorem judgeSetSlotState_steady (k : Slot) (ps : List Byte) (s : State) : Takes (judgeSetSlotState k ps s) (Steady s) :=
  .withParams _ fun _ => .withParams _ fun _ => .ite (fun _ => .refuse _) fun _ => .withParams _ fun _ =>
    .ite (fun _ => .taken _ (recordChanged_steady _ _ s)) fun _ => .ite (fun _ => .refuse _) fun _ =>
      .taken _ ((changeSlotState_steady _ _ _ s).trans (recordChanged_steady _ _ _))

theorem judgeWriteShare_steady (k : Slot) (ps : List Byte) (s : State) : Takes (judgeWriteShare k ps s) (Steady s) :=
  .withParams _ fun _ => .withParams _ fun _ => .withParams _ fun _ => .ite (fun _ => .refuse _) fun _ => .ite (fun _ => .refuse _) fun _ =>
    .taken _ ((Steady.scu _ s).trans (recordChanged_steady _ _ _))

theorem tune_steady (k : Slot) (w : TuningWrite) (s : State) : Steady s (tune k w s) := by
  have hwrite : Steady s (s.updTenant k w.into) := .scu _ s
  have hoffset := hwrite.trans (.ite (c := w.offset.isSome = true) (.tmu (fun u => u.takePulse k) _) (.refl _))
  exact (hoffset.trans (.ite ((judgeFitness_steady _ k).trans (recomputeInhibit_steady _)) (.refl _))).trans (ppsFollow_steady k _)

theorem judgeWriteTuning_steady (k : Slot) (ps : List Byte) (s : State) : Takes (judgeWriteTuning k ps s) (Steady s) :=
  .withParams _ fun _ => .withParams _ fun _ => .ite (fun _ => .refuse _) fun _ =>
    .taken _ ((tune_steady _ _ s).trans (recordChanged_steady _ _ _))

theorem resetSite_egress (t : Traffic) : t.resetSite.egress = none := rfl

/-- The loop subject's PORT_LOOP holds no link. -/
theorem taken_loopSubject {s : State} {k : Slot} (hk : s.tsu.kindly) (h : s.loopSubject = some k) : s.tsu.taken = false := by
  unfold State.loopSubject at h
  split at h
  · next i who j n len p hr =>
    have hkind := (ofKind_iff _).mp (hk _ hr)
    rw [taken_some hr]
    cases p with
    | linkLoop => cases hkind
    | portLoop | airPattern | timeCompare => rfl
  · cases h

/-- TSU's part of a slot reset: a LINK_LOOP whose hold is taken is not ended here. -/
theorem tenantResetRunning_steady (k : Slot) {s : State} (hk : s.tsu.kindly) : Steady s (tenantResetRunning k s) := by
  unfold tenantResetRunning
  split
  · exact .refl s
  · next r hr =>
    split
    · split
      · exact abortLoop_steady _ s
      · next hno =>
        refine endRunning_steady _ ((taken_some hr).trans ?_)
        unfold Progress.held
        split
        · next p hp => exact absurd hp (hno p)
        · rfl
    · split
      · next hsub => exact endRunning_steady _ (taken_loopSubject hk hsub)
      · exact .refl s

theorem removeQueued_steady (k : Slot) (s : State) : Steady s (removeQueued k s) := .of_same (by simp) (by simp) (by simp)

theorem tenantReset_steady (k : Slot) {s : State} (hk : s.tsu.kindly) : Steady s (tenantReset k s) := by
  have hevents : Steady s (s.updSli fun x => { x with events := x.events.set k {} }) := .of_same rfl rfl rfl
  have htraffic := hevents.trans (.traffic k (fun r => r.resetSite.clearCounters) _ fun t _ => resetSite_egress t)
  have hgrants := htraffic.trans (.gre (fun g => { g with slots := g.slots.set k {} }) _)
  have hqueued := hgrants.trans (removeQueued_steady k _)
  exact (hqueued.trans (tenantResetRunning_steady k (hqueued.kind hk))).trans (settle_steady _)

/-! ### The commands -/

/-- The commands that may move the link, and TENANT_RESET, which goes by the kind of the running order. -/
def movesLink (c : Instr) : Bool :=
  match c with
  | .powerOnReset .. | .descriptorLoad .. | .beginBringup .. | .siteReset .. | .linkRestart .. | .oduIdentifyReply .. | .identifyReplyLimit
  | .readPageReply .. | .readPageReplyLimit | .loopOnConfirmed | .loopOnLimit | .loopOffConfirmed | .loopOffLimit | .statusReport ..
  | .missingStatusReport | .farFrame .. | .missingFarFrame | .backoffExpiry | .frameFill | .tenantReset .. => true
  | _ => false

/-- Every other command is steady. -/
theorem exec_steady {c : Instr} (hc : movesLink c = false) (s : State) : Leaves (exec c s) (Steady s) := by
  have hanswer : ∀ k tag st data, Steady s (answer k tag st data s) := fun _ _ _ _ => .of_same (by simp) (by simp) (by simp)
  have hend : ∀ v good, Steady s (endSave v good s) := fun _ _ => .of_same (by simp [endSave]) (by simp [endSave]) (by simp [endSave])
  have henter : ∀ v p c, Steady s (enterPhase v p c s) := fun _ _ _ => .of_same rfl rfl rfl
  have hphase : ∀ p f, (∀ v, Steady s (f v)) → Steady s (inPhase p s f) := by
    intro p f h
    unfold inPhase
    split
    · exact .ite (h _) (.refl s)
    · exact .refl s
  have hplace : ∀ r x, Steady s (s.updTsu fun u => u.place r x) := fun _ _ => .of_same rfl rfl rfl
  cases c with
  | powerOnReset | descriptorLoad | beginBringup | siteReset | linkRestart | oduIdentifyReply | identifyReplyLimit | readPageReply
  | readPageReplyLimit | loopOnConfirmed | loopOnLimit | loopOffConfirmed | loopOffLimit | statusReport | missingStatusReport | farFrame
  | missingFarFrame | backoffExpiry | frameFill | tenantReset => cases hc
  | readAccess | readEvents | siteStatus | linkStatus | readProfiles | timeRead | timeStatus | testStatus | descriptorStatus =>
    exact .next (serve_steady (reads_steady _ _ s))
  | readTenant | queueStatus | grantStatus => exact .next (serve_steady (readsSlot_steady _ _ s))
  | identify k tag ps =>
    refine .next ?_
    unfold conclude
    split
    · exact hanswer _ _ _ _
    · next hv => exact (reads_steady _ _ s _ _ hv).trans (.of_same (by simp) (by simp) (by simp))
  | readResults => exact .next (serve_steady (.withParams _ fun _ => .taken _ (.refl s)))
  | requestWriteBegin k => exact .next (.of_same rfl rfl rfl)
  | corruptFrame k frame =>
    change Leaves (execCorruptFrame k frame s) _
    unfold execCorruptFrame
    split
    · exact .next (.refl s)
    · split
      · exact .next (hanswer _ _ _ _)
      · exact .refused _
  | unknownName => exact .ite (.refused _) (.next (hanswer _ _ _ _))
  | responseRead k n =>
    change Leaves (execResponseRead k n s) _
    unfold execResponseRead
    split
    · exact .next (emit_steady _ s)
    · dsimp only
      split
      · exact .next (emit_steady _ s)
      · exact .next (.of_same rfl rfl rfl)
  | writeAccess => exact .next (serve_steady (.withParams _ fun _ => .withParams _ fun _ => .ite (fun _ => .refuse _) fun _ =>
      .taken _ (.of_same rfl rfl rfl)))
  | setLock => exact .next (serve_steady (.withParams _ fun _ => .taken _ (.of_same rfl rfl rfl)))
  | ackEvents =>
    exact .next (serve_steady (.withParams _ fun _ => .ite (fun _ => .refuse _) fun _ => .taken _ (.of_same rfl rfl rfl)))
  | setEventEnables =>
    exact .next (serve_steady (.withParams _ fun _ => .ite (fun _ => .taken _ (.of_same rfl rfl rfl)) fun _ => .refuse _))
  | retryAcceptance => exact .next (serve_steady (judgeRetryAcceptance_steady _ s))
  | forceService => exact .next (serve_steady (judgeForceService_steady _ s))
  | setAcceptanceSet => exact .next (serve_steady (.withParams _ fun _ => .ite (fun _ => .refuse _) fun _ =>
      .taken _ ((Steady.scu _ s).trans (bringup_steady _))))
  | setSiteClass => exact .next (serve_steady (.withParams _ fun _ => .taken _ ((Steady.scu _ s).trans (bringup_steady _))))
  | setCommitCeiling => exact .next (serve_steady (.withParams _ fun _ => .ite (fun _ => .refuse _) fun _ => .ite (fun _ => .refuse _) fun _ =>
      .taken _ (.scu _ s)))
  | setSlotState => exact .next (serve_steady (judgeSetSlotState_steady _ _ s))
  | writeShare => exact .next (serve_steady (judgeWriteShare_steady _ _ s))
  | writeTuning => exact .next (serve_steady (judgeWriteTuning_steady _ _ s))
  | clearCounters => exact .next (serve_steady (.withParams _ fun _ => .withParams _ fun k => .taken _
      ((Steady.traffic k Traffic.clearCounters s fun _ => id).trans (.of_same rfl rfl rfl))))
  | setRungLimits => exact .next (serve_steady (.withParams _ fun _ => .ite (fun _ => .refuse _) fun _ => .taken _ (.lkc _ s rfl rfl rfl)))
  | writeProfile => exact .next (serve_steady (judgeWriteProfile_steady _ s))
  | setLinkLimits => exact .next (serve_steady (.withParams _ fun _ => .ite (fun _ => .taken _ (.lkc _ s rfl rfl rfl)) fun _ => .refuse _))
  | setGrantLimits => exact .next (serve_steady (.withParams _ fun _ => .ite (fun _ => .taken _ (.of_same rfl rfl rfl)) fun _ => .refuse _))
  | setTime => exact .next (serve_steady (.ite (fun _ => .refuse _) fun _ => .withParams _ fun _ =>
      .ite (fun _ => .taken _ (stepTime_steady _ s)) fun _ => .refuse _))
  | setSourcePriority => exact .next (serve_steady (.withParams _ fun _ => .ite (fun _ => .refuse _) fun _ =>
      .taken _ (writePriority_steady _ _ s)))
  | presetIntegrator => exact .next (serve_steady (.withParams _ fun _ => .ite (fun _ => .refuse _) fun _ => .taken _ (.tmu _ s)))
  | setLoopBank => exact .next (serve_steady (.withParams _ fun _ => .ite (fun _ => .taken _ (.tmu _ s)) fun _ => .refuse _))
  | setTimeLimits => exact .next (serve_steady (.withParams _ fun _ => .ite (fun _ => .taken _ (writeLimits_steady _ s)) fun _ => .refuse _))
  | clearTimeSticky => exact .next (serve_steady (.withParams _ fun _ => .ite (fun _ => .refuse _) fun _ => .taken _ (.tmu _ s)))
  | orderTest => exact .next (serve_steady (.withParams _ fun _ => .ite (fun _ => .refuse _) fun _ =>
      .taken _ ((hplace _ _).trans (settle_steady _))))
  | cancelTest => exact .next (serve_steady (judgeCancelTest_steady _ _ s))
  | saveDescriptor => exact .next (serve_steady (.withParams _ fun _ => .ite (fun _ => .refuse _) fun _ => .taken _ (.of_same rfl rfl rfl)))
  | loopedFrameReturn => exact .next (returnLooped_steady _ _ s)
  | frameLeavesRadioPort => exact .next (sendFrame_steady s)
  | packetArrival => exact .next (arrive_steady _ _ _ s)
  | gnssTimeMessage bytes =>
    change Leaves (execGnssTimeMessage bytes s) _
    unfold execGnssTimeMessage
    split
    · exact .next (.tmu _ s)
    · exact .next (.refl s)
  | gnssPulse => exact .next (gnssPulse_steady s)
  | pulseTimerExpiry => exact .next (pulseTimerExpiry_steady s)
  | siteSecondBoundary => exact .next (siteSecond_steady _ s)
  | replyTimerExpiry => exact .next (replyTimerExpiry_steady s)
  | ppsEmission => exact .next (.of_same (by simp) (by simp) (by simp))
  | ppsDelayedEmission | ppsPulseEnd => exact .next (.tmu _ s)
  | portLoopPacketSend => exact .next (sendTestPacket_steady s)
  | portLoopReturn => exact .next (returnTestPacket_steady _ s)
  | loopTimerExpiry => exact .next (expireLoopTimer_steady s)
  | eraseComplete | programComplete => exact .next (hphase _ _ fun _ => henter _ _ _)
  | verifyComplete => exact .next (hphase _ _ fun _ => .ite (henter _ _ _) (hend _ _))
  | commitComplete => exact .next (hphase _ _ fun _ => hend _ _)
  | saveTimerExpiry =>
    change Leaves (execSaveTimerExpiry s) _
    unfold execSaveTimerExpiry
    split
    · exact .ite (.next (hend _ _)) (.next (.refl s))
    · exact .next (.refl s)

end Sys2Proof.Machine

/-! The tier of the link: what every step keeps of the hold and of the egress partials, and what it may do to the rung (chapters 2, 3, 4). -/

namespace Sys2Proof.Machine

open Sys2Proof

/-! ## Steps that keep the hold and the egress partials -/

/-- What a step from a state whose hold fits leaves: the hold fitting, and no partial outside UP where none was. -/
structure Sound (s t : State) : Prop where
  fits : t.holdFits
  egress : s.egressQuiet → t.egressQuiet

theorem Firm.sound {s t : State} (h : Firm s t) (hs : s.holdFits) : Sound s t where
  fits := by
    obtain ⟨hkind, hfits, hheld⟩ := (holdFits_iff s).mp hs
    exact (holdFits_iff t).mpr ⟨h.kind hkind, h.fits hfits, by rw [h.held, h.taken, hheld]⟩
  egress := fun hq hup k => h.egress k (hq (fun hs => hup (h.up hs)) k)

theorem Sound.firm {s t u : State} (h1 : Sound s t) (h2 : Firm t u) : Sound s u :=
  have h := h2.sound h1.fits
  ⟨h.fits, h.egress ∘ h1.egress⟩

theorem Sound.trans {s t u : State} (h1 : Sound s t) (h2 : Sound t u) : Sound s u := ⟨h2.fits, h2.egress ∘ h1.egress⟩

/-- An entry from a state that is neither UP nor HELD to one that is not HELD. -/
theorem Sound.entry {s t : State} (hs : s.holdFits) (hc : s.lkc.state.carries = false) (hh : t.lkc.state.isHeld = false)
    (hf : t.lkc.commandFits = true) (hk : s.tsu.kindly → t.tsu.kindly) (ht : t.tsu.taken = s.tsu.taken)
    (hq : ∀ k, (s.tqm.get k).egress = none → (t.tqm.get k).egress = none) : Sound s t where
  fits := by
    obtain ⟨hkind, -, hheld⟩ := (holdFits_iff s).mp hs
    refine (holdFits_iff t).mpr ⟨hk hkind, hf, ?_⟩
    rw [hh, ht, ← hheld]
    cases hstate : s.lkc.state with
    | up | held => rw [hstate] at hc; cases hc
    | off | discovery | acquiring | lost => rfl
  egress := fun hquiet _ k => hq k (hquiet (fun h => by rw [h] at hc; cases hc) k)

/-- The same where the entry ends with the bring-up step and leaves the orders and the queues. -/
theorem Sound.entryBringup {s t : State} (hs : s.holdFits) (hc : s.lkc.state.carries = false) (hh : t.lkc.state.isHeld = false)
    (hf : t.lkc.commandFits = true) (ht : t.tsu = s.tsu) (hq : t.tqm = s.tqm) : Sound s (bringup t) :=
  (Sound.entry hs hc hh hf (ht ▸ id) (by rw [ht]) fun _ => hq ▸ id).firm (bringup_steady t).toFirm

/-! ### Departures -/

theorem departQueues_egress {w : LinkState} (hw : w.carries = true) (s : State) (k : Slot) : ((departQueues w s).tqm.get k).egress = none := by
  unfold departQueues
  rw [if_pos hw]
  exact (exchangeMissing_steady _).egress k (tqmDepart_egress s k)

theorem departQueues_steady (w : LinkState) (s : State) : Steady s (departQueues w s) :=
  .ite ((Steady.of_link (by simp) (by simp) (by simp) fun k _ => tqmDepart_egress s k).trans (exchangeMissing_steady _)) (.refl s)

/-- TSU at a departure: no hold is left taken. -/
theorem tsuDepart_free (out : TestOutcome) (s : State) :
    (s.tsu.kindly → (tsuDepart out s).tsu.kindly) ∧ (tsuDepart out s).tsu.taken = false
      ∧ ∀ k, (s.tqm.get k).egress = none → ((tsuDepart out s).tqm.get k).egress = none := by
  have hend : ∀ out, _ := fun out => endRunning_free out s
  unfold tsuDepart
  split
  · obtain ⟨hk, ht, hq⟩ := hend (.aborted .linkLost); exact ⟨fun _ => hk, ht, hq⟩
  · obtain ⟨hk, ht, hq⟩ := hend _; exact ⟨fun _ => hk, ht, hq⟩
  · next hair hloop =>
    refine ⟨id, ?_, fun _ => id⟩
    rw [← loopProgress_held]
    cases hp : s.loopProgress with
    | none => rfl
    | some p =>
      obtain ⟨o, hr⟩ := loopProgress_some.mp hp
      exact absurd hr (hloop o p)

/-- The link departs from the state of `s` into that of `d`, which is not HELD. -/
theorem Sound.departs {s d : State} (hs : s.holdFits) (hh : d.lkc.state.isHeld = false) (hf : d.lkc.commandFits = true)
    (hk : s.tsu.kindly → d.tsu.kindly) (ht : d.tsu.taken = s.tsu.taken) (hq : d.tqm = s.tqm) (out : TestOutcome) :
    Sound s (depart s.lkc.state out d) := by
  unfold depart
  cases hc : s.lkc.state.carries with
  | false => exact (Sound.entry hs hc hh hf hk ht fun _ => hq ▸ id).firm (bringup_steady d).toFirm
  | true =>
    rw [if_pos rfl]
    have hqueues := departQueues_steady s.lkc.state d
    obtain ⟨hkind, htaken, hegress⟩ := tsuDepart_free out (departQueues s.lkc.state d)
    obtain ⟨hskind, -, -⟩ := (holdFits_iff s).mp hs
    have hleft : Sound s (tsuDepart out (departQueues s.lkc.state d)) :=
      { fits := (holdFits_iff _).mpr ⟨hkind (hqueues.kind (hk hskind)), by simpa using hf, by rw [htaken]; simpa using hh⟩
        egress := fun _ _ k => hegress k (departQueues_egress hc d k) }
    exact hleft.firm (bringup_steady _).toFirm

theorem judgeLooped_taken (s : State) : (s.tsu.kindly → (judgeLooped s).tsu.kindly) ∧ (judgeLooped s).tsu.taken = s.tsu.taken :=
  have h := countLooped_steady ((s.lkc.looped.map Awaiting.pb).sum) s
  ⟨h.kind, h.taken⟩

theorem releaseHold_taken (s : State) : (s.tsu.kindly → (releaseHold s).tsu.kindly) ∧ (releaseHold s).tsu.taken = s.tsu.taken := by
  unfold releaseHold
  split
  · exact judgeLooped_taken ((emitOdu .loopOff s).updLkc fun l => { l.abandon with late := l.abandon.late.upd .loopOff (· + 1) })
  · exact ⟨id, rfl⟩

theorem discoveryEntry_taken (s : State) :
    (s.tsu.kindly → (discoveryEntry s).tsu.kindly) ∧ (discoveryEntry s).tsu.taken = s.tsu.taken := by
  simpa [discoveryEntry] using releaseHold_taken s

theorem discoveryEntry_state (s : State) :
    (discoveryEntry s).lkc.state = .discovery .identify 1 ∧ (discoveryEntry s).lkc.rung = 0 ∧ (discoveryEntry s).lkc.commandFits = true := by
  obtain ⟨-, hlkc⟩ := discoveryEntry_lkc s
  rw [hlkc]
  exact ⟨rfl, rfl, rfl⟩

theorem enterDiscovery_sound {s : State} (hs : s.holdFits) : Sound s (enterDiscovery s) := by
  obtain ⟨hstate, -, hfits⟩ := discoveryEntry_state s
  obtain ⟨hkind, htaken⟩ := discoveryEntry_taken s
  exact .departs hs (by rw [hstate]; rfl) hfits hkind htaken (by simp) _

theorem enterLost_sound {s : State} (x : LossCause) (hs : s.holdFits) : Sound s (enterLost x s) :=
  .departs hs (by simp [LinkState.isHeld]) (by simp [Lkc.commandFits]) (by simp) (by simp) (by simp) _

/-! ### Discovery -/

/-- The link state that sent a command of discovery. -/
theorem discovery_of_fits {l : Lkc} {o : Outstanding} (hf : l.commandFits = true) (ho : l.outstanding = some o)
    (hc : o.cmd = .identify ∨ o.cmd = .readPage) : ∃ step n, l.state = .discovery step n := by
  cases hl : l.state with
  | discovery step n => exact ⟨step, n, rfl⟩
  | off | acquiring | up | held | lost => obtain hc | hc := hc <;> simp [Lkc.commandFits, ho, hc, hl] at hf

theorem held_of_fits {l : Lkc} {o : Outstanding} (hf : l.commandFits = true) (ho : l.outstanding = some o) :
    (o.cmd = .loopOn → l.state = .held .loopEntry) ∧ (o.cmd = .loopOff → l.state = .held .loopExit) := by
  unfold Lkc.commandFits at hf
  rw [ho] at hf
  dsimp only at hf
  split at hf <;> simp_all

theorem enterAcquiring_sound {s t : State} (hs : s.holdFits) (hc : s.lkc.state.carries = false) (ho : t.tsu = s.tsu) (hq : t.tqm = s.tqm) :
    Sound s (enterAcquiring t) :=
  .entryBringup hs hc (by simp [LinkState.isHeld]) (by simp [Lkc.commandFits]) (by simp [ho]) (by simp [hq])

theorem failDiscovery_sound {s t : State} (hs : s.holdFits) (hc : s.lkc.state.carries = false) (ho : t.tsu = s.tsu) (hq : t.tqm = s.tqm)
    (r : OffReason) : Sound s (failDiscovery r t) :=
  .entryBringup hs hc (by simp [LinkState.isHeld]) (by simp [Lkc.commandFits]) (by simp [ho]) (by simp [hq])

theorem installLadder_sound {s t : State} (hs : s.holdFits) (hc : s.lkc.state.carries = false) (ho : t.tsu = s.tsu) (hq : t.tqm = s.tqm)
    (built : Option (Ladder × LadderSource)) : Sound s (installLadder built t) := by
  unfold installLadder
  split
  · split
    · exact enterAcquiring_sound hs hc ho hq
    · exact failDiscovery_sound hs hc ho hq _
  · exact failDiscovery_sound hs hc ho hq _

/-- A ladder is built from a page's reply or from the profiles alone, and installed. -/
theorem buildLadder_installs (page : Option CapabilityPage) (s : State) : ∃ built, buildLadder page s = installLadder built s := by
  unfold buildLadder
  dsimp only
  split
  · split <;> exact ⟨_, rfl⟩
  · exact ⟨_, rfl⟩

theorem buildLadder_sound {s t : State} (hs : s.holdFits) (hc : s.lkc.state.carries = false) (ho : t.tsu = s.tsu) (hq : t.tqm = s.tqm)
    (page : Option CapabilityPage) : Sound s (buildLadder page t) := by
  obtain ⟨built, h⟩ := buildLadder_installs page t
  rw [h]
  exact installLadder_sound hs hc ho hq built

/-- A command of discovery sent, with the link in the step that sends it. -/
theorem sendDiscovery_sound {s t : State} {c : OduCommand} {step : DiscoveryStep} {n : Nat} (hs : s.holdFits)
    (hc : s.lkc.state.carries = false) (hstate : t.lkc.state = .discovery step n)
    (hcmd : (step = .identify ∧ c = .identify) ∨ (step = .readPage ∧ c = .readPage)) (ho : t.tsu = s.tsu) (hq : t.tqm = s.tqm)
    (limit : Nat) : Sound s (sendOdu c limit t) := by
  refine .entry hs hc ?_ ?_ (by simp [ho]) (by simp [ho]) (by simp [hq])
  · rw [sendOdu_lkc, hstate]; rfl
  · rw [sendOdu_lkc]
    unfold Lkc.commandFits
    obtain ⟨rfl, rfl⟩ | ⟨rfl, rfl⟩ := hcmd <;> simp [hstate]

theorem commandDue_some {s : State} {c : OduCommand} (h : s.commandDue c = true) :
    ∃ o, s.lkc.outstanding = some o ∧ o.cmd = c ∧ o.limit ≤ o.elapsed := by
  unfold State.commandDue at h
  split at h
  · next o ho => exact ⟨o, ho, of_decide_eq_true h⟩
  · cases h

theorem answers_some {s : State} {c : OduCommand} {n : Nat} (h : s.answers c n = true) :
    ∃ o, s.lkc.outstanding = some o ∧ o.cmd = c ∧ o.number = n := by
  obtain ⟨o, ho, hc⟩ := Option.map_eq_some_iff.mp (of_decide_eq_true h)
  exact ⟨o, ho, (Prod.mk.inj hc).1, (Prod.mk.inj hc).2⟩

theorem awaits_some {s : State} {c : OduCommand} (h : s.awaits c = true) : ∃ o, s.lkc.outstanding = some o ∧ o.cmd = c := by
  obtain ⟨o, ho, hc⟩ := Option.map_eq_some_iff.mp (of_decide_eq_true h)
  exact ⟨o, ho, hc⟩

/-- In discovery the link is neither UP nor HELD. -/
theorem discovery_carries {s : State} {o : Outstanding} (hs : s.holdFits) (ho : s.lkc.outstanding = some o)
    (hc : o.cmd = .identify ∨ o.cmd = .readPage) : s.lkc.state.carries = false := by
  obtain ⟨-, hfits, -⟩ := (holdFits_iff s).mp hs
  obtain ⟨step, n, h⟩ := discovery_of_fits hfits ho hc
  rw [h]
  rfl

/-- All that an attempt ended unanswered can be: another, the last, or none where the link is not in discovery (R25, R26). -/
theorem retryDiscovery_cases (step : DiscoveryStep) (c : OduCommand) (last : State → State) (s : State) :
    (∃ st n, s.lkc.state = .discovery st n ∧ n < 3
        ∧ retryDiscovery step c last s = sendOdu c Config.discoveryLimit (s.updLkc fun l => { l with state := .discovery step (n + 1) }))
      ∨ (∃ st n, s.lkc.state = .discovery st n ∧ 3 ≤ n ∧ retryDiscovery step c last s = last (endCommand s))
      ∨ ((∀ st n, s.lkc.state ≠ .discovery st n) ∧ retryDiscovery step c last s = s) := by
  unfold retryDiscovery
  split
  · next st n h =>
    by_cases hn : n < 3
    · exact .inl ⟨st, n, h, hn, if_pos hn⟩
    · exact .inr (.inl ⟨st, n, h, by omega, if_neg hn⟩)
  · next h => exact .inr (.inr ⟨h, rfl⟩)

theorem retryDiscovery_sound {s : State} {step : DiscoveryStep} {c : OduCommand} {last : State → State} (hs : s.holdFits)
    (hc : s.lkc.state.carries = false) (hcmd : (step = .identify ∧ c = .identify) ∨ (step = .readPage ∧ c = .readPage))
    (hlast : Sound s (last (endCommand s))) : Sound s (retryDiscovery step c last s) := by
  obtain ⟨st, n, -, -, h⟩ | ⟨st, n, -, -, h⟩ | ⟨-, h⟩ := retryDiscovery_cases step c last s <;> rw [h]
  · exact sendDiscovery_sound (t := s.updLkc fun l => { l with state := .discovery step (n + 1) }) hs hc rfl hcmd rfl rfl _
  · exact hlast
  · exact (Firm.refl s).sound hs

/-! ### Reports and far frames -/

theorem rungDecision_steady (m : Int) (s : State) : Steady s (rungDecision m s) := by
  have hdown : ∀ l : Lkc, ∀ target cause, (l.decideDown target cause).rung = l.rung ∧ (l.decideDown target cause).state = l.state
      ∧ (l.decideDown target cause).outstanding = l.outstanding := by
    intro l target cause
    unfold Lkc.decideDown
    repeat' split
    all_goals exact ⟨rfl, rfl, rfl⟩
  have hup : ∀ l : Lkc, l.stepUp.rung = l.rung ∧ l.stepUp.state = l.state ∧ l.stepUp.outstanding = l.outstanding := by
    intro l
    unfold Lkc.stepUp
    split <;> exact ⟨rfl, rfl, rfl⟩
  have hdecides : ∀ target cause, Steady s (s.updLkc fun l => l.decideDown target cause) := fun target cause =>
    have ⟨hr, hs, ho⟩ := hdown s.lkc target cause
    .lkc _ s hr hs ho
  have ⟨hr, hs, ho⟩ := hup s.lkc
  exact .ite (hdecides _ _) (.ite (hdecides _ _) (.ite (.lkc _ s hr hs ho) (.lkc _ s rfl rfl rfl)))

/-- The effective margin of a report in the state (R48, R50). -/
def State.marginOf (s : State) (m : Int) : Int := s.lkc.effectiveOf (clampMargin m)

/-- The figures a report in UP leaves in the link record (R37, R48, R50). -/
def reported (m : Int) (s : State) : State :=
  s.updLkc fun l =>
    { l with near := some (clampMargin m), effective := some (s.marginOf m),
             lowRun := if s.belowDown 0 (s.marginOf m) then s.lkc.lowRun + 1 else 0 }

/-- Whether a report loses the link: the run stands at the loss limit already, or the report brings it there (R37). -/
def State.marginLost (s : State) (m : Int) : Prop :=
  s.lkc.lossLimit ≤ s.lkc.lowRun ∨ (s.belowDown 0 (s.marginOf m) = true ∧ s.lkc.lossLimit ≤ s.lkc.lowRun + 1)

theorem takeReport_eq (m : Int) (s : State) :
    takeReport m s
      = if s.lkc.state = .up then
          if decide (s.lkc.lossLimit ≤ s.lkc.lowRun)
              || (s.belowDown 0 (s.marginOf m) && decide (s.lkc.lossLimit ≤ if s.belowDown 0 (s.marginOf m) then s.lkc.lowRun + 1 else 0)) then
            enterLost .margin (reported m s)
          else rungDecision (s.marginOf m) (reported m s)
        else s := rfl

/-- All that a report can do: nothing outside UP; in UP the figures are taken, and the link is lost or the rung decided. -/
theorem takeReport_cases (m : Int) (s : State) :
    (s.lkc.state ≠ .up ∧ takeReport m s = s)
      ∨ (s.lkc.state = .up ∧ s.marginLost m ∧ takeReport m s = enterLost .margin (reported m s))
      ∨ (s.lkc.state = .up ∧ ¬s.marginLost m ∧ takeReport m s = rungDecision (s.marginOf m) (reported m s)) := by
  have hlost : s.marginLost m ↔ (decide (s.lkc.lossLimit ≤ s.lkc.lowRun)
      || (s.belowDown 0 (s.marginOf m) && decide (s.lkc.lossLimit ≤ if s.belowDown 0 (s.marginOf m) then s.lkc.lowRun + 1 else 0))) = true := by
    unfold State.marginLost
    cases s.belowDown 0 (s.marginOf m) <;> simp
  rw [takeReport_eq]
  by_cases h : s.lkc.state = .up
  · rw [if_pos h]
    by_cases hl : s.marginLost m
    · exact .inr (.inl ⟨h, hl, if_pos (hlost.mp hl)⟩)
    · exact .inr (.inr ⟨h, hl, if_neg (hl ∘ hlost.mpr)⟩)
  · exact .inl ⟨h, if_neg h⟩

theorem takeReport_sound (m : Int) {s : State} (hs : s.holdFits) : Sound s (takeReport m s) := by
  have htaken : Sound s (reported m s) := (Steady.lkc _ s rfl rfl rfl).sound hs
  obtain ⟨-, h⟩ | ⟨-, -, h⟩ | ⟨-, -, h⟩ := takeReport_cases m s <;> rw [h]
  · exact (Firm.refl s).sound hs
  · exact htaken.trans (enterLost_sound _ htaken.fits)
  · exact htaken.firm (rungDecision_steady _ _).toFirm

theorem missFrame_sound {s : State} (hs : s.holdFits) : Sound s (missFrame s) := by
  have hmissed := (Steady.lkc
    (fun l => { l with syncMiss := l.syncMiss + 1, losses := { l.losses with unsynced := satInc l.losses.unsynced } }) s rfl rfl rfl).sound hs
  unfold missFrame
  dsimp only
  split
  · exact hmissed.trans (enterLost_sound _ hmissed.fits)
  · exact hmissed

/-- A synced far frame in UP, its tenant segments taken and its reply and report still to come (R36). -/
def farTaken (f : FarFrame) (s : State) : State :=
  takeSegments f.segments (s.updLkc fun l => { l with syncMiss := 0, far := some ⟨clampMargin f.margin, 0⟩, farPattern := f.pattern })

theorem handOn_steady (f : FarFrame) (s : State) : Steady (farTaken f s) (handOn f s) := by
  have hreply : Steady (farTaken f s) (match f.reply with
      | some r => takeReply r (farTaken f s)
      | none => farTaken f s) := by
    split
    · exact takeReply_steady _ _
    · exact .refl _
  unfold handOn
  dsimp only
  change Steady (farTaken f s) (match f.report with
    | some r => airReport r (match f.reply with
      | some r => takeReply r (farTaken f s)
      | none => farTaken f s)
    | none => (match f.reply with
      | some r => takeReply r (farTaken f s)
      | none => farTaken f s))
  split
  · exact hreply.trans (airReport_steady _ _)
  · exact hreply

theorem handOn_sound (f : FarFrame) {s : State} (hs : s.holdFits) (hup : s.lkc.state = .up) : Sound s (handOn f s) := by
  obtain ⟨hkind, hfits, hheld⟩ := (holdFits_iff s).mp hs
  have hlink : (farTaken f s).lkc.state = .up := by simp [farTaken, hup]
  have htaken : Sound s (farTaken f s) :=
    { fits := (holdFits_iff _).mpr (by simpa [farTaken, Lkc.commandFits] using ⟨hkind, hfits, hheld⟩)
      egress := fun _ h => absurd hlink h }
  exact htaken.firm (handOn_steady f s).toFirm

/-- In ACQUIRING, OFF and LOST no command is outstanding. -/
theorem outstanding_of_fits {l : Lkc} (hf : l.commandFits = true) (hd : ∀ step n, l.state ≠ .discovery step n) (hh : l.state.isHeld = false) :
    l.outstanding = none := by
  unfold Lkc.commandFits at hf
  split at hf
  · assumption
  · split at hf <;> simp_all [LinkState.isHeld]

theorem enterUp_sound {s : State} (hs : s.holdFits) (ha : s.lkc.state = .acquiring) : Sound s (enterUp s) := by
  obtain ⟨-, hfits, -⟩ := (holdFits_iff s).mp hs
  have hnone := outstanding_of_fits hfits (by simp [ha]) (by simp [ha, LinkState.isHeld])
  exact .entryBringup hs (by rw [ha]; rfl) (by simp [LinkState.isHeld]) (by simp [Lkc.commandFits, hnone]) (by simp) (by simp)

theorem enterUp_lkc (s : State) :
    (enterUp s).lkc
      = { s.lkc with state := .up, rung := 0, notice := none, voided := none, upCount := 0, syncMiss := 0, lowRun := 0 } := by simp [enterUp]

theorem takeFarFrame_sound (f : FarFrame) {s : State} (hs : s.holdFits) : Sound s (takeFarFrame f s) := by
  have hrefl := (Firm.refl s).sound hs
  unfold takeFarFrame
  split
  · next h =>
    split
    · have hup := enterUp_sound hs h
      exact hup.trans (handOn_sound f hup.fits (by rw [enterUp_lkc]))
    · exact hrefl
  · next h =>
    split
    · exact handOn_sound f hs h
    · exact missFrame_sound hs
  · exact hrefl

end Sys2Proof.Machine

namespace Sys2Proof.Machine

open Sys2Proof

/-! ### Frame fills -/

/-- The link record at a fill in UP or HELD: the next frame, the far margin one frame older (R34, R49). -/
def nextFill (s : State) : State := s.updLkc fun l => l.nextFrame.ageFar

/-- All that a fill can do, by the link state (R34, R40). -/
theorem fillFrame_cases (s : State) :
    (s.lkc.state = .acquiring ∧ fillFrame s =
        if s.holdRequested then endRunning (.aborted .linkLost) (pushFrame false 0 [] (s.updLkc Lkc.nextFrame))
        else pushFrame false 0 [] (s.updLkc Lkc.nextFrame))
      ∨ (s.lkc.state = .up ∧ s.holdRequested = true ∧ fillFrame s = reportRung s.lkc.rung (fillHeld (fixRung (enterHold (nextFill s)))))
      ∨ (s.lkc.state = .up ∧ s.holdRequested = false ∧ fillFrame s = reportRung s.lkc.rung (fillUp (fixRung (nextFill s))))
      ∨ (s.lkc.state.isHeld = true ∧ fillFrame s = reportRung s.lkc.rung (fillHeld (fixRung (ageLooped (nextFill s)))))
      ∨ (s.lkc.state ≠ .acquiring ∧ s.lkc.state ≠ .up ∧ s.lkc.state.isHeld = false ∧ fillFrame s = s) := by
  unfold fillFrame
  split
  · next h => exact .inl ⟨h, rfl⟩
  · next h =>
    cases hh : s.holdRequested
    · exact .inr (.inr (.inl ⟨h, rfl, rfl⟩))
    · exact .inr (.inl ⟨h, rfl, rfl⟩)
  · next h => exact .inr (.inr (.inr (.inl ⟨by rw [h]; rfl, rfl⟩)))
  · next ha hu hh =>
    refine .inr (.inr (.inr (.inr ⟨ha, hu, ?_, rfl⟩)))
    cases hs : s.lkc.state with
    | held ph => exact absurd hs (hh ph)
    | off | discovery | acquiring | up | lost => rfl

/-- Whether a command fits goes by the link state and by which command it is. -/
theorem commandFits_congr {l m : Lkc} (hs : m.state = l.state) (hc : m.outstanding.map Outstanding.cmd = l.outstanding.map Outstanding.cmd) :
    m.commandFits = l.commandFits := by
  have heach : ∀ l : Lkc, l.commandFits = match l.outstanding.map Outstanding.cmd with
      | none => true
      | some c => Lkc.commandFits { l with outstanding := some ⟨c, 0, 0, 0⟩ } := fun l => by
    unfold Lkc.commandFits
    cases l.outstanding <;> rfl
  rw [heach, heach l, hc]
  split
  · rfl
  · simp [Lkc.commandFits, hs]

theorem nextFrame_fits {l : Lkc} : l.nextFrame.commandFits = l.commandFits := by
  refine commandFits_congr rfl ?_
  unfold Lkc.nextFrame
  cases l.outstanding with
  | none => rfl
  | some o => simp only [Option.map_some]; split <;> rfl

theorem nextFill_steady (s : State) : Steady s (nextFill s) := ⟨.lkc _ s rfl nextFrame_fits.trans, rfl⟩

theorem pushFrame_steady (b : Bool) (p : Nat) (g : List Segment) (s : State) : Steady s (pushFrame b p g s) := by
  unfold pushFrame
  exact .lkc _ s rfl rfl rfl

/-- The rung fixed (R57, R58): the notice due takes effect, or the rung stands. -/
theorem fixRung_rung (s : State) :
    (s.lkc.noticeDue s.lkc.frame = none ∧ (fixRung s).lkc.rung = s.lkc.rung)
      ∨ ∃ n, s.lkc.noticeDue s.lkc.frame = some n ∧ (fixRung s).lkc.rung = n.target := by
  unfold fixRung
  cases hd : s.lkc.noticeDue s.lkc.frame with
  | none => exact .inl ⟨rfl, rfl⟩
  | some n => exact .inr ⟨n, rfl, by rw [takeEffect_lkc]⟩

theorem fixRung_firm (s : State) : Firm s (fixRung s) := by
  have hlkc : (fixRung s).lkc.state = s.lkc.state ∧ (fixRung s).lkc.outstanding = s.lkc.outstanding := by
    unfold fixRung
    split
    · rw [takeEffect_lkc]; exact ⟨rfl, rfl⟩
    · exact ⟨rfl, rfl⟩
  obtain ⟨hstate, ho⟩ := hlkc
  exact ⟨congrArg LinkState.isHeld hstate, hstate.trans, by simp [Lkc.commandFits, hstate, ho], by simp, by simp, by simp⟩

theorem announce_keeps (l : Lkc) : l.announce = { l with notice := l.announce.notice } := by
  unfold Lkc.announce
  split <;> rfl

theorem fillUp_steady (s : State) : Steady s (fillUp s) := by
  have hannounce : Steady s (s.updLkc Lkc.announce) :=
    .lkc _ s (by rw [announce_keeps]) (by rw [announce_keeps]) (by rw [announce_keeps])
  exact ((((hannounce.trans (passAndDrain_steady _)).trans (airFill_steady _ _ _)).trans (placeRequest_steady _ _)).trans
    (pushFrame_steady _ _ _ _)).trans (judgeAir_steady _)

theorem fillHeld_steady (s : State) : Steady s (fillHeld s) := by
  unfold fillHeld
  split
  · next h =>
    dsimp only
    have hcount := updLoop_steady (fun p => { p with looped := p.looped + 1, sent := p.sent + (s.capacity s.lkc.rung - Config.controlReserve) })
      s fun _ => rfl
    have hpush := (hcount.trans (pushFrame_steady false (s.capacity s.lkc.rung - Config.controlReserve) [] _)).trans
      (.lkc (fun l => { l with looped := l.looped ++ [⟨l.frame, s.capacity s.lkc.rung - Config.controlReserve, 0⟩] }) _ rfl rfl rfl)
    refine .ite (hpush.trans (enterLoopExit_steady ?_)) hpush
    rw [hpush.held, h]
    rfl
  · exact pushFrame_steady _ _ _ s

theorem ageLooped_steady (s : State) : Steady s (ageLooped s) := by
  unfold ageLooped
  exact (Steady.ite (.refl s) (countLooped_steady _ s)).trans (.lkc _ _ rfl rfl rfl)

theorem reportRung_steady (n : Nat) (s : State) : Steady s (reportRung n s) := .ite (.refl s) (tmuRungChange_steady _ s)

theorem updLoop_eq {s : State} {o : Order} {p : LoopProgress} (h : s.tsu.running = some ⟨o, .linkLoop p⟩) (f : LoopProgress → LoopProgress) :
    updLoop f s = s.updTsu fun t => { t with running := some ⟨o, .linkLoop (f p)⟩ } := by
  have hp : s.loopProgress = some p := loopProgress_some.mpr ⟨o, h⟩
  simp [updLoop, hp, setProgress, State.updTsu, h]

theorem holdRequested_some {s : State} (h : s.holdRequested = true) : ∃ o p, s.tsu.running = some ⟨o, .linkLoop p⟩ ∧ p.held = false := by
  unfold State.holdRequested at h
  split at h
  · next p hp =>
    obtain ⟨o, hr⟩ := loopProgress_some.mp hp
    exact ⟨o, p, hr, by simpa using h⟩
  · cases h

/-- The hold taken, before its departure is told on (R40). -/
def holdTaken (s : State) : State :=
  linkStateEvent (updLoop (fun p => { p with held := true })
    (s.updLkc fun l => { l with state := .held (.holdPending l.unsent.length false), upCount := 0, syncMiss := 0, lowRun := 0 }))

theorem enterHold_eq (s : State) :
    enterHold s = if s.lkc.unsent = [] then leavePending false (bringup (departQueues .up (holdTaken s)))
      else bringup (departQueues .up (holdTaken s)) := rfl

theorem holdTaken_lkc (s : State) :
    (holdTaken s).lkc
      = { s.lkc with state := .held (.holdPending s.lkc.unsent.length false), upCount := 0, syncMiss := 0, lowRun := 0 } := by
  simp [holdTaken]

theorem enterHold_lkc (s : State) :
    (enterHold s).lkc
      = if s.lkc.unsent = [] then
          { s.lkc with
            state := .held .loopEntry, upCount := 0, syncMiss := 0, lowRun := 0, sent := s.lkc.sent + 1,
            outstanding := some ⟨.loopOn, 0, s.lkc.confirmLimit, s.lkc.sent⟩ }
        else { s.lkc with state := .held (.holdPending s.lkc.unsent.length false), upCount := 0, syncMiss := 0, lowRun := 0 } := by
  rw [enterHold_eq]
  split
  · rw [leavePending_lkc, (bringup_frame _).2.1, (departQueues_frame _ _).2.1, holdTaken_lkc]
  · rw [(bringup_frame _).2.1, (departQueues_frame _ _).2.1, holdTaken_lkc]

theorem enterHold_sound {s : State} (hs : s.holdFits) (hup : s.lkc.state = .up) (hreq : s.holdRequested = true) : Sound s (enterHold s) := by
  obtain ⟨hkind, hfits, -⟩ := (holdFits_iff s).mp hs
  obtain ⟨o, p, hr, hheld⟩ := holdRequested_some hreq
  have hnone := outstanding_of_fits hfits (by simp [hup]) (by simp [hup, LinkState.isHeld])
  have hrun : (holdTaken s).tsu.running = some ⟨o, .linkLoop { p with held := true }⟩ := by
    simp [holdTaken, updLoop_eq (s := State.updLkc s _) hr]
  have hqueues := departQueues_steady .up (holdTaken s)
  have hlkc := holdTaken_lkc s
  have hofKind := (ofKind_congr o (p := .linkLoop { p with held := true }) (q := .linkLoop p) rfl).trans (hkind _ hr)
  have hleft : Sound s (departQueues .up (holdTaken s)) :=
    { fits := (holdFits_iff _).mpr ⟨hqueues.kind ((kindly_some hrun).mpr hofKind),
        hqueues.fits (by rw [hlkc]; simp [Lkc.commandFits, hnone]), by rw [hqueues.held, hqueues.taken, hlkc, taken_some hrun]; rfl⟩
      egress := fun _ _ k => departQueues_egress rfl _ k }
  have hbrought := hleft.firm (bringup_steady _).toFirm
  rw [enterHold_eq]
  split
  · exact hbrought.firm (leavePending_steady (by simp [hlkc, LinkState.isHeld]) false).toFirm
  · exact hbrought

theorem fillFrame_sound {s : State} (hs : s.holdFits) : Sound s (fillFrame s) := by
  have hnext := nextFill_steady s
  obtain ⟨ha, h⟩ | ⟨hup, hreq, h⟩ | ⟨-, -, h⟩ | ⟨-, h⟩ | ⟨-, -, -, h⟩ := fillFrame_cases s <;> rw [h]
  · have hpush : Steady s (pushFrame false 0 [] (s.updLkc Lkc.nextFrame)) :=
      Steady.trans ⟨.lkc _ s rfl nextFrame_fits.trans, rfl⟩ (pushFrame_steady _ _ _ _)
    refine (Steady.ite (hpush.trans (endRunning_steady _ ?_)) hpush).sound hs
    obtain ⟨-, -, hheld⟩ := (holdFits_iff s).mp hs
    rw [hpush.taken, ← hheld, ha]
    rfl
  · have hheld := enterHold_sound (hnext.sound hs).fits hup hreq
    exact (((hnext.sound hs).trans hheld).firm (fixRung_firm _)).firm ((fillHeld_steady _).trans (reportRung_steady _ _)).toFirm
  · exact ((hnext.sound hs).firm (fixRung_firm _)).firm ((fillUp_steady _).trans (reportRung_steady _ _)).toFirm
  · exact (((hnext.trans (ageLooped_steady _)).sound hs).firm (fixRung_firm _)).firm ((fillHeld_steady _).trans (reportRung_steady _ _)).toFirm
  · exact (Firm.refl s).sound hs

end Sys2Proof.Machine

namespace Sys2Proof.Machine

open Sys2Proof

/-! ### The passing of local time -/

theorem enqueueIf_steady (b : Bool) (c : Instr) (s : State) : Steady s (s.enqueueIf b c) := by
  cases b <;> exact .of_same rfl rfl rfl

theorem ppsTimersDue_steady (s : State) (k : Slot) : Steady s (ppsTimersDue s k) :=
  (enqueueIf_steady _ _ s).trans (.foldl _ (fun t _ => enqueueIf_steady true (.ppsDelayedEmission k) t) _ _)

theorem expiriesDue_steady (s : State) : Steady s (expiriesDue s) :=
  ((((((((enqueueIf_steady _ _ s).trans (enqueueIf_steady _ _ _)).trans (enqueueIf_steady _ _ _)).trans (enqueueIf_steady _ _ _)).trans
    (enqueueIf_steady _ _ _)).trans (.foldl _ ppsTimersDue_steady allSlots _)).trans (enqueueIf_steady _ _ _)).trans
    (enqueueIf_steady _ _ _)).trans (enqueueIf_steady _ _ _)

theorem advanceTime_steady (s : State) : Steady s (advanceTime s) := .of_same rfl rfl rfl

theorem tickCommand_fits (l : Lkc) : l.tickCommand.commandFits = l.commandFits := by
  refine commandFits_congr rfl ?_
  unfold Lkc.tickCommand
  cases l.outstanding with
  | none => rfl
  | some o => simp only [Option.map_some]; split <;> rfl

/-- The backoff timer counts in LOST, which has no command outstanding. -/
theorem tickBackoff_steady (s : State) : Steady s (s.updLkc Lkc.tickBackoff) := by
  cases hl : s.lkc.state with
  | lost n =>
    have htick : s.lkc.tickBackoff = { s.lkc with state := .lost (min Config.backoffLimit (n + 1)) } := by simp [Lkc.tickBackoff, hl]
    refine ⟨⟨?_, ?_, fun hf => ?_, id, rfl, fun _ => id⟩, ?_⟩
    · simp [htick, hl, LinkState.isHeld]
    · simp [hl]
    · simp [htick, Lkc.commandFits, outstanding_of_fits hf (by simp [hl]) (by simp [hl, LinkState.isHeld])]
    · simp [htick]
  | off | discovery | acquiring | up | held =>
    have htick : s.lkc.tickBackoff = s.lkc := by simp [Lkc.tickBackoff, hl]
    exact .lkc _ s (by rw [htick]) (by rw [htick]) (by rw [htick])

/-- The loop timer counts for a PORT_LOOP. -/
theorem tsuTick_steady (s : State) : Steady s (s.updTsu Tsu.tickMs) := by
  by_cases h : ∃ o p, s.tsu.running = some ⟨o, .portLoop p⟩
  · obtain ⟨o, p, hr⟩ := h
    have hrun : (s.updTsu Tsu.tickMs).tsu.running
        = some ⟨o, .portLoop { p with timer := min Config.portLoopLimit (p.timer + 1) }⟩ := by
      simp [Tsu.tickMs, hr]
    refine .of_link rfl (fun hk => ?_) ?_ fun _ => id
    · exact (kindly_some hrun).mpr ((ofKind_iff _).mpr ((ofKind_iff _).mp ((kindly_some hr).mp hk) :))
    · rw [taken_some hrun, taken_some hr]; rfl
  · have htick : s.tsu.tickMs = s.tsu := by
      unfold Tsu.tickMs
      split
      · next o p hr => exact absurd ⟨o, p, hr⟩ h
      · rfl
    exact .of_same rfl (by simp [htick]) rfl

theorem countMs_steady (s : State) : Steady s (countMs s) := by
  have hcommand : Steady s (s.updLkc Lkc.tickCommand) := ⟨.lkc _ s rfl (tickCommand_fits _).trans, rfl⟩
  exact (((hcommand.trans (tickBackoff_steady _)).trans (.tmu Tmu.tickMs _)).trans (tsuTick_steady _)).trans (.of_same rfl rfl rfl)

theorem tick_steady (s : State) : Steady s (tick s) := by
  have hwait : ∀ n, Steady (advanceTime s) { advanceTime s with subMs := n } := fun _ => .of_same rfl rfl rfl
  have hms := ((hwait 0).trans (countMs_steady _)).trans (expiriesDue_steady _)
  unfold tick
  dsimp only
  exact (((advanceTime_steady s).trans (.ite hms (hwait _))).trans (enqueueIf_steady _ _ _)).trans (enqueueIf_steady _ _ _)

/-! ### The commands of the hold -/

/-- Each branch has its condition. -/
theorem Leaves.cond {P : State → Prop} {c : Prop} [Decidable c] {r r' : Result} (h1 : c → Leaves r P) (h2 : ¬c → Leaves r' P) :
    Leaves (if c then r else r') P := by
  split
  · next h => exact h1 h
  · next h => exact h2 h

/-- A late confirmation, or one taken from the command outstanding, from which it goes on. -/
theorem takeConfirm_sound {s : State} {c : OduCommand} {answered : State → State} (hs : s.holdFits)
    (h : ∀ o, s.lkc.outstanding = some o → o.cmd = c → ∀ t : State, t.holdFits → t.lkc.outstanding = some o → Sound t (answered t)) :
    Sound s (takeConfirm c answered s) := by
  obtain ⟨l, htaken⟩ := takeConfirm_cases s c answered
  have hlate : Sound s (s.updLkc fun k => { k with late := l }) := (Steady.lkc _ s rfl rfl rfl).sound hs
  obtain htaken | ⟨hawaits, htaken⟩ := htaken <;> rw [htaken]
  · exact hlate
  · obtain ⟨o, ho, hc⟩ := awaits_some hawaits
    exact hlate.trans (h o ho hc _ hlate.fits ho)

theorem loopEntry_of_fits {s : State} {o : Outstanding} (hs : s.holdFits) (ho : s.lkc.outstanding = some o) (hc : o.cmd = .loopOn) :
    s.lkc.state = .held .loopEntry := by
  obtain ⟨-, hfits, -⟩ := (holdFits_iff s).mp hs
  exact (held_of_fits hfits ho).1 hc

theorem loopExit_of_fits {s : State} {o : Outstanding} (hs : s.holdFits) (ho : s.lkc.outstanding = some o) (hc : o.cmd = .loopOff) :
    s.lkc.state = .held .loopExit := by
  obtain ⟨-, hfits, -⟩ := (holdFits_iff s).mp hs
  exact (held_of_fits hfits ho).2 hc

/-- LOOP_ON confirmed: LOOPING (R41). -/
def loopingEntered (s : State) : State := (endCommand s).updLkc fun l => { l with state := .held .looping }

theorem loopingEntered_steady {s : State} (h : s.lkc.state.isHeld = true) : Steady s (loopingEntered s) := .phase h rfl rfl rfl rfl rfl

theorem loopOnConfirmed_sound {s : State} (hs : s.holdFits) : Leaves (execLoopOnConfirmed s) (Sound s) :=
  .next (takeConfirm_sound (answered := loopingEntered) hs fun o ho hc t ht hto =>
    (loopingEntered_steady (by rw [loopEntry_of_fits ht hto hc]; rfl)).sound ht)

theorem loopOnLimit_sound {s : State} (hs : s.holdFits) : Leaves (execLoopOnLimit s) (Sound s) := by
  refine .cond (fun hdue => .next ?_) fun _ => .next ((Firm.refl s).sound hs)
  obtain ⟨o, ho, hc, -⟩ := commandDue_some hdue
  have hdecided := decideLoop_steady .timeout s
  exact (hdecided.trans (enterLoopExit_steady (by rw [hdecided.held, loopEntry_of_fits hs ho hc]; rfl))).sound hs

/-- UP again after a hold, before TSU judges the order (R42). -/
def holdEnded (s : State) : State :=
  linkStateEvent ((judgeLooped (endCommand s)).updLkc fun l => { l with state := .up, upCount := 0, syncMiss := 0, lowRun := 0 })

theorem endHold_eq (s : State) :
    endHold s = bringup (match (holdEnded s).loopProgress with
      | some p => endRunning p.outcome (holdEnded s)
      | none => holdEnded s) := rfl

theorem holdEnded_lkc (s : State) :
    (holdEnded s).lkc
      = { s.lkc with state := .up, outstanding := none, looped := [], upCount := 0, syncMiss := 0, lowRun := 0 } := by
  simp [holdEnded, judgeLooped, endCommand]

theorem endHold_lkc (s : State) : (endHold s).lkc = (holdEnded s).lkc := by
  rw [endHold_eq]
  split <;> simp

theorem endHold_sound {s : State} (hs : s.holdFits) (hheld : s.lkc.state.isHeld = true) : Sound s (endHold s) := by
  obtain ⟨-, -, htaken⟩ := (holdFits_iff s).mp hs
  have hlkc := (endHold_lkc s).trans (holdEnded_lkc s)
  have hsame : (holdEnded s).tsu.taken = true := by
    rw [← hheld, htaken]
    exact (judgeLooped_taken (endCommand s)).2
  cases hp : (holdEnded s).loopProgress with
  | none => simp [← loopProgress_held, hp] at hsame
  | some p =>
    obtain ⟨hk, ht, -⟩ := endRunning_free p.outcome (holdEnded s)
    have hbrought := bringup_steady (endRunning p.outcome (holdEnded s))
    have hend : endHold s = bringup (endRunning p.outcome (holdEnded s)) := by rw [endHold_eq, hp]
    exact
      { fits := (holdFits_iff _).mpr ⟨hend ▸ hbrought.kind hk, by rw [hlkc]; rfl, by rw [hlkc, hend, hbrought.taken, ht]; rfl⟩
        egress := fun _ hup => absurd (congrArg Lkc.state hlkc) hup }

theorem loopOffConfirmed_sound {s : State} (hs : s.holdFits) : Leaves (execLoopOffConfirmed s) (Sound s) :=
  .next (takeConfirm_sound hs fun o ho hc t ht hto => endHold_sound ht (by rw [loopExit_of_fits ht hto hc]; rfl))

/-- The command outstanding ended unanswered, and the looped frames away judged (R22, R42). -/
theorem judgeLooped_abandon_steady (s : State) : Steady s (judgeLooped (s.updLkc Lkc.abandon)) := by
  have habandon := abandon_apart s.lkc
  have hended : Steady s (s.updLkc Lkc.abandon) :=
    ⟨.lkc _ s (by rw [habandon]) fun _ => by rw [habandon]; rfl, by rw [State.updLkc_lkc, habandon]⟩
  exact (hended.trans (countLooped_steady _ _)).trans (.lkc _ _ rfl rfl rfl)

theorem loopOffLimit_sound {s : State} (hs : s.holdFits) : Leaves (execLoopOffLimit s) (Sound s) := by
  have hended := (judgeLooped_abandon_steady s).sound hs
  exact .ite (.next (hended.trans (enterLost_sound _ hended.fits))) (.next ((Firm.refl s).sound hs))

/-! ### The whole part -/

theorem siteReset_sound (s : State) (hs : s.holdFits) : Sound s (siteReset s) := by
  obtain ⟨-, hfits, -⟩ := (holdFits_iff s).mp hs
  obtain ⟨hlkc, -, -, -, -, htqm, -⟩ := resetBlocks_frame s
  have hlink : (siteResetLink (resetBlocks s)).lkc.state.isHeld = false ∧ (siteResetLink (resetBlocks s)).lkc.commandFits = true := by
    obtain ⟨-, hoff, h⟩ | ⟨-, -, h⟩ | ⟨-, h⟩ := siteResetLink_cases (resetBlocks s) <;> rw [h]
    · exact ⟨by rw [hoff]; rfl, hlkc ▸ hfits⟩
    · rw [(linkReset_lkc _).2]; exact ⟨rfl, rfl⟩
    · obtain ⟨hstate, -, hfits⟩ := discoveryEntry_state (resetBlocks s)
      exact ⟨by rw [hstate]; rfl, hfits⟩
  obtain ⟨hhe, hfi⟩ := hlink
  obtain ⟨hk, ht, hq⟩ := endRunning_free (.aborted .siteReset) ((siteResetLink (resetBlocks s)).updTsu fun t => { t with queued := [] })
  have hordersEnd : Sound s (tsuSiteReset (siteResetLink (resetBlocks s))) :=
    { fits := (holdFits_iff _).mpr ⟨hk, by simpa using hfi, by rw [tsuSiteReset, ht]; simpa using hhe⟩
      egress := fun _ _ k => hq k (by simp [htqm, resetSite_egress]) }
  rw [siteReset_eq]
  exact hordersEnd.firm ((departQueues_steady _ _).trans (bringup_steady _)).toFirm

theorem serve_sound {k : Slot} {tag : Byte} {p f : Bool} {v : Verdict} {s : State} (hs : s.holdFits) (h : Takes v (Sound s)) :
    Sound s (serve k tag p f v s) :=
  have hanswer : ∀ t st data, Firm t (answer k tag st data t) := fun t _ _ => (Steady.of_same (by simp) (by simp) (by simp)).toFirm
  serve_ends (fun _ _ => (hanswer s _ _).sound hs) fun data t hv _ => (h data t hv).firm (hanswer t _ _)

theorem setSiteState_steady (st : SiteState) (s : State) : Steady s (setSiteState st s) := .of_same (by simp) (by simp) (by simp)

theorem installTables_steady (t : Tables) (s : State) : Steady s (installTables t s) :=
  ⟨⟨rfl, id, id, id, rfl, fun _ => id⟩, rfl⟩

theorem completeLoad_sound (flash : List Byte) {s : State} (hs : s.holdFits) (hq : Quiet s) : Sound s (completeLoad flash s) := by
  have hinstalled : ∀ t st load, Steady s (setSiteState st (installTables t (s.updDsu fun d => { d with load := load }))) :=
    fun t st load => (Steady.of_same rfl rfl rfl : Steady s (s.updDsu fun d => { d with load := load })).trans
      ((installTables_steady t _).trans (setSiteState_steady st _))
  unfold completeLoad
  split
  · next t _ =>
    have hsound := (hinstalled t .bringup (some .valid)).sound hs
    exact hsound.trans (enterDiscovery_sound hsound.fits)
  · refine .entry hs (by rw [hq.link]; rfl) rfl ?_ (by simp [installTables]) (by simp [installTables]) (by simp [installTables])
    simp [Lkc.commandFits, installTables, hq.command]

theorem descriptorLoad_sound (flash : List Byte) {s : State} (hs : s.holdFits) (hq : s.loadingQuiet) :
    Leaves (execDescriptorLoad flash s) (Sound s) :=
  .cond (fun hload => .next (completeLoad_sound flash hs (hq.quiet hload))) fun _ => .next ((Firm.refl s).sound hs)

theorem beginBringup_sound (ps : List Byte) {s : State} (hs : s.holdFits) : Takes (judgeBeginBringup ps s) (Sound s) := by
  have hbringup := (setSiteState_steady .bringup s).sound hs
  refine .ite (fun _ => .refuse _) fun _ => .withParams _ fun _ => ?_
  split
  · exact .error _ _
  · exact .taken _ (hbringup.trans (enterDiscovery_sound hbringup.fits))

theorem linkRestart_sound (ps : List Byte) {s : State} (hs : s.holdFits) : Takes (judgeLinkRestart ps s) (Sound s) :=
  .ite (fun _ => .refuse _) fun _ => .withParams _ fun _ => .taken _ (enterDiscovery_sound hs)

theorem powerOnReset_sound (strap : Bool) (s : State) : Leaves (execPowerOnReset strap s) (Sound s) :=
  .next { fits := (holdFits_iff _).mpr ⟨kindly_none rfl, rfl, rfl⟩
          egress := fun _ _ => forall_slot rfl rfl rfl rfl }

theorem oduIdentifyReply_sound (n : Nat) (id : OduId) {s : State} (hs : s.holdFits) : Leaves (execOduIdentifyReply n id s) (Sound s) := by
  refine .cond (fun h => .next ?_) fun _ => .next ((Firm.refl s).sound hs)
  obtain ⟨o, ho, hc, -⟩ := answers_some h
  exact sendDiscovery_sound (t := s.updLkc fun l => { l with odu := some id, state := .discovery .readPage 1 }) hs
    (discovery_carries hs ho (.inl hc)) rfl (.inr ⟨rfl, rfl⟩) rfl rfl _

theorem readPageReply_sound (page : PageReply) {s : State} (hs : s.holdFits) : Leaves (execReadPageReply page s) (Sound s) := by
  refine .cond (fun h => .next ?_) fun _ => .next ((Firm.refl s).sound hs)
  obtain ⟨o, ho, hc, -⟩ := answers_some h
  exact buildLadder_sound (t := endCommand s) hs (discovery_carries hs ho (.inr hc)) rfl rfl _

theorem identifyReplyLimit_sound {s : State} (hs : s.holdFits) : Leaves (execIdentifyReplyLimit s) (Sound s) := by
  refine .cond (fun h => .next ?_) fun _ => .next ((Firm.refl s).sound hs)
  obtain ⟨o, ho, hc, -⟩ := commandDue_some h
  have hcarries := discovery_carries hs ho (.inl hc)
  exact retryDiscovery_sound hs hcarries (.inl ⟨rfl, rfl⟩) (failDiscovery_sound hs hcarries rfl rfl _)

theorem readPageReplyLimit_sound {s : State} (hs : s.holdFits) : Leaves (execReadPageReplyLimit s) (Sound s) := by
  refine .cond (fun h => .next ?_) fun _ => .next ((Firm.refl s).sound hs)
  obtain ⟨o, ho, hc, -⟩ := commandDue_some h
  have hcarries := discovery_carries hs ho (.inr hc)
  exact retryDiscovery_sound hs hcarries (.inr ⟨rfl, rfl⟩) (buildLadder_sound (t := endCommand s) hs hcarries rfl rfl _)

theorem backoffDue_lost {l : LinkState} (h : l.backoffDue = true) : ∃ n, l = .lost n ∧ Config.backoffLimit ≤ n := by
  unfold LinkState.backoffDue at h
  split at h
  · next n => exact ⟨n, rfl, of_decide_eq_true h⟩
  · cases h

theorem backoffExpiry_sound {s : State} (hs : s.holdFits) : Leaves (execBackoffExpiry s) (Sound s) := by
  refine .cond (fun h => .next ?_) fun _ => .next ((Firm.refl s).sound hs)
  obtain ⟨n, hl, -⟩ := backoffDue_lost h
  exact enterAcquiring_sound hs (by rw [hl]; rfl) rfl rfl

/-- Every command keeps the hold with its order and the egress partials absent outside UP. -/
theorem exec_sound (c : Instr) {s : State} (hq : s.loadingQuiet) (hs : s.holdFits) : Leaves (exec c s) (Sound s) := by
  obtain ⟨hkind, -, -⟩ := (holdFits_iff s).mp hs
  by_cases hmoves : movesLink c = false
  · exact fun t ht => (exec_steady hmoves s t ht).sound hs
  · cases c with
    | powerOnReset b => exact powerOnReset_sound b s
    | descriptorLoad flash => exact descriptorLoad_sound flash hs hq
    | beginBringup k tag ps => exact .next (serve_sound hs (beginBringup_sound ps hs))
    | siteReset k tag ps => exact .next (serve_sound hs (.withParams _ fun _ => .taken _ (siteReset_sound s hs)))
    | linkRestart k tag ps => exact .next (serve_sound hs (linkRestart_sound ps hs))
    | tenantReset k tag ps =>
      exact .next (serve_sound hs (.withParams _ fun _ => .withParams _ fun _ => .taken _ ((tenantReset_steady _ hkind).sound hs)))
    | oduIdentifyReply n id => exact oduIdentifyReply_sound n id hs
    | identifyReplyLimit => exact identifyReplyLimit_sound hs
    | readPageReply page => exact readPageReply_sound page hs
    | readPageReplyLimit => exact readPageReplyLimit_sound hs
    | loopOnConfirmed => exact loopOnConfirmed_sound hs
    | loopOnLimit => exact loopOnLimit_sound hs
    | loopOffConfirmed => exact loopOffConfirmed_sound hs
    | loopOffLimit => exact loopOffLimit_sound hs
    | statusReport m => exact .next (takeReport_sound m hs)
    | missingStatusReport => exact .next (takeReport_sound _ hs)
    | farFrame f => exact .next (takeFarFrame_sound f hs)
    | missingFarFrame => exact .ite (.next (missFrame_sound hs)) (.next ((Firm.refl s).sound hs))
    | backoffExpiry => exact backoffExpiry_sound hs
    | frameFill => exact .next (fillFrame_sound hs)
    | _ => exact absurd rfl hmoves

theorem step_sound {s t : State} (hq : s.loadingQuiet) (hs : s.holdFits) (h : step s = .next t) : Sound s t := by
  obtain ⟨-, rfl⟩ | ⟨c, rest, -, h⟩ := step_cases h
  · exact (tick_steady s).sound hs
  · have htaken : Steady s { s with pending := rest } := .of_same rfl rfl rfl
    have hsound := htaken.sound hs
    exact hsound.trans (exec_sound (s := { s with pending := rest }) c hq hsound.fits t h)

/-- Settles O44, by every operation either steady or an entry of the link with what it leaves of the orders. -/
theorem holdStandsWithItsOrder : Obligations.HoldStandsWithItsOrder := by
  unfold Obligations.HoldStandsWithItsOrder
  intro s t hq hs h
  exact (step_sound hq hs h).fits

/-- Settles O42, by the same: an entry to UP aside, every operation that leaves a partial has UP before and after. -/
theorem egressIsHeldInUpAlone : Obligations.EgressIsHeldInUpAlone := by
  unfold Obligations.EgressIsHeldInUpAlone
  intro s t hq hs he h
  exact (step_sound hq hs h).egress he

end Sys2Proof.Machine

/-! The current rung over a step (R24, R29, R33, R39, R43, R45, R58). -/

namespace Sys2Proof.Machine

open Sys2Proof

/-- The entries of the link that set the rung to 0: the state entered, and the command. -/
inductive RungEntry (s : State) : LinkState → Instr → Prop
  | powerOn (b : Bool) : RungEntry s (.off .none) (.powerOnReset b)
  | load (flash : List Byte) (hs : s.scu.site = .loading) : RungEntry s (.discovery .identify 1) (.descriptorLoad flash)
  | begun (k : Slot) (tag : Byte) (ps : List Byte) (hs : s.scu.site = .unconfigured) :
    RungEntry s (.discovery .identify 1) (.beginBringup k tag ps)
  | restart (k : Slot) (tag : Byte) (ps : List Byte) (hs : s.lkc.state.isHeld = false) :
    RungEntry s (.discovery .identify 1) (.linkRestart k tag ps)
  | siteReset (k : Slot) (tag : Byte) (ps : List Byte) :
    RungEntry s (if s.scu.site = .unconfigured then .off .unconfigured else .discovery .identify 1) (.siteReset k tag ps)
  | page (o : Outstanding) (bytes : List Byte) (ho : s.lkc.outstanding = some o) (hc : o.cmd = .readPage) :
    RungEntry s .acquiring (.readPageReply ⟨o.number, bytes⟩)
  | noPage (o : Outstanding) (st : DiscoveryStep) (n : Nat) (ho : s.lkc.outstanding = some o) (hc : o.cmd = .readPage)
    (hs : s.lkc.state = .discovery st n) (hn : 3 ≤ n) : RungEntry s .acquiring .readPageReplyLimit
  | backoff (n : Nat) (hs : s.lkc.state = .lost n) : RungEntry s .acquiring .backoffExpiry
  | synced (f : FarFrame) (hs : s.lkc.state = .acquiring) (hf : f.sync = true) : RungEntry s .up (.farFrame f)

/-- All that a command may do to the rung. -/
inductive RungStep (c : Instr) (s t : State) : Prop
  | kept (h : t.lkc.rung = s.lkc.rung)
  | notice (n : Notice) (hc : c = .frameFill) (hn : s.lkc.notice = some n ∨ s.lkc.voided = some n)
    (he : n.effectiveFrame = some ((s.lkc.frame + 1) % 65536)) (h : t.lkc.rung = n.target)
  | entry (h : t.lkc.rung = 0) (l : LinkState) (ht : t.lkc.state = l) (he : RungEntry s l c)

theorem RungStep.of_lkc {c : Instr} {s t u : State} (h : RungStep c s t) (hl : u.lkc = t.lkc) : RungStep c s u := by
  obtain h | ⟨n, hc, hn, he, h⟩ | ⟨h, l, ht, he⟩ := h
  · exact .kept (hl ▸ h)
  · exact .notice n hc hn he (hl ▸ h)
  · exact .entry (hl ▸ h) l (hl ▸ ht) he

theorem serve_rungStep {c : Instr} {k : Slot} {tag : Byte} {p f : Bool} {v : Verdict} {s : State} (h : Takes v (RungStep c s)) :
    RungStep c s (serve k tag p f v s) :=
  serve_ends (fun _ _ => .kept (by simp)) fun data t hv _ => (h data t hv).of_lkc (by simp)

/-! ### Entries to DISCOVERY and to OFF -/

theorem enterDiscovery_enters (s : State) : (enterDiscovery s).lkc.rung = 0 ∧ (enterDiscovery s).lkc.state = .discovery .identify 1 := by
  obtain ⟨hstate, hrung, -⟩ := discoveryEntry_state s
  simp [enterDiscovery, hstate, hrung]

theorem completeLoad_rung (flash : List Byte) {s : State} (hs : s.scu.site = .loading) :
    RungStep (.descriptorLoad flash) s (completeLoad flash s) := by
  unfold completeLoad
  split
  · obtain ⟨hrung, hstate⟩ := enterDiscovery_enters (setSiteState .bringup (installTables _ (s.updDsu fun d => { d with load := some .valid })))
    exact .entry hrung _ hstate (.load flash hs)
  · exact .kept (by simp [installTables])

theorem beginBringup_rung (k : Slot) (tag : Byte) (ps : List Byte) (s : State) :
    Takes (judgeBeginBringup ps s) (RungStep (.beginBringup k tag ps) s) := by
  refine .ite (fun _ => .refuse _) fun hsite => .withParams _ fun _ => ?_
  split
  · exact .error _ _
  · obtain ⟨hrung, hstate⟩ := enterDiscovery_enters (setSiteState .bringup s)
    exact .taken _ (.entry hrung _ hstate (.begun k tag ps (not_not.mp hsite)))

theorem linkRestart_rung (k : Slot) (tag : Byte) (ps : List Byte) (s : State) :
    Takes (judgeLinkRestart ps s) (RungStep (.linkRestart k tag ps) s) := by
  refine .ite (fun _ => .refuse _) fun hheld => .withParams _ fun _ => .taken _ ?_
  obtain ⟨hrung, hstate⟩ := enterDiscovery_enters s
  exact .entry hrung _ hstate (.restart k tag ps (Bool.eq_false_iff.mpr hheld))

theorem siteReset_lkc (s : State) : (siteReset s).lkc = (siteResetLink (resetBlocks s)).lkc := by
  rw [siteReset_eq]
  simp

theorem siteReset_rung (k : Slot) (tag : Byte) (ps : List Byte) (s : State) : RungStep (.siteReset k tag ps) s (siteReset s) := by
  have hsite : (resetBlocks s).scu.site = .unconfigured ↔ s.scu.site = .unconfigured := by
    obtain ⟨-, -, -, -, -, -, -, -, h, -⟩ := resetBlocks_frame s
    rw [h]
    split <;> simp_all
  refine RungStep.of_lkc ?_ (siteReset_lkc s)
  obtain ⟨-, -, h⟩ | ⟨hu, -, h⟩ | ⟨hu, h⟩ := siteResetLink_cases (resetBlocks s) <;> rw [h]
  · exact .kept rfl
  · refine .entry ?_ _ ?_ (.siteReset k tag ps)
    · rw [(linkReset_lkc _).2]; rfl
    · rw [(linkReset_lkc _).2, if_pos (hsite.mp hu)]
  · obtain ⟨hstate, hrung, -⟩ := discoveryEntry_state (resetBlocks s)
    exact .entry hrung _ (by rw [hstate, if_neg (hu ∘ hsite.mpr)]) (.siteReset k tag ps)

/-! ### Discovery -/

theorem enterAcquiring_lkc (s : State) :
    (enterAcquiring s).lkc = { s.lkc with state := .acquiring, outstanding := none, rung := 0 } := by simp [enterAcquiring]

theorem failDiscovery_lkc (r : OffReason) (s : State) :
    (failDiscovery r s).lkc
      = { s.lkc with
          state := .off r, outstanding := none, near := none, far := none, effective := none,
          losses := (failDiscovery r s).lkc.losses } := by
  simp [failDiscovery]

/-- A ladder installed: ACQUIRING at rung 0, or OFF with the rung as it was. -/
theorem installLadder_rung (built : Option (Ladder × LadderSource)) (s : State) :
    (installLadder built s).lkc.rung = s.lkc.rung ∨ ((installLadder built s).lkc.rung = 0 ∧ (installLadder built s).lkc.state = .acquiring) := by
  unfold installLadder
  split
  · split
    · exact .inr (by rw [enterAcquiring_lkc]; exact ⟨rfl, rfl⟩)
    · exact .inl (by rw [failDiscovery_lkc])
  · exact .inl (by rw [failDiscovery_lkc])

theorem buildLadder_rung (page : Option CapabilityPage) (s : State) :
    (buildLadder page s).lkc.rung = s.lkc.rung ∨ ((buildLadder page s).lkc.rung = 0 ∧ (buildLadder page s).lkc.state = .acquiring) := by
  obtain ⟨built, h⟩ := buildLadder_installs page s
  rw [h]
  exact installLadder_rung built s

theorem readPageReply_rung (page : PageReply) (s : State) : Leaves (execReadPageReply page s) (RungStep (.readPageReply page) s) := by
  refine .cond (fun h => .next ?_) fun _ => .next (.kept rfl)
  obtain ⟨o, ho, hc, hn⟩ := answers_some h
  obtain hr | ⟨hr, hs⟩ := buildLadder_rung (readPage page.page) (endCommand s)
  · exact .kept hr
  · have hpage : page = ⟨o.number, page.page⟩ := by rw [hn]
    rw [hpage]
    exact .entry hr _ hs (.page o page.page ho hc)

theorem readPageReplyLimit_rung (s : State) : Leaves (execReadPageReplyLimit s) (RungStep .readPageReplyLimit s) := by
  refine .cond (fun h => .next ?_) fun _ => .next (.kept rfl)
  obtain ⟨o, ho, hc, -⟩ := commandDue_some h
  obtain ⟨st, n, -, -, h⟩ | ⟨st, n, hs, hn, h⟩ | ⟨-, h⟩ := retryDiscovery_cases .readPage .readPage (buildLadder none) s <;> rw [h]
  · exact .kept (by rw [sendOdu_lkc]; rfl)
  · obtain hr | ⟨hr, ht⟩ := buildLadder_rung none (endCommand s)
    · exact .kept hr
    · exact .entry hr _ ht (.noPage o st n ho hc hs hn)
  · exact .kept rfl

theorem identifyReplyLimit_rung (s : State) : Leaves (execIdentifyReplyLimit s) fun t => t.lkc.rung = s.lkc.rung := by
  refine .ite (.next ?_) (.next rfl)
  obtain ⟨st, n, -, -, h⟩ | ⟨st, n, -, -, h⟩ | ⟨-, h⟩ := retryDiscovery_cases .identify .identify (failDiscovery .noOdu) s <;> rw [h]
  · rw [sendOdu_lkc]; rfl
  · rw [failDiscovery_lkc]; rfl

/-! ### Losses, reports and the hold -/

theorem enterLost_rung (x : LossCause) (s : State) : (enterLost x s).lkc.rung = s.lkc.rung := by simp [enterLost]

theorem takeReport_rung (m : Int) (s : State) : (takeReport m s).lkc.rung = s.lkc.rung := by
  obtain ⟨-, h⟩ | ⟨-, -, h⟩ | ⟨-, -, h⟩ := takeReport_cases m s <;> rw [h]
  · exact enterLost_rung _ _
  · exact (rungDecision_steady _ _).rung

theorem missFrame_rung (s : State) : (missFrame s).lkc.rung = s.lkc.rung := by
  unfold missFrame
  dsimp only
  split
  · exact enterLost_rung _ _
  · rfl

theorem farFrame_rung (f : FarFrame) (s : State) : RungStep (.farFrame f) s (takeFarFrame f s) := by
  have hhand : ∀ t : State, (handOn f t).lkc.rung = t.lkc.rung ∧ (t.lkc.state = .up → (handOn f t).lkc.state = .up) := fun t =>
    have hhand := handOn_steady f t
    ⟨hhand.rung.trans (by simp [farTaken]), fun hup => hhand.up (by simpa [farTaken] using hup)⟩
  unfold takeFarFrame
  split
  · next ha =>
    split
    · next hf =>
      obtain ⟨hr, hs⟩ := hhand (enterUp s)
      rw [enterUp_lkc] at hr hs
      exact .entry hr _ (hs rfl) (.synced f ha hf)
    · exact .kept rfl
  · split
    · exact .kept (hhand s).1
    · exact .kept (missFrame_rung s)
  · exact .kept rfl

theorem takeConfirm_rung {c : OduCommand} {answered : State → State} (h : ∀ t, (answered t).lkc.rung = t.lkc.rung) (s : State) :
    (takeConfirm c answered s).lkc.rung = s.lkc.rung := by
  obtain ⟨l, htaken | ⟨-, htaken⟩⟩ := takeConfirm_cases s c answered <;> rw [htaken]
  · rfl
  · exact h _

theorem loopOnLimit_rung (s : State) : Leaves (execLoopOnLimit s) fun t => t.lkc.rung = s.lkc.rung :=
  .ite (.next (by rw [enterLoopExit_lkc]; exact (decideLoop_steady _ s).rung)) (.next rfl)

theorem loopOffLimit_rung (s : State) : Leaves (execLoopOffLimit s) fun t => t.lkc.rung = s.lkc.rung :=
  .ite (.next ((enterLost_rung _ _).trans (judgeLooped_abandon_steady s).rung)) (.next rfl)

theorem endRunning_rung (out : TestOutcome) (s : State) : (endRunning out s).lkc.rung = s.lkc.rung := by simp

theorem tenantResetRunning_rung (k : Slot) (s : State) : (tenantResetRunning k s).lkc.rung = s.lkc.rung := by
  unfold tenantResetRunning
  repeat' split
  · rfl
  · exact (abortLoop_steady _ s).rung
  · exact endRunning_rung _ s
  · exact endRunning_rung _ s
  · rfl

theorem tenantReset_rung (k : Slot) (s : State) : (tenantReset k s).lkc.rung = s.lkc.rung :=
  (settle_steady _).rung.trans ((tenantResetRunning_rung k _).trans (removeQueued_steady k _).rung)

/-! ### Frame fills -/

theorem noticeDue_some {l : Lkc} {frame : Nat} {n : Notice} (h : l.noticeDue frame = some n) :
    (l.notice = some n ∨ l.voided = some n) ∧ n.effectiveFrame = some frame := by
  unfold Lkc.noticeDue at h
  split at h
  · next v hv =>
    split at h
    · next he => cases h; exact ⟨.inr hv, he⟩
    · cases h
  · split at h
    · next m hm =>
      split at h
      · next he => cases h; exact ⟨.inl hm, he⟩
      · cases h
    · cases h

theorem ageLooped_lkc (s : State) : (ageLooped s).lkc = { s.lkc with looped := (ageAwaiting 4 s.lkc.looped).1 } := by
  unfold ageLooped
  dsimp only
  split <;> simp

theorem fillFrame_rung (s : State) : RungStep .frameFill s (fillFrame s) := by
  have hfixed : ∀ {t u : State}, t.lkc.rung = s.lkc.rung → t.lkc.notice = s.lkc.notice → t.lkc.voided = s.lkc.voided
      → t.lkc.frame = nextNumber s.lkc.frame → Steady (fixRung t) u → RungStep .frameFill s u := by
    intro t u hr hn hv hf hu
    obtain ⟨-, h⟩ | ⟨n, hdue, h⟩ := fixRung_rung t
    · exact .kept (hu.rung.trans (h.trans hr))
    · obtain ⟨hof, he⟩ := noticeDue_some hdue
      exact .notice n rfl (hn ▸ hv ▸ hof) (he.trans (congrArg some hf)) (hu.rung.trans h)
  obtain ⟨-, h⟩ | ⟨-, -, h⟩ | ⟨-, -, h⟩ | ⟨-, h⟩ | ⟨-, -, -, h⟩ := fillFrame_cases s <;> rw [h]
  · refine .kept ?_
    have hpush := pushFrame_steady false 0 [] (s.updLkc Lkc.nextFrame)
    split
    · exact (endRunning_rung _ _).trans hpush.rung
    · exact hpush.rung
  · refine hfixed (t := enterHold (nextFill s)) ?_ ?_ ?_ ?_ ((fillHeld_steady _).trans (reportRung_steady _ _)) <;>
      rw [enterHold_lkc] <;> split <;> rfl
  · exact hfixed (t := nextFill s) rfl rfl rfl rfl ((fillUp_steady _).trans (reportRung_steady _ _))
  · refine hfixed (t := ageLooped (nextFill s)) (ageLooped_steady _).rung ?_ ?_ ?_ ((fillHeld_steady _).trans (reportRung_steady _ _)) <;>
      rw [ageLooped_lkc] <;> rfl
  · exact .kept rfl

theorem exec_rung (c : Instr) (s : State) : Leaves (exec c s) (RungStep c s) := by
  have hkept : ∀ r : Result, Leaves r (fun t => t.lkc.rung = s.lkc.rung) → Leaves r (RungStep c s) := fun _ h t ht => .kept (h t ht)
  by_cases hmoves : movesLink c = false
  · exact fun t ht => .kept (exec_steady hmoves s t ht).rung
  · cases c with
    | powerOnReset b => exact .next (.entry rfl _ rfl (.powerOn b))
    | descriptorLoad flash => exact .cond (fun hs => .next (completeLoad_rung flash hs)) fun _ => .next (.kept rfl)
    | beginBringup k tag ps => exact .next (serve_rungStep (beginBringup_rung k tag ps s))
    | siteReset k tag ps => exact .next (serve_rungStep (.withParams _ fun _ => .taken _ (siteReset_rung k tag ps s)))
    | linkRestart k tag ps => exact .next (serve_rungStep (linkRestart_rung k tag ps s))
    | tenantReset k tag ps =>
      exact .next (serve_rungStep (.withParams _ fun _ => .withParams _ fun j => .taken _ (.kept (tenantReset_rung j s))))
    | oduIdentifyReply n id => exact hkept _ (.ite (.next (by rw [sendOdu_lkc]; rfl)) (.next rfl))
    | identifyReplyLimit => exact hkept _ (identifyReplyLimit_rung s)
    | readPageReply page => exact readPageReply_rung page s
    | readPageReplyLimit => exact readPageReplyLimit_rung s
    | loopOnConfirmed => exact hkept _ (.next (takeConfirm_rung (answered := loopingEntered) (fun _ => rfl) s))
    | loopOnLimit => exact hkept _ (loopOnLimit_rung s)
    | loopOffConfirmed =>
      exact hkept _ (.next (takeConfirm_rung (fun t => by rw [endHold_lkc, holdEnded_lkc]) s))
    | loopOffLimit => exact hkept _ (loopOffLimit_rung s)
    | statusReport m => exact .next (.kept (takeReport_rung m s))
    | missingStatusReport => exact .next (.kept (takeReport_rung _ s))
    | farFrame f => exact .next (farFrame_rung f s)
    | missingFarFrame => exact hkept _ (.ite (.next (missFrame_rung s)) (.next rfl))
    | backoffExpiry =>
      refine .cond (fun h => .next ?_) fun _ => .next (.kept rfl)
      obtain ⟨n, hl, -⟩ := backoffDue_lost h
      exact .entry (by rw [enterAcquiring_lkc]) _ (by rw [enterAcquiring_lkc]) (.backoff n hl)
    | frameFill => exact .next (fillFrame_rung s)
    | _ => exact absurd rfl hmoves

/-- Settles O40, by every command's effect on the rung. -/
theorem rungChangesAtItsFrame : Obligations.RungChangesAtItsFrame := by
  unfold Obligations.RungChangesAtItsFrame
  intro s t h
  obtain ⟨-, rfl⟩ | ⟨c, rest, hp, h⟩ := step_cases h
  · exact .inl (tick_steady s).rung
  · obtain hr | ⟨n, rfl, hn, he, hr⟩ | ⟨hr, l, rfl, he⟩ := exec_rung c { s with pending := rest } t h
    · exact .inl hr
    · exact .inr (.inl ⟨rest, n, hp, hn, he, hr⟩)
    · refine .inr (.inr ⟨hr, c, rest, hp, ?_⟩)
      generalize t.lkc.state = l at he
      cases he with
      | powerOn b => exact .inl ⟨b, rfl, rfl⟩
      | load flash hs => exact .inr (.inl ⟨flash, rfl, hs, rfl⟩)
      | begun k tag ps hs => exact .inr (.inr (.inl ⟨k, tag, ps, rfl, hs, rfl⟩))
      | restart k tag ps hs => exact .inr (.inr (.inr (.inl ⟨k, tag, ps, rfl, hs, rfl⟩)))
      | siteReset k tag ps => exact .inr (.inr (.inr (.inr (.inl ⟨k, tag, ps, rfl, rfl⟩))))
      | page o bytes ho hc => exact .inr (.inr (.inr (.inr (.inr (.inl ⟨o, ho, hc, rfl, .inl ⟨bytes, rfl⟩⟩)))))
      | noPage o st n ho hc hs hn => exact .inr (.inr (.inr (.inr (.inr (.inl ⟨o, ho, hc, rfl, .inr ⟨rfl, st, n, hs, hn⟩⟩)))))
      | backoff n hs => exact .inr (.inr (.inr (.inr (.inr (.inr (.inl ⟨n, rfl, hs, rfl⟩))))))
      | synced f hs hf => exact .inr (.inr (.inr (.inr (.inr (.inr (.inr ⟨f, rfl, hs, hf, rfl⟩))))))

end Sys2Proof.Machine

/-! The radio link's commands (chapter 2): the orders that start where no partial is held, the entries to DISCOVERY and to OFF, and the
steps of discovery. -/

namespace Sys2Proof.Machine

open Sys2Proof

/-! ## Where no egress partial is held -/

/-- No slot holds an egress partial. -/
def State.noEgress (s : State) : Prop := ∀ k, (s.tqm.get k).egress = none

theorem discardEgress_of_none {t : Traffic} (h : t.egress = none) : t.discardEgress = t := by
  simp [Traffic.discardEgress, h]

/-- With no partial held, the traffic records stand. -/
def State.trafficStands (s t : State) : Prop := s.noEgress → t.tqm = s.tqm

theorem State.trafficStands.refl (s : State) : s.trafficStands s := fun _ => rfl

theorem State.trafficStands.of_same {s t : State} (h : t.tqm = s.tqm) : s.trafficStands t := fun _ => h

theorem State.trafficStands.trans {s t u : State} (h1 : s.trafficStands t) (h2 : t.trafficStands u) : s.trafficStands u := fun hs =>
  have ht : t.noEgress := by simpa [State.noEgress, h1 hs] using hs
  (h2 ht).trans (h1 hs)

theorem State.trafficStands.ite {c : Prop} [Decidable c] {s t u : State} (h1 : s.trafficStands t) (h2 : s.trafficStands u) :
    s.trafficStands (if c then t else u) := by
  split
  · exact h1
  · exact h2

theorem startOrder_traffic (o : Order) (s : State) : s.trafficStands (startOrder o s) := by
  intro h
  unfold startOrder
  dsimp only
  split
  · refine PerSlot.eq_of_get fun k => ?_
    simp only [State.updTqm_tqm, State.updTsu_tqm, PerSlot.get_modify]
    split
    · exact discardEgress_of_none (h _)
    · rfl
  · rfl

theorem considerStart_traffic (n : Nat) (s : State) : s.trafficStands (considerStart n s) := by
  induction n generalizing s with
  | zero => exact .refl s
  | succ n ih =>
    unfold considerStart
    split
    · dsimp only
      split
      · exact State.trafficStands.trans (.of_same (by simp)) (startOrder_traffic _ _)
      · exact State.trafficStands.trans (.of_same (by simp)) (ih _)
    · exact .refl s

theorem settle_traffic (s : State) : s.trafficStands (settle s) := considerStart_traffic _ s

theorem bringup_traffic (s : State) : s.trafficStands (bringup s) := State.trafficStands.trans (.of_same (by simp)) (settle_traffic _)

theorem endRunning_traffic (out : TestOutcome) (s : State) : s.trafficStands (endRunning out s) := by
  unfold endRunning
  split
  · exact .refl s
  · exact State.trafficStands.trans (.of_same (by simp)) (settle_traffic _)

theorem tsuDepart_traffic (out : TestOutcome) (s : State) : s.trafficStands (tsuDepart out s) := by
  unfold tsuDepart
  split
  · exact endRunning_traffic _ s
  · exact endRunning_traffic _ s
  · exact .refl s

theorem deriveClass_traffic (s : State) : s.trafficStands (deriveClass s) := by
  by_cases hd : s.tmu.derivedClass = s.tmu.cls
  · rw [deriveClass_same hd]
    exact .refl s
  · rw [deriveClass_publishes hd]
    exact (State.trafficStands.of_same (by simp)).trans ((bringup_traffic _).trans (.of_same (classPublished_same _).2.1))

theorem judgeSelection_traffic (s : State) : s.trafficStands (judgeSelection s) := by
  unfold judgeSelection
  split
  · exact .refl s
  · exact State.trafficStands.trans (.of_same (by simp)) (deriveClass_traffic _)

theorem qualificationChanged_traffic (b : Qualification) (src : Source) (s : State) : s.trafficStands (qualificationChanged b src s) := by
  have hleft : s.trafficStands (tsuSourceLeft s) := by
    unfold tsuSourceLeft
    split
    · exact endRunning_traffic _ s
    · exact .refl s
  unfold qualificationChanged
  split
  · exact .refl s
  · exact (State.trafficStands.ite hleft (.refl s)).trans (judgeSelection_traffic _)

theorem takeOutcome_traffic (src : Source) (v : Bool) (s : State) : s.trafficStands (takeOutcome src v s) := by
  unfold takeOutcome
  split
  · exact .refl s
  · exact State.trafficStands.trans (t := s.updTmu fun t => t.updSource src fun r => r.afterOutcome v) (.of_same rfl)
      (qualificationChanged_traffic _ _ _)

theorem exchangeMissing_traffic (s : State) : s.trafficStands (exchangeMissing s) := by
  unfold exchangeMissing
  split
  · exact .refl s
  · exact State.trafficStands.trans (t := s.updTmu fun t => { t with exchange := none }) (.of_same rfl) (takeOutcome_traffic _ _ _)

theorem departQueues_tqm {w : LinkState} (hw : w.carries = true) (s : State) : (departQueues w s).tqm = s.tqm.map Traffic.depart := by
  unfold departQueues
  rw [if_pos hw, exchangeMissing_traffic _ (tqmDepart_egress s)]
  rfl

/-- A departure from UP or HELD discards what was partly sent or received, and nothing more of the queues (R72). -/
theorem depart_tqm {w : LinkState} (hw : w.carries = true) (out : TestOutcome) (s : State) :
    (depart w out s).tqm = s.tqm.map Traffic.depart := by
  have htold := (tsuDepart_traffic out (departQueues w s)).trans (bringup_traffic _)
  unfold depart
  rw [if_pos hw, htold (departQueues_egress hw s), departQueues_tqm hw]

/-- With the link not UP and no order waiting for none, the bring-up step leaves the orders and the queues. -/
theorem bringup_apart {s : State} (hl : s.lkc.state ≠ .up) (hi : s.noIdleQueue) : (bringup s).tsu = s.tsu ∧ (bringup s).tqm = s.tqm := by
  have hstep : (bringupStep s).tsu = s.tsu ∧ (bringupStep s).tqm = s.tqm := by
    by_cases hb : s.scu.site = .bringup
    · rw [bringupStep_waits hb fun hup => hl hup.1]
      exact ⟨rfl, rfl⟩
    · rw [bringupStep_of_ne hb]
      exact ⟨rfl, rfl⟩
  have hbringup : bringup s = bringupStep s := settle_of_noIdle (by simpa [State.noIdleQueue, hstep.1] using hi)
  rw [hbringup]
  exact hstep

/-! ## LINK_RESTART -/

theorem enterDiscovery_lkc {s : State} (h : s.lkc.state.isHeld = false) :
    (enterDiscovery s).lkc
        = { s.lkc with
            state := .discovery .identify 1, odu := none, ladder := none, source := none,
            outstanding := some ⟨.identify, 0, 100, s.lkc.sent⟩, sent := s.lkc.sent + 1, rung := 0, syncMiss := 0, lowRun := 0,
            notice := none, voided := none, upCount := 0, near := none, far := none, effective := none, unsent := [] }
      ∧ (enterDiscovery s).emitted = s.emitted ++ [.odu .identify] := by
  have hrelease : releaseHold s = s := by simp [releaseHold, h]
  simp [enterDiscovery, discoveryEntry, hrelease, sendOdu_lkc, sendOdu_emitted, Lkc.clear, Config.discoveryLimit]

theorem enterDiscovery_recordsStand (s : State) : s.recordsStand (enterDiscovery s) :=
  (enterDiscovery_moves s).recordsStand (enterDiscovery_tablesStand s) (by simp)

theorem pends_enterDiscovery (s : State) (k : Slot) : (enterDiscovery s).pends k .linkState = true := by
  have hentry : (discoveryEntry s).pends k .linkState = true := by simp [pends_discoveryEntry]
  exact (depart_moves _ _ _).follows.keeps k .linkState hentry

theorem enterDiscovery_tqm {s : State} (h : s.lkc.state.isHeld = false) (hi : s.noIdleQueue) :
    (enterDiscovery s).tqm = if s.lkc.state = .up then s.tqm.map Traffic.depart else s.tqm := by
  obtain ⟨-, htsu⟩ := discoveryEntry_of_notHeld h
  have htqm : (discoveryEntry s).tqm = s.tqm := by simp
  unfold enterDiscovery
  split
  · next hup => rw [depart_tqm (by rw [hup]; rfl), htqm]
  · next hup =>
    have hcarries : s.lkc.state.carries = false := by
      cases hs : s.lkc.state with
      | up => exact absurd hs hup
      | held => rw [hs] at h; cases h
      | off | discovery | acquiring | lost => rfl
    have hbringup := bringup_apart (s := discoveryEntry s) (by rw [(discoveryEntry_state s).1]; simp)
      (by simpa [State.noIdleQueue, htsu] using hi)
    simp [depart, hcarries, hbringup.2]

/-- A departure from UP discards the exchange in flight (R142). -/
theorem depart_exchange {w : LinkState} (hw : w.carries = true) (out : TestOutcome) (s : State) : (depart w out s).tmu.exchange = none := by
  have hbringup : (depart w out s).tmu = (departQueues w s).tmu := by simp [depart, hw]
  rw [hbringup, departQueues, if_pos hw]
  exact exchangeMissing_exchange _

/-- Settles O30, by what the entry to DISCOVERY leaves of each block. -/
theorem linkRestartEntersDiscovery : Obligations.LinkRestartEntersDiscovery := by
  unfold Obligations.LinkRestartEntersDiscovery
  intro k tag s hask hidle
  have hserved : exec (.linkRestart k tag []) s = .next (conclude k tag (judgeLinkRestart [] s) s) :=
    congrArg Host.Outcome.next (serve_mayAsk hask tag _ (.inl rfl))
  rw [hserved]
  refine ⟨fun hheld => ?_, fun hheld => ⟨enterDiscovery s, ?_, ?_⟩⟩
  · rw [judgeLinkRestart, if_pos hheld]
    rfl
  · rw [judgeLinkRestart, if_neg (by simp [hheld])]
    rfl
  · obtain ⟨hlkc, hemitted⟩ := enterDiscovery_lkc hheld
    exact ⟨hlkc, hemitted, fun j => pends_enterDiscovery s j, enterDiscovery_tqm hheld hidle,
      fun hup => depart_exchange (by rw [hup]; rfl) _ _, enterDiscovery_recordsStand s, by simp [enterDiscovery]⟩

end Sys2Proof.Machine

namespace Sys2Proof.Machine

open Sys2Proof

/-! ## Discovery (R22, R25 to R29) -/

theorem commandDue_of_some {s : State} {o : Outstanding} (ho : s.lkc.outstanding = some o) (c : OduCommand) :
    s.commandDue c = decide (o.cmd = c ∧ o.limit ≤ o.elapsed) := by simp [State.commandDue, ho]

theorem answers_of_some {s : State} {o : Outstanding} (ho : s.lkc.outstanding = some o) (c : OduCommand) (n : Nat) :
    s.answers c n = decide (o.cmd = c ∧ o.number = n) := by simp [State.answers, ho]

theorem commandDue_of_none {s : State} (ho : s.lkc.outstanding = none) (c : OduCommand) : s.commandDue c = false := by
  simp [State.commandDue, ho]

theorem answers_of_none {s : State} (ho : s.lkc.outstanding = none) (c : OduCommand) (n : Nat) : s.answers c n = false := by
  simp [State.answers, ho]

/-- The parts of the link record that the tables hold. -/
def Lkc.settings (l : Lkc) : Nat × Nat × Nat × Nat × List Profile := (l.ceiling, l.upLimit, l.lossLimit, l.confirmLimit, l.profiles)

/-- What every entry of the link leaves that ends with the bring-up step: LINK_STATE in all slots, and the records. -/
theorem linkEntered (f : Lkc → Lkc) (s : State) (hf : (f s.lkc).settings = s.lkc.settings) :
    (∀ j, (bringup (linkStateEvent (s.updLkc f))).pends j .linkState = true)
      ∧ (bringup (linkStateEvent (s.updLkc f))).emitted = s.emitted ∧ (bringup (linkStateEvent (s.updLkc f))).tmu = s.tmu
      ∧ s.recordsStand (bringup (linkStateEvent (s.updLkc f))) := by
  have hmoves : Moves s (bringup (linkStateEvent (s.updLkc f))) :=
    ((Moves.lkc f s).trans (linkStateEvent_moves _)).trans (.bringup _)
  simp only [Lkc.settings, Prod.mk.injEq] at hf
  obtain ⟨hceiling, hup, hloss, hconfirm, hprofiles⟩ := hf
  refine ⟨fun j => pends_bringup _ _ _ (by simp [pends_linkStateEvent]), by simp, by simp, hmoves.recordsStand ?_ (by simp)⟩
  simp [State.tablesStand, State.tables, hceiling, hup, hloss, hconfirm, hprofiles]

theorem failDiscovery_leaves (r : OffReason) (s : State) :
    (∀ j, (failDiscovery r s).pends j .linkState = true) ∧ (failDiscovery r s).emitted = s.emitted ∧ (failDiscovery r s).tmu = s.tmu
      ∧ s.recordsStand (failDiscovery r s) := linkEntered _ s rfl

theorem failDiscovery_losses (s : State) :
    (failDiscovery .noOdu s).lkc.losses = { s.lkc.losses with noOdu := satInc s.lkc.losses.noOdu }
      ∧ (failDiscovery .noProfile s).lkc.losses = { s.lkc.losses with noProfile := satInc s.lkc.losses.noProfile } := by
  simp [failDiscovery]

theorem enterAcquiring_leaves (s : State) :
    (∀ j, (enterAcquiring s).pends j .linkState = true) ∧ (enterAcquiring s).emitted = s.emitted ∧ (enterAcquiring s).tmu = s.tmu
      ∧ s.recordsStand (enterAcquiring s) := linkEntered _ s rfl

/-! ### IDENTIFY -/

theorem identifyReply_ignored {s : State} {n : Nat} (h : s.answers .identify n = false) (id : OduId) :
    exec (.oduIdentifyReply n id) s = .next s := if_neg (by simp [h])

theorem identifyLimit_ignored {s : State} (h : s.commandDue .identify = false) : exec .identifyReplyLimit s = .next s :=
  if_neg (by simp [h])

theorem identifyReply_taken {s : State} {n : Nat} (h : s.answers .identify n = true) (id : OduId) :
    exec (.oduIdentifyReply n id) s
      = .next (sendOdu .readPage Config.discoveryLimit (s.updLkc fun l => { l with odu := some id, state := .discovery .readPage 1 })) :=
  if_pos h

theorem retryDiscovery_again {s : State} {st : DiscoveryStep} {n : Nat} (hs : s.lkc.state = .discovery st n) (hn : n < 3)
    (step : DiscoveryStep) (c : OduCommand) (last : State → State) :
    retryDiscovery step c last s = sendOdu c Config.discoveryLimit (s.updLkc fun l => { l with state := .discovery step (n + 1) }) := by
  simp [retryDiscovery, hs, hn]

theorem retryDiscovery_last {s : State} {st : DiscoveryStep} {n : Nat} (hs : s.lkc.state = .discovery st n) (hn : 3 ≤ n)
    (step : DiscoveryStep) (c : OduCommand) (last : State → State) : retryDiscovery step c last s = last (endCommand s) := by
  simp [retryDiscovery, hs, Nat.not_lt.mpr hn]

/-- Settles O31, reply, limit and attempts apart. -/
theorem identifyStep : Obligations.IdentifyStep := by
  unfold Obligations.IdentifyStep
  intro s
  refine ⟨fun ho => ⟨fun n id => identifyReply_ignored (answers_of_none ho _ _) id, identifyLimit_ignored (commandDue_of_none ho _)⟩,
    fun o ho => ⟨fun n id hother => ?_, fun hother => ?_, fun id hc => ?_, fun n hc hdue hs => ?_⟩⟩
  · refine identifyReply_ignored ?_ id
    rw [answers_of_some ho, decide_eq_false_iff_not]
    rintro ⟨hc, hn⟩
    exact hother.elim (· hc) (· hn.symm)
  · refine identifyLimit_ignored ?_
    rw [commandDue_of_some ho, decide_eq_false_iff_not]
    rintro ⟨hc, hn⟩
    exact hother.elim (· hc) fun h => by omega
  · exact identifyReply_taken (by rw [answers_of_some ho]; simp [hc]) id
  · have hexec : exec .identifyReplyLimit s = .next (retryDiscovery .identify .identify (failDiscovery .noOdu) s) :=
      if_pos (by rw [commandDue_of_some ho]; simp [hc, hdue])
    refine ⟨fun hn => ?_, fun hn => ⟨failDiscovery .noOdu (endCommand s), ?_, ?_⟩⟩
    · rw [hexec, retryDiscovery_again hs hn]
      rfl
    · rw [hexec, retryDiscovery_last hs hn]
    · obtain ⟨hpends, hemitted, htmu, hrecords⟩ := failDiscovery_leaves .noOdu (endCommand s)
      refine ⟨?_, hpends, hemitted, htmu, hrecords⟩
      rw [failDiscovery_lkc, (failDiscovery_losses _).1]
      rfl

/-! ### READ_PAGE -/

theorem readPageReply_ignored {s : State} {page : PageReply} (h : s.answers .readPage page.number = false) :
    exec (.readPageReply page) s = .next s := if_neg (by simp [h])

theorem readPageLimit_ignored {s : State} (h : s.commandDue .readPage = false) : exec .readPageReplyLimit s = .next s :=
  if_neg (by simp [h])

theorem readPageReply_taken {s : State} {page : PageReply} (h : s.answers .readPage page.number = true) :
    exec (.readPageReply page) s = .next (buildLadder (readPage page.page) (endCommand s)) := if_pos h

theorem readPageLimit_taken {s : State} (h : s.commandDue .readPage = true) :
    exec .readPageReplyLimit s = .next (retryDiscovery .readPage .readPage (buildLadder none) s) := if_pos h

theorem buildLadder_page {s : State} {p : CapabilityPage} {id : OduId} (hid : s.lkc.odu = some id) (hp : p.id = id) :
    buildLadder (some p) s = installLadder (ladderFromPage p (matching s.lkc.profiles id)) s := by
  simp [buildLadder, hid, hp]

/-- A page that is invalid or of another ODU, and no answer, leave the ladder to the profile (R26, R28). -/
theorem buildLadder_profile {s : State} {page : Option CapabilityPage} {id : OduId} (hid : s.lkc.odu = some id)
    (hp : ∀ p, page = some p → p.id ≠ id) : buildLadder page s = installLadder (ladderFromProfile (matching s.lkc.profiles id)) s := by
  cases page with
  | none => simp [buildLadder, hid]
  | some p => simp [buildLadder, hid, hp p rfl]

theorem installLadder_consistent {built : Option (Ladder × LadderSource)} {l : Ladder} {src : LadderSource} (hb : built = some (l, src))
    (hl : l.consistent = true) (s : State) :
    installLadder built s = enterAcquiring (s.updLkc fun c => { c with ladder := some l, source := some src }) := by
  simp [installLadder, hb, hl]

theorem installLadder_fails {built : Option (Ladder × LadderSource)}
    (hb : built = none ∨ ∃ l src, built = some (l, src) ∧ l.consistent = false) (s : State) :
    installLadder built s = failDiscovery .noProfile s := by
  obtain rfl | ⟨l, src, rfl, hl⟩ := hb
  · rfl
  · simp [installLadder, hl]

/-- A ladder is consistent and installed, or there is none that is. -/
theorem built_cases (built : Option (Ladder × LadderSource)) :
    (∃ l src, built = some (l, src) ∧ l.consistent = true) ∨ built = none ∨ ∃ l src, built = some (l, src) ∧ l.consistent = false := by
  cases built with
  | none => exact .inr (.inl rfl)
  | some b =>
    obtain ⟨l, src⟩ := b
    cases hl : l.consistent
    · exact .inr (.inr ⟨l, src, rfl, hl⟩)
    · exact .inl ⟨l, src, rfl, hl⟩

theorem installLadder_leaves (built : Option (Ladder × LadderSource)) (s : State) :
    (∀ j, (installLadder built s).pends j .linkState = true) ∧ (installLadder built s).emitted = s.emitted
      ∧ (installLadder built s).tmu = s.tmu ∧ s.recordsStand (installLadder built s) := by
  obtain ⟨l, src, hb, hl⟩ | hb := built_cases built
  · rw [installLadder_consistent hb hl]
    exact enterAcquiring_leaves _
  · rw [installLadder_fails hb]
    exact failDiscovery_leaves _ s

/-- Settles O32: whatever leads to a ladder, it is installed from the state whose command has ended. -/
theorem readPageStep : Obligations.ReadPageStep := by
  unfold Obligations.ReadPageStep
  intro id s hid
  refine ⟨fun ho => ⟨fun n page => readPageReply_ignored (answers_of_none ho _ _), readPageLimit_ignored (commandDue_of_none ho _)⟩,
    fun o ho => ⟨fun n page hother => ?_, fun hother => ?_, fun n hc hdue hs hn => ?_, fun c built hc hbuilt => ?_⟩⟩
  · refine readPageReply_ignored ?_
    rw [answers_of_some ho, decide_eq_false_iff_not]
    rintro ⟨hc, hn⟩
    exact hother.elim (· hc) (· hn.symm)
  · refine readPageLimit_ignored ?_
    rw [commandDue_of_some ho, decide_eq_false_iff_not]
    rintro ⟨hc, hn⟩
    exact hother.elim (· hc) fun h => by omega
  · rw [readPageLimit_taken (by rw [commandDue_of_some ho]; simp [hc, hdue]), retryDiscovery_again hs hn]
    rfl
  · have hexec : exec c s = .next (installLadder built (endCommand s)) := by
      have hanswers : s.answers .readPage o.number = true := by rw [answers_of_some ho]; simp [hc]
      obtain ⟨page, p, rfl, hpage, hpid, rfl⟩ | ⟨page, rfl, hno, rfl⟩ | ⟨n, rfl, hdue, hs, hn, rfl⟩ := hbuilt
      · rw [readPageReply_taken hanswers, hpage, buildLadder_page (s := endCommand s) hid hpid]
        rfl
      · rw [readPageReply_taken hanswers, buildLadder_profile (s := endCommand s) hid hno]
        rfl
      · rw [readPageLimit_taken (by rw [commandDue_of_some ho]; simp [hc, hdue]), retryDiscovery_last hs hn,
          buildLadder_profile (s := endCommand s) hid (by simp)]
        rfl
    obtain ⟨hpends, hemitted, htmu, hrecords⟩ := installLadder_leaves built (endCommand s)
    refine ⟨_, hexec, hpends, hemitted, htmu, hrecords, fun l src hb hl => ?_, fun hb => ?_⟩
    · rw [installLadder_consistent hb hl, enterAcquiring_lkc]
      rfl
    · rw [installLadder_fails hb, failDiscovery_lkc, (failDiscovery_losses _).2]
      rfl

/-! ### Ladders -/

theorem zipRungs_capacities {caps : List Nat} {ths : List (Int × Int)} (h : ths.length = caps.length) :
    (zipRungs caps ths).map Rung.capacity = caps := by
  induction caps generalizing ths with
  | nil => rfl
  | cons c caps ih =>
    cases ths with
    | nil => cases h
    | cons t ths => simpa [zipRungs] using ih (ths := ths) (by simpa using h)

theorem zipRungs_thresholds {caps : List Nat} {ths : List (Int × Int)} (h : ths.length = caps.length) :
    (zipRungs caps ths).map (fun r => (r.up, r.down)) = ths := by
  induction caps generalizing ths with
  | nil => cases ths <;> simp_all [zipRungs]
  | cons c caps ih =>
    cases ths with
    | nil => cases h
    | cons t ths => simpa [zipRungs] using ih (ths := ths) (by simpa using h)

/-- The asymmetry of a ladder from a page, and where it comes from (R27). -/
def mergedAsymmetry (page : CapabilityPage) (entry : Option Profile) : Int × LadderOrigin :=
  match page.asymmetry, entry with
  | some a, _ => (a, .page)
  | none, some p => (p.ladder.asymmetry, .profile)
  | none, none => (0, .zero)

/-- The thresholds of a ladder from a page, and where they come from (R27). -/
def mergedThresholds (page : CapabilityPage) (entry : Option Profile) : Option (List (Int × Int) × LadderOrigin) :=
  match page.thresholds with
  | some t => some (t, .page)
  | none => (profileThresholds entry page.capacities.length).map fun t => (t, .profile)

theorem ladderFromPage_eq (page : CapabilityPage) (entry : Option Profile) :
    ladderFromPage page entry = (mergedThresholds page entry).map fun t =>
      (⟨zipRungs page.capacities t.1, page.loop, (mergedAsymmetry page entry).1⟩, ⟨.page, t.2, (mergedAsymmetry page entry).2⟩) := rfl

theorem rungsRise_iff (rs : List Rung) :
    rungsRise rs = true ↔ ∀ (i : Nat) (a b : Rung), rs[i]? = some a → rs[i + 1]? = some b → a.capacity ≤ b.capacity ∧ a.down ≤ b.down := by
  induction rs with
  | nil => simp [rungsRise]
  | cons r rest ih =>
    cases rest with
    | nil => simp [rungsRise]
    | cons q rest =>
      rw [rungsRise, Bool.and_eq_true, decide_eq_true_iff, ih]
      constructor
      · rintro ⟨hfirst, hrest⟩ i a b ha hb
        cases i with
        | zero => cases ha; cases hb; exact hfirst
        | succ i => exact hrest i a b ha hb
      · exact fun h => ⟨h 0 r q rfl rfl, fun i a b ha hb => h (i + 1) a b ha hb⟩

theorem drop_one_all_iff (rs : List Rung) (p : Rung → Bool) :
    (rs.drop 1).all p = true ↔ ∀ (i : Nat) (b : Rung), rs[i + 1]? = some b → p b = true := by
  simp only [List.all_eq_true, List.mem_iff_getElem?, List.getElem?_drop, Nat.add_comm 1]
  exact ⟨fun h i b hb => h b ⟨i, hb⟩, fun h b ⟨i, hb⟩ => h i b hb⟩

theorem consistent_iff (l : Ladder) :
    l.consistent = true ↔ ∀ (i : Nat) (a b : Rung), l.rungs[i]? = some a → l.rungs[i + 1]? = some b →
      a.capacity ≤ b.capacity ∧ a.down ≤ b.down ∧ b.down < b.up := by
  rw [Ladder.consistent, Bool.and_eq_true, rungsRise_iff, drop_one_all_iff]
  simp only [decide_eq_true_iff]
  constructor
  · rintro ⟨hrise, hbelow⟩ i a b ha hb
    exact ⟨(hrise i a b ha hb).1, (hrise i a b ha hb).2, hbelow i b hb⟩
  · refine fun h => ⟨fun i a b ha hb => ⟨(h i a b ha hb).1, (h i a b ha hb).2.1⟩, fun i b hb => ?_⟩
    have hlt : i < l.rungs.length := by
      have := (List.getElem?_eq_some_iff.mp hb).1
      omega
    exact (h i _ b (List.getElem?_eq_getElem hlt) hb).2.2

/-- Settles O33, by the merged fields and the checks rung by rung. -/
theorem ladderIsMergedAndChecked : Obligations.LadderIsMergedAndChecked := by
  unfold Obligations.LadderIsMergedAndChecked
  refine ⟨fun page entry => ⟨fun ths hths hlen => ?_, fun p hths hp hlen => ?_, fun hths hno => ?_, fun l src h => ?_⟩, consistent_iff⟩
  · rw [ladderFromPage_eq, mergedThresholds, hths]
    exact ⟨_, _, rfl, zipRungs_capacities hlen, zipRungs_thresholds hlen, rfl⟩
  · have hlen' : (p.ladder.rungs.map fun r => (r.up, r.down)).length = page.capacities.length := by simpa using hlen
    rw [ladderFromPage_eq, mergedThresholds, hths, hp, profileThresholds, if_pos hlen]
    exact ⟨_, _, rfl, zipRungs_capacities hlen', zipRungs_thresholds hlen', rfl⟩
  · rw [ladderFromPage_eq, mergedThresholds, hths]
    cases entry with
    | none => rfl
    | some p => simp [profileThresholds, hno p rfl]
  · rw [ladderFromPage_eq] at h
    obtain ⟨t, -, ht⟩ := Option.map_eq_some_iff.mp h
    cases ht
    exact ⟨rfl, rfl, rfl⟩

end Sys2Proof.Machine

namespace Sys2Proof.Machine

open Sys2Proof

/-! ## Losses and status reports (R36 to R38, R48, R50) -/

theorem enterLost_lkc (x : LossCause) (s : State) :
    (enterLost x s).lkc
      = { s.lkc with
          state := .lost 0, outstanding := none, notice := none, voided := none, upCount := 0, syncMiss := 0, lowRun := 0,
          losses := s.lkc.losses.count x, far := none, unsent := [] } := by simp [enterLost]

theorem enterLost_leaves (x : LossCause) (s : State) :
    (∀ j, (enterLost x s).pends j .linkState = true) ∧ (enterLost x s).emitted = s.emitted ∧ (enterLost x s).tmu.site = s.tmu.site
      ∧ s.recordsStand (enterLost x s) := by
  have hstand : s.tablesStand (enterLost x s) := by simp [State.tablesStand, State.tables, enterLost]
  have hpends : ∀ l j, (linkStateEvent (s.updLkc l)).pends j .linkState = true := fun l j => by simp [pends_linkStateEvent]
  exact ⟨fun j => (depart_moves _ _ _).follows.keeps j .linkState (hpends _ j), by simp [enterLost], by simp [enterLost],
    (enterLost_moves x s).recordsStand hstand (by simp)⟩

theorem depart_noEgress {w : LinkState} (hw : w.carries = true) (out : TestOutcome) (s : State) : (depart w out s).noEgress := fun k => by
  rw [depart_tqm hw, PerSlot.get_map]
  exact depart_egress _

theorem belowDown_iff (s : State) (r : Nat) (m : Int) : s.belowDown r m = true ↔ ∃ q, s.rungs[r]? = some q ∧ m < q.down := by
  unfold State.belowDown State.down
  cases s.rungs[r]? <;> simp

theorem effectiveOf_eq (l : Lkc) (m : Int) :
    l.effectiveOf m = match l.far with
      | some f => if f.age ≤ 8 then min m f.value else m
      | none => m := rfl

/-- Settles O36, by the three things a report can do. -/
theorem statusReportsTaken : Obligations.StatusReportsTaken := by
  unfold Obligations.StatusReportsTaken
  intro c m s hc
  have hexec : exec c s = .next (takeReport m s) := by
    obtain rfl | ⟨rfl, rfl⟩ := hc <;> rfl
  have hbelow := belowDown_iff s 0 (s.marginOf m)
  rw [hexec]
  obtain ⟨hup, h⟩ | ⟨hup, hlost, h⟩ | ⟨hup, hkept, h⟩ := takeReport_cases m s <;> rw [h]
  · exact ⟨fun _ => rfl, fun h => absurd h hup⟩
  · refine ⟨fun h => absurd hup h, fun _ => ⟨fun _ => ⟨_, rfl, ?_⟩, fun h => ?_, fun h => ?_⟩⟩
    · obtain ⟨hpends, hemitted, -, hrecords⟩ := enterLost_leaves .margin (reported m s)
      have hcarries : (reported m s).lkc.state.carries = true := by
        have hstate : (reported m s).lkc.state = .up := hup
        rw [hstate]
        rfl
      exact ⟨enterLost_lkc _ _, depart_exchange hcarries _ _, depart_noEgress hcarries _ _, hpends, hemitted, hrecords⟩
    · exact absurd (hlost.imp_right fun ⟨hb, hn⟩ => ⟨hbelow.mp hb, hn⟩) h
    · exact absurd (hlost.imp_right fun ⟨hb, hn⟩ => ⟨hbelow.mp hb, hn⟩) h
  · refine ⟨fun h => absurd hup h, fun _ => ⟨fun h => ?_, fun _ hlow => ?_, fun _ hlow => ?_⟩⟩
    · exact absurd (h.imp_right fun ⟨hb, hn⟩ => ⟨hbelow.mpr hb, hn⟩) hkept
    · have htaken : reported m s = { s with
          lkc := { s.lkc with near := some (clampMargin m), effective := some (s.marginOf m), lowRun := s.lkc.lowRun + 1 } } := by
        simp [reported, State.updLkc, hbelow.mpr hlow]
      rw [htaken]
      rfl
    · have htaken : reported m s = { s with
          lkc := { s.lkc with near := some (clampMargin m), effective := some (s.marginOf m), lowRun := 0 } } := by
        simp [reported, State.updLkc, show s.belowDown 0 (s.marginOf m) ≠ true from fun hb => hlow (hbelow.mp hb)]
      rw [htaken]
      rfl

end Sys2Proof.Machine

namespace Sys2Proof.Machine

open Sys2Proof

/-! ## Frames leave (R41, R140) -/

theorem frameSent_eq (f : AirFrame) (rest : List AirFrame) (s : State) :
    frameSent f rest s
      = { s with
          lkc := { s.lkc with unsent := rest },
          emitted := s.emitted ++ [.airFrame f (if f.request then some s.tmu.site else none)],
          tmu := { s.tmu with exchange := (frameSent f rest s).tmu.exchange } } := by
  unfold frameSent
  cases f.request <;> rfl

/-- A frame's request sets the exchange's time of sending and starts its reply timer, where the exchange waits for that frame. -/
theorem frameSent_exchange {f : AirFrame} {s : State} {x : Exchange} (rest : List AirFrame) (hf : f.request = true)
    (hx : s.tmu.exchange = some x) (hr : x.request = some f.number) (hs : x.sent = none) :
    (frameSent f rest s).tmu.exchange = some { x with sent := some ⟨s.tmu.site, 0⟩ } := by
  simp [frameSent, hf, stampRequest, hx, hr, hs]

theorem frameSent_tmu {f : AirFrame} (rest : List AirFrame) (hf : f.request = false) (s : State) : (frameSent f rest s).tmu = s.tmu := by
  simp [frameSent, hf]

/-- What the last frame before a hold is followed by: the command of the phase entered. -/
theorem leavePending_eq (b : Bool) (s : State) :
    leavePending b s = { s with lkc := (leavePending b s).lkc, emitted := s.emitted ++ [.odu (if b then .loopOff else .loopOn)] } := by
  cases b <;> rfl

/-- Settles O43, by what each departure leaves. -/
theorem framesLeaveInOrder : Obligations.FramesLeaveInOrder := by
  unfold Obligations.FramesLeaveInOrder
  intro s
  have hexec : exec .frameLeavesRadioPort s = .next (sendFrame s) := rfl
  rw [hexec]
  obtain ⟨hnone, h⟩ | ⟨f, rest, hf, h⟩ := sendFrame_cases s
  · exact ⟨fun _ => by rw [h], fun f rest hf => nomatch hnone.symm.trans hf⟩
  refine ⟨fun hnone => absurd (hnone.symm.trans hf) (by simp), fun g rest' hg => ?_⟩
  obtain ⟨rfl, rfl⟩ := List.cons.inj (hf.symm.trans hg)
  have hsent := frameSent_eq f rest s
  obtain ⟨hlkc, -, -, hemitted⟩ := frameSent_frame f rest s
  have hexchange : ∀ x, f.request = true → s.tmu.exchange = some x → x.request = some f.number → x.sent = none →
      (frameSent f rest s).tmu.exchange = some { x with sent := some ⟨s.tmu.site, 0⟩ } := fun x => frameSent_exchange rest
  have hstands : f.request = false → (frameSent f rest s).tmu = s.tmu := fun hr => frameSent_tmu rest hr s
  obtain ⟨u, asked, hs, hu, h⟩ | ⟨u, asked, hs, hu, h⟩ | ⟨hs, h⟩ := h
  · have hleft := leavePending_eq asked (frameSent f rest s)
    have hall : sendFrame s = { s with
        lkc := (sendFrame s).lkc, emitted := (sendFrame s).emitted,
        tmu := { s.tmu with exchange := (sendFrame s).tmu.exchange } } := by
      rw [h, hleft, hsent]
    have htmu : (sendFrame s).tmu = (frameSent f rest s).tmu := by rw [h, hleft]
    have hout : (sendFrame s).emitted
        = s.emitted ++ [.airFrame f (if f.request then some s.tmu.site else none), .odu (if asked then .loopOff else .loopOn)] := by
      rw [h, hleft, hemitted]
      simp
    have hnever : ¬∀ u asked, s.lkc.state ≠ .held (.holdPending u asked) := fun hno => hno u asked hs
    cases asked with
    | false =>
      have hlink := (congrArg State.lkc h).trans (leavePending_lkc _)
      rw [hlkc] at hlink
      refine ⟨_, rfl, by rw [hlink], by rw [hlink], ⟨fun _ => hout, fun ⟨v, hv, _⟩ => ?_, fun hno => ?_⟩,
        by rw [htmu]; exact hexchange, fun hr => htmu.trans (hstands hr), fun _ _ _ => by simp [hlink],
        fun v hv => ?_, fun v b hv hlt => ?_, fun hno => absurd hno hnever, hall⟩
      · simp [hs] at hv
      · exact absurd ⟨u, hs, hu⟩ hno
      · simp [hs] at hv
      · simp only [hs, LinkState.held.injEq, LoopPhase.holdPending.injEq] at hv
        omega
    | true =>
      have hlink := (congrArg State.lkc h).trans (enterLoopExit_lkc _)
      rw [hlkc] at hlink
      refine ⟨_, rfl, by rw [hlink], by rw [hlink], ⟨fun ⟨v, hv, _⟩ => ?_, fun _ => hout, fun _ hno => ?_⟩,
        by rw [htmu]; exact hexchange, fun hr => htmu.trans (hstands hr), fun v hv => ?_,
        fun _ _ _ => by simp [hlink], fun v b hv hlt => ?_, fun hno => absurd hno hnever, hall⟩
      · simp [hs] at hv
      · exact absurd ⟨u, hs, hu⟩ hno
      · simp [hs] at hv
      · simp only [hs, LinkState.held.injEq, LoopPhase.holdPending.injEq] at hv
        omega
  · have hall : sendFrame s = { s with
        lkc := (sendFrame s).lkc, emitted := (sendFrame s).emitted,
        tmu := { s.tmu with exchange := (sendFrame s).tmu.exchange } } := by rw [h, hsent]; rfl
    have hearly : ∀ v b, s.lkc.state = .held (.holdPending v b) → ¬v ≤ 1 := fun v b hv => by
      simp only [hs, LinkState.held.injEq, LoopPhase.holdPending.injEq] at hv
      omega
    refine ⟨_, rfl, by rw [h, State.updLkc_lkc, hlkc], by rw [h, State.updLkc_lkc, hlkc],
      ⟨fun ⟨v, hv, hle⟩ => absurd hle (hearly v _ hv), fun ⟨v, hv, hle⟩ => absurd hle (hearly v _ hv), fun _ _ => by rw [h]; exact hemitted⟩,
      by rw [h]; exact hexchange, by rw [h]; exact hstands, fun v hv hle => absurd hle (hearly v _ hv),
      fun v hv hle => absurd hle (hearly v _ hv), fun v b hv _ => ?_, fun hno => absurd hs (hno u asked), hall⟩
    simp only [hs, LinkState.held.injEq, LoopPhase.holdPending.injEq] at hv
    obtain ⟨rfl, rfl⟩ := hv
    rw [h]
    rfl
  · have hall : sendFrame s = { s with
        lkc := (sendFrame s).lkc, emitted := (sendFrame s).emitted,
        tmu := { s.tmu with exchange := (sendFrame s).tmu.exchange } } := by rw [h, hsent]
    refine ⟨_, rfl, by rw [h, hlkc], by rw [h, hlkc], ⟨?_, ?_, fun _ _ => by rw [h, hemitted]⟩, by rw [h]; exact hexchange,
      by rw [h]; exact hstands, ?_, ?_, ?_, fun _ => by rw [h, hlkc], hall⟩
    · rintro ⟨u, hu, -⟩; exact absurd hu (hs u false)
    · rintro ⟨u, hu, -⟩; exact absurd hu (hs u true)
    · exact fun u hu => absurd hu (hs u false)
    · exact fun u hu => absurd hu (hs u true)
    · exact fun u b hu => absurd hu (hs u b)

end Sys2Proof.Machine

namespace Sys2Proof.Machine

open Sys2Proof

/-! ## Limits and profiles written (R31, R61, R115, R203) -/

theorem exec_setRungLimits {k : Slot} {s : State} (h : s.mayAsk k .linkControl) (tag : Byte) (ps : List Byte) :
    exec (.setRungLimits k tag ps) s = .next (conclude k tag (judgeSetRungLimits ps s) s) :=
  congrArg Host.Outcome.next (serve_mayAsk h tag _ (.inl rfl))

theorem exec_writeProfile {k : Slot} {s : State} (h : s.mayAsk k .siteControl) (hl : s.sli.lock = false) (tag : Byte) (ps : List Byte) :
    exec (.writeProfile k tag ps) s = .next (conclude k tag (judgeWriteProfile ps s) s) :=
  congrArg Host.Outcome.next (serve_mayAsk h tag _ (.inr hl))

theorem exec_setLinkLimits {k : Slot} {s : State} (h : s.mayAsk k .siteControl) (tag : Byte) (ps : List Byte) :
    exec (.setLinkLimits k tag ps) s = .next (conclude k tag (judgeSetLinkLimits ps s) s) :=
  congrArg Host.Outcome.next (serve_mayAsk h tag _ (.inl rfl))

theorem exec_setGrantLimits {k : Slot} {s : State} (h : s.mayAsk k .siteControl) (tag : Byte) (ps : List Byte) :
    exec (.setGrantLimits k tag ps) s = .next (conclude k tag (judgeSetGrantLimits ps s) s) :=
  congrArg Host.Outcome.next (serve_mayAsk h tag _ (.inl rfl))

/-- A byte parameter that names the ceiling. -/
theorem numParam_byte {n : Nat} (h : n < 256) : numParam 1 [BitVec.ofNat 8 n] = some n := by
  have hbytes : toBE 1 n = [BitVec.ofNat 8 n] := by simp [toBE]
  rw [← hbytes]
  exact numParam_toBE (by omega)

theorem profile_held_iff (ps : List Profile) (id : OduId) :
    (ps.any fun x => decide (x.key = id)) = true ↔ ∃ p ∈ ps, p.key = id := by simp

/-- An entry put in place of the one of its key is found under its key, and the others as before. -/
theorem matching_replaced (ps : List Profile) (p : Profile) (id : OduId) :
    matching (ps.map fun x => if x.key = p.key then p else x) id
      = if id = p.key ∧ ∃ x ∈ ps, x.key = p.key then some p else if id = p.key then none else matching ps id := by
  induction ps with
  | nil => simp [matching]
  | cons x ps ih =>
    unfold matching at ih ⊢
    by_cases hx : x.key = p.key <;> by_cases hid : id = p.key <;> by_cases hxid : x.key = id <;> simp_all

theorem matching_appended (ps : List Profile) (p : Profile) (id : OduId) :
    matching (ps ++ [p]) id = ((matching ps id).or (if p.key = id then some p else none)) := by
  simp [matching, List.find?_append]

theorem matching_putProfile_same (ps : List Profile) (p : Profile) : matching (putProfile ps p) p.key = some p := by
  unfold putProfile
  split
  · next h => rw [matching_replaced, if_pos ⟨rfl, (profile_held_iff ps p.key).mp h⟩]
  · next h =>
    have hnone : matching ps p.key = none := by simpa [matching] using h
    rw [matching_appended, hnone, if_pos rfl]
    rfl

theorem matching_putProfile_other (ps : List Profile) (p : Profile) {id : OduId} (h : id ≠ p.key) :
    matching (putProfile ps p) id = matching ps id := by
  unfold putProfile
  split
  · rw [matching_replaced, if_neg (by simp [h]), if_neg h]
  · rw [matching_appended, if_neg (Ne.symm h), Option.or_none]

/-- A limit that may be absent is in its range. -/
theorem limit_ok_iff (o : Option Nat) (n : Nat) : o.all (fun x => decide (1 ≤ x ∧ x ≤ n)) = true ↔ ∀ x ∈ o, 1 ≤ x ∧ x ≤ n := by
  cases o <;> simp

/-- A limit given out of its range. -/
theorem limit_out {o : Option Nat} {n : Nat} (h : ∃ x ∈ o, x = 0 ∨ n < x) : ¬∀ x ∈ o, 1 ≤ x ∧ x ≤ n := fun hin => by
  obtain ⟨x, hx, hout⟩ := h
  have := hin x hx
  omega

/-- Settles O45, request by request. -/
theorem linkAndGrantLimitsWritten : Obligations.LinkAndGrantLimitsWritten := by
  unfold Obligations.LinkAndGrantLimitsWritten
  intro k tag ps s
  refine ⟨fun n hask hn => ?_, fun id hask hlock hps => ?_, fun id l hask hlock hps => ?_, fun u l c hask hps hsome hu hl hc hu' hc' => ?_,
    fun u l c hask hps hbad => ?_, fun m a hask hps hbad => ?_, fun m a hask hps hsome hm ha => ?_⟩
  · rw [exec_setRungLimits hask, judgeSetRungLimits, numParam_byte hn, withParams_some]
    refine ⟨fun h => by rw [if_pos h]; rfl, fun h => ?_⟩
    rw [if_neg (by omega)]
    unfold State.ceilingInForce
    cases hladder : s.lkc.ladder with
    | none => simp [hladder, optField, State.updLkc]
    | some l => simp [hladder, optField, State.updLkc]
  · rw [exec_writeProfile hask hlock, judgeWriteProfile, hps, withParams_some]
    have hheld := profile_held_iff s.lkc.profiles id
    refine ⟨fun hno => ?_, fun hsome => ?_⟩
    · dsimp only
      rw [if_neg (fun h => by obtain ⟨p, hp, hk⟩ := hheld.mp h; exact hno p hp hk)]
      rfl
    · dsimp only
      rw [if_pos (hheld.mpr hsome)]
      rfl
  · rw [exec_writeProfile hask hlock, judgeWriteProfile, hps, withParams_some]
    have hheld := profile_held_iff s.lkc.profiles id
    refine ⟨fun hbad => ?_, fun hrange hcons hno hfull => ?_, fun hrange hcons hroom => ?_⟩
    · dsimp only
      rw [if_pos (by obtain h | h := hbad <;> simp [h])]
      rfl
    · dsimp only
      rw [if_neg (by simp [hrange, hcons]), if_pos]
      · rfl
      · simpa [Config.maxProfiles, hfull] using hno
    · dsimp only
      rw [if_neg (by simp [hrange, hcons]), if_neg]
      · exact ⟨_, rfl, matching_putProfile_same _ _, fun other h => matching_putProfile_other _ _ h, rfl⟩
      · obtain ⟨p, hp, hk⟩ | hlt := hroom
        · simp only [Bool.and_eq_true, not_and]
          exact fun h => absurd (hheld.mpr ⟨p, hp, hk⟩) (by simpa using h)
        · simp [Config.maxProfiles, Nat.not_le.mpr hlt]
  · rw [exec_setLinkLimits hask, judgeSetLinkLimits, hps, withParams_some, if_pos]
    · rfl
    · simp only [Bool.and_eq_true, Bool.or_eq_true, limit_ok_iff, or_assoc, and_assoc]
      exact ⟨hsome, fun x hx => ⟨hu x hx, hu' x hx⟩, hl, fun x hx => ⟨hc x hx, hc' x hx⟩⟩
  · rw [exec_setLinkLimits hask, judgeSetLinkLimits, hps, withParams_some, if_neg]
    · rfl
    · simp only [Bool.and_eq_true, Bool.or_eq_true, limit_ok_iff, or_assoc, and_assoc]
      rintro ⟨hsome, hu, hl, hc⟩
      obtain ⟨rfl, rfl, rfl⟩ | hbad | hbad | hbad := hbad
      · simp at hsome
      · exact limit_out hbad hu
      · exact limit_out hbad hl
      · exact limit_out hbad hc
  · rw [exec_setGrantLimits hask, judgeSetGrantLimits, hps, withParams_some, if_neg]
    · rfl
    · simp only [Bool.and_eq_true, Bool.or_eq_true, limit_ok_iff, and_assoc]
      rintro ⟨hsome, hm, ha⟩
      obtain ⟨rfl, rfl⟩ | hbad | hbad := hbad
      · simp at hsome
      · exact limit_out hbad hm
      · exact limit_out hbad ha
  · rw [exec_setGrantLimits hask, judgeSetGrantLimits, hps, withParams_some, if_pos]
    · rfl
    · simp only [Bool.and_eq_true, Bool.or_eq_true, limit_ok_iff, and_assoc]
      exact ⟨hsome, hm, ha⟩

end Sys2Proof.Machine

/-! What a frame fill takes of its frame (chapters 2, 4 and 6): the grants fill no more than the room, the segments no more than the grants. -/

namespace Sys2Proof

/-! ## Sums over the four slots -/

theorem PerSlot.sum_modify_add (p : PerSlot Nat) (k : Slot) (n : Nat) : (p.modify k fun x => x + n).sum = p.sum + n := by
  fin_cases k <;> simp [PerSlot.modify, PerSlot.sum] <;> omega

theorem PerSlot.sum_le {p q : PerSlot Nat} (h : ∀ k, p.get k ≤ q.get k) : p.sum ≤ q.sum := by
  have h0 := h 0
  have h1 := h 1
  have h2 := h 2
  have h3 := h 3
  rw [PerSlot.sum_eq_get, PerSlot.sum_eq_get]
  omega

theorem PerSlot.sum_add (f g : Slot → Nat) : (PerSlot.ofFn fun k => f k + g k).sum = (PerSlot.ofFn f).sum + (PerSlot.ofFn g).sum := by
  simp only [PerSlot.sum_ofFn]
  omega

end Sys2Proof

namespace Sys2Proof.Machine

open Sys2Proof

/-! ## Grants and segments -/

/-- A walk gives out no more than its room. -/
theorem walk_le (want : PerSlot Nat) (ranked : List Slot) (room : Nat) : (walk want ranked room).sum ≤ room := by
  induction ranked generalizing room with
  | nil => exact Nat.zero_le _
  | cons k rest ih =>
    rw [walk, PerSlot.sum_modify_add]
    have hrest := ih (room - min (want.get k) room)
    omega

/-- Shares of `n` in proportion, each rounded down. -/
theorem shares_le (n : Nat) (w : PerSlot Nat) : (w.map fun x => x * n / w.sum).sum ≤ n := by
  have hdiv : ∀ a b : Nat, a / w.sum + b / w.sum ≤ (a + b) / w.sum := fun _ _ => Nat.div_add_div_le_add_div
  calc (w.map fun x => x * n / w.sum).sum
      = w.s0 * n / w.sum + w.s1 * n / w.sum + w.s2 * n / w.sum + w.s3 * n / w.sum := rfl
    _ ≤ (w.s0 * n + w.s1 * n + w.s2 * n + w.s3 * n) / w.sum := by
        have h1 := hdiv (w.s0 * n) (w.s1 * n)
        have h2 := hdiv (w.s0 * n + w.s1 * n) (w.s2 * n)
        have h3 := hdiv (w.s0 * n + w.s1 * n + w.s2 * n) (w.s3 * n)
        omega
    _ = w.sum * n / w.sum := by rw [PerSlot.sum, Nat.add_mul, Nat.add_mul, Nat.add_mul]
    _ ≤ n := Nat.div_le_of_le_mul (le_refl _)

theorem entitlements_le (room : Nat) (q : PerSlot Nat) : (entitlements room q).sum ≤ room := by
  unfold entitlements
  split
  · assumption
  · have hfloors : (floors room q).sum ≤ room := shares_le room q
    have hgain := walk_le ⟨1, 1, 1, 1⟩ (remainderRank room q) (room - (floors room q).sum)
    dsimp only
    rw [PerSlot.sum_add]
    change (floors room q).sum + (walk _ _ _).sum ≤ room
    omega

theorem roundOne_le (surplus : Nat) (w r : PerSlot Nat) : (roundOne surplus w r).sum ≤ surplus := by
  refine le_trans (PerSlot.sum_le fun k => ?_) (shares_le surplus (PerSlot.ofFn fun k => if 0 < r.get k then w.get k else 0))
  unfold roundOne
  rw [PerSlot.get_map, PerSlot.get_ofFn, PerSlot.get_ofFn]
  split
  · rw [Nat.mul_comm surplus]
    exact min_le_right _ _
  · exact Nat.zero_le _

/-- The grants of a pass fill no more than its room (R101 to R109). -/
theorem divide_le (room : Nat) (es : PerSlot Entrant) : (divide room es).grant.sum ≤ room := by
  have hg : (divide room es).g.sum ≤ room :=
    le_trans (PerSlot.sum_le fun k => by simp [divide]) (entitlements_le room (es.map Entrant.q))
  have hx : (divide room es).x.sum ≤ room - (divide room es).g.sum := walk_le _ _ _
  have hf : (divide room es).f.sum ≤ room - (divide room es).g.sum - (divide room es).x.sum := roundOne_le _ _ _
  have hr2 : (divide room es).r2.sum ≤ room - (divide room es).g.sum - (divide room es).x.sum - (divide room es).f.sum := walk_le _ _ _
  have hgrant : (divide room es).grant.sum
      = (divide room es).g.sum + (divide room es).x.sum + (divide room es).f.sum + (divide room es).r2.sum := by
    change (PerSlot.ofFn fun k => _).sum = _
    rw [PerSlot.sum_add, PerSlot.sum_add, PerSlot.sum_add]
    rfl
  omega

/-- The PB of a list of segments. -/
def segmentPB (l : List Segment) : Nat := (l.map Segment.length).sum

theorem segmentPB_append (a b : List Segment) : segmentPB (a ++ b) = segmentPB a + segmentPB b := by simp [segmentPB]

theorem drainQueue_segments (k : Slot) (q : List Packet) (grant : Nat) :
    segmentPB (drainQueue k q grant).segments + (drainQueue k q grant).left = grant := by
  induction q generalizing grant with
  | nil => simp [drainQueue, segmentPB]
  | cons p rest ih =>
    unfold drainQueue
    split
    · next h => simp [segmentPB, h]
    · split
      · next h =>
        have hrest := ih (grant - p.remaining)
        simp only [segmentPB, List.map_cons, List.sum_cons, cutSegment] at hrest ⊢
        omega
      · simp [segmentPB, cutSegment]

theorem drain_segments_le (t : Traffic) (k : Slot) (grant : Nat) : segmentPB (t.drain k grant).1 ≤ grant := by
  have hexpress := drainQueue_segments k t.express grant
  have hbulk := drainQueue_segments k t.bulk (drainQueue k t.express grant).left
  simp only [Traffic.drain, segmentPB_append]
  omega

theorem drainAll_segments_le (g : PerSlot Nat) (s : State) : segmentPB (drainAll g s).1 ≤ g.sum := by
  have hdrain := fun k => drain_segments_le (s.tqm.get k) k (g.get k)
  have hall : segmentPB (drainAll g s).1 = (PerSlot.ofFn fun k => segmentPB ((s.tqm.get k).drain k (g.get k)).1).sum := by
    simp [drainAll, PerSlot.toList, PerSlot.map, PerSlot.ofFn, PerSlot.sum, segmentPB]
    omega
  rw [hall]
  exact PerSlot.sum_le fun k => by rw [PerSlot.get_ofFn]; exact hdrain k

theorem borrow_le (s : State) (a q : Nat) : s.borrow a q ≤ a := by
  unfold State.borrow
  split <;> omega

/-- The pass's borrow and segments fill no more than the frame's capacity less the control reserve (R69, R95). -/
theorem passAndDrain_le (s : State) :
    (passAndDrain s).1 + segmentPB (passAndDrain s).2.1 ≤ s.capacity s.lkc.rung - Config.controlReserve := by
  have hborrow := borrow_le s (s.capacity s.lkc.rung - Config.controlReserve) (effectiveSum s.entrants)
  have hdrain : segmentPB (passAndDrain s).2.1 ≤ (divide _ s.entrants).grant.sum := drainAll_segments_le _ _
  have hdivide := divide_le (s.capacity s.lkc.rung - Config.controlReserve
    - s.borrow (s.capacity s.lkc.rung - Config.controlReserve) (effectiveSum s.entrants)) s.entrants
  have hfirst : (passAndDrain s).1 = s.borrow (s.capacity s.lkc.rung - Config.controlReserve) (effectiveSum s.entrants) := rfl
  omega

end Sys2Proof.Machine

namespace Sys2Proof.Machine

open Sys2Proof

/-! ## The frame filled -/

/-- The frame put at the tail of those not sent. -/
def filledFrame (request : Bool) (pattern : Nat) (segments : List Segment) (s : State) : AirFrame :=
  { number := s.lkc.frame, rung := s.lkc.rung, notice := s.lkc.carried, nearMargin := s.lkc.near.getD (-400), request := request,
    report := if s.airRunning then some (s.lkc.farPattern.getD ⟨0, 0⟩) else none, pattern := pattern, segments := segments,
    idle := s.capacity s.lkc.rung - Config.controlReserve - (pattern + segmentPB segments) }

theorem pushFrame_lkc (b : Bool) (p : Nat) (g : List Segment) (s : State) :
    (pushFrame b p g s).lkc = { s.lkc with unsent := s.lkc.unsent ++ [filledFrame b p g s] } := rfl

/-- The frame has its number, its rung, its notice and its margin from the link record. -/
def AirFrame.heads (f : AirFrame) (l : Lkc) : Prop :=
  f.number = l.frame ∧ f.rung = l.rung ∧ f.notice = l.carried ∧ f.nearMargin = l.near.getD (-400)

/-- The frame accounts for a capacity that holds the control reserve. -/
def AirFrame.fills (f : AirFrame) (capacity : Nat) : Prop :=
  4 ≤ capacity → 4 + f.pattern + (f.segments.map Segment.length).sum + f.idle = capacity

theorem filledFrame_heads (b : Bool) (p : Nat) (g : List Segment) (s : State) : AirFrame.heads (filledFrame b p g s) s.lkc := ⟨rfl, rfl, rfl, rfl⟩

theorem filledFrame_fills (b : Bool) {p : Nat} {g : List Segment} {s : State}
    (h : p + segmentPB g ≤ s.capacity s.lkc.rung - Config.controlReserve) :
    AirFrame.fills (filledFrame b p g s) (s.capacity s.lkc.rung) := by
  intro hc
  have hreserve : Config.controlReserve = 4 := rfl
  have hidle : (filledFrame b p g s).idle = s.capacity s.lkc.rung - Config.controlReserve - (p + segmentPB g) := rfl
  change 4 + p + segmentPB g + (filledFrame b p g s).idle = _
  omega

/-- The state a fill in UP puts its frame to, once the notice is announced: the pass made, TSU's count and the request placed. -/
def passMade (s : State) : Bool × State := placeRequest s.lkc.frame (airFill s.lkc.frame (passAndDrain s).1 (passAndDrain s).2.2)

theorem passMade_lkc (s : State) : (passMade s).2.lkc = s.lkc := by simp [passMade, passAndDrain, drainAll]

theorem fillUp_eq (s : State) :
    fillUp s = judgeAir (pushFrame (passMade (s.updLkc Lkc.announce)).1 (passAndDrain (s.updLkc Lkc.announce)).1
      (passAndDrain (s.updLkc Lkc.announce)).2.1 (passMade (s.updLkc Lkc.announce)).2) := rfl

theorem capacity_congr {s t : State} (h : t.lkc.ladder = s.lkc.ladder) (r : Nat) : t.capacity r = s.capacity r := by
  simp [State.capacity, State.rungs, h]

theorem announce_parts (l : Lkc) :
    l.announce.ladder = l.ladder ∧ l.announce.rung = l.rung ∧ l.announce.unsent = l.unsent ∧ l.announce.frame = l.frame := by
  rw [announce_keeps]
  exact ⟨rfl, rfl, rfl, rfl⟩

/-- The fill in UP with no hold requested: the notice announced, the frame at the tail. -/
theorem fillUp_fills (s : State) :
    ∃ f : AirFrame, (fillUp s).lkc = { s.lkc.announce with unsent := s.lkc.unsent ++ [f] } ∧ f.heads s.lkc.announce
      ∧ f.fills (s.capacity s.lkc.rung) := by
  obtain ⟨hladder, hrung, hunsent, -⟩ := announce_parts s.lkc
  have hlkc := passMade_lkc (s.updLkc Lkc.announce)
  have hcapacity : (passMade (s.updLkc Lkc.announce)).2.capacity (passMade (s.updLkc Lkc.announce)).2.lkc.rung = s.capacity s.lkc.rung := by
    rw [hlkc, State.updLkc_lkc, hrung]
    exact capacity_congr (by rw [hlkc]; exact hladder) _
  have hpass := passAndDrain_le (s.updLkc Lkc.announce)
  rw [State.updLkc_lkc, hrung, capacity_congr (s := s) hladder] at hpass
  have hheads := filledFrame_heads (passMade (s.updLkc Lkc.announce)).1 (passAndDrain (s.updLkc Lkc.announce)).1
    (passAndDrain (s.updLkc Lkc.announce)).2.1 (passMade (s.updLkc Lkc.announce)).2
  have hfills := filledFrame_fills (passMade (s.updLkc Lkc.announce)).1 (hpass.trans_eq (by rw [hcapacity]))
  rw [hcapacity] at hfills
  rw [hlkc] at hheads
  refine ⟨_, ?_, hheads, hfills⟩
  rw [fillUp_eq, (judgeAir_frame _).2.1, pushFrame_lkc, hlkc]
  simp [hunsent]

/-- TSU's count of a looped frame (R175). -/
def loopCounted (s : State) : State :=
  updLoop (fun p => { p with looped := p.looped + 1, sent := p.sent + (s.capacity s.lkc.rung - Config.controlReserve) }) s

/-- A fill in LOOPING, before the phase is looked at: pattern throughout, and one more looped frame awaited. -/
def loopFilled (s : State) : State :=
  (pushFrame false (s.capacity s.lkc.rung - Config.controlReserve) [] (loopCounted s)).updLkc fun l =>
    { l with looped := l.looped ++ [⟨l.frame, s.capacity s.lkc.rung - Config.controlReserve, 0⟩] }

theorem fillHeld_looping {s : State} (h : s.lkc.state = .held .looping) :
    fillHeld s = if s.loopFrames ≤ ((loopCounted s).loopProgress.map LoopProgress.looped).getD 0 then enterLoopExit (loopFilled s)
      else loopFilled s := if_pos h

theorem fillHeld_idle {s : State} (h : s.lkc.state ≠ .held .looping) : fillHeld s = pushFrame false 0 [] s := if_neg h

theorem loopCounted_lkc (s : State) : (loopCounted s).lkc = s.lkc := by simp [loopCounted]

/-- The frame of a fill in LOOPING. -/
def loopFrame (s : State) : AirFrame := filledFrame false (s.capacity s.lkc.rung - Config.controlReserve) [] (loopCounted s)

theorem loopFilled_lkc (s : State) :
    (loopFilled s).lkc
      = { s.lkc with
          unsent := s.lkc.unsent ++ [loopFrame s],
          looped := s.lkc.looped ++ [⟨s.lkc.frame, s.capacity s.lkc.rung - Config.controlReserve, 0⟩] } := by
  simp [loopFilled, pushFrame_lkc, loopCounted_lkc, loopFrame]

theorem loopFrame_fills (s : State) : (loopFrame s).heads s.lkc ∧ (loopFrame s).fills (s.capacity s.lkc.rung) := by
  have hlkc := loopCounted_lkc s
  have hcapacity : (loopCounted s).capacity (loopCounted s).lkc.rung = s.capacity s.lkc.rung := by
    rw [hlkc]
    exact capacity_congr (by rw [hlkc]) _
  have hheads := filledFrame_heads false (s.capacity s.lkc.rung - Config.controlReserve) [] (loopCounted s)
  have hfills := filledFrame_fills (s := loopCounted s) false (p := s.capacity s.lkc.rung - Config.controlReserve) (g := [])
    (by rw [hcapacity]; exact le_refl _)
  rw [hlkc] at hheads
  rw [hcapacity] at hfills
  exact ⟨hheads, hfills⟩

/-- The fill in HELD: idle, or in LOOPING pattern throughout, and the frame at the tail. -/
theorem fillHeld_fills (s : State) :
    ∃ f : AirFrame, (fillHeld s).lkc.unsent = s.lkc.unsent ++ [f] ∧ f.heads s.lkc ∧ f.fills (s.capacity s.lkc.rung)
      ∧ f.pattern = (if s.lkc.state = .held .looping then s.capacity s.lkc.rung - 4 else 0) ∧ f.segments = [] ∧ f.request = false
      ∧ (fillHeld s).lkc = { s.lkc with
          unsent := (fillHeld s).lkc.unsent, looped := (fillHeld s).lkc.looped, state := (fillHeld s).lkc.state,
          outstanding := (fillHeld s).lkc.outstanding, sent := (fillHeld s).lkc.sent, late := (fillHeld s).lkc.late } := by
  by_cases h : s.lkc.state = .held .looping
  · obtain ⟨hheads, hfills⟩ := loopFrame_fills s
    refine ⟨loopFrame s, ?_, hheads, hfills, (if_pos h).symm, rfl, rfl, ?_⟩ <;> rw [fillHeld_looping h] <;> split
    · rw [enterLoopExit_lkc, loopFilled_lkc]
    · rw [loopFilled_lkc]
    · rw [enterLoopExit_lkc, loopFilled_lkc]
    · rw [loopFilled_lkc]
  · rw [fillHeld_idle h, if_neg h]
    exact ⟨_, rfl, filledFrame_heads _ _ _ _, filledFrame_fills _ (Nat.zero_le _), rfl, rfl, rfl, rfl⟩

/-! ## The notice due (R56 to R58) -/

/-- The link record once the rung is fixed for its frame. -/
def Lkc.fixed (l : Lkc) : Lkc :=
  match l.noticeDue l.frame with
  | some n => { l with rung := n.target, notice := none, voided := none }
  | none =>
    { l with voided := none,
             notice := match l.notice with
               | some ⟨_, _, .decided⟩ => if l.state.isHeld then none else l.notice
               | n => n }

theorem fixed_due {l : Lkc} {n : Notice} (h : l.noticeDue l.frame = some n) :
    l.fixed = { l with rung := n.target, notice := none, voided := none } := by simp [Lkc.fixed, h]

theorem fixRung_lkc (s : State) : (fixRung s).lkc = s.lkc.fixed := by
  cases hd : s.lkc.noticeDue s.lkc.frame with
  | some n =>
    have hfix : fixRung s = takeEffect n s := by simp only [fixRung, hd]
    rw [hfix, takeEffect_lkc, fixed_due hd]
  | none => simp only [fixRung, Lkc.fixed, hd, State.updLkc_lkc] <;> rfl

theorem fixed_parts (l : Lkc) : l.fixed = { l with rung := l.fixed.rung, notice := l.fixed.notice, voided := none } := by
  unfold Lkc.fixed
  split <;> rfl

theorem noticeDue_voided {l : Lkc} {v : Notice} (h : l.voided = some v) (frame : Nat) :
    l.noticeDue frame = if v.effectiveFrame = some frame then some v else none := by simp [Lkc.noticeDue, h]

theorem noticeDue_pending {l : Lkc} {n : Notice} (hv : l.voided = none) (h : l.notice = some n) (frame : Nat) :
    l.noticeDue frame = if n.effectiveFrame = some frame then some n else none := by simp [Lkc.noticeDue, hv, h]

theorem noticeDue_none {l : Lkc} (hv : l.voided = none) (h : l.notice = none) (frame : Nat) : l.noticeDue frame = none := by
  simp [Lkc.noticeDue, hv, h]

theorem fixed_kept {l : Lkc} (h : l.noticeDue l.frame = none) : l.fixed.rung = l.rung ∧ l.fixed.voided = none := by
  simp [Lkc.fixed, h]

/-- RUNG is raised where the notice due changes the rung (R58). -/
theorem pends_fixRung {s : State} {n : Notice} (h : s.lkc.noticeDue s.lkc.frame = some n) (hn : n.target ≠ s.lkc.rung) (k : Slot) :
    (fixRung s).pends k .rung = true := by
  have hfix : fixRung s = raiseAll .rung (s.updLkc fun l => { l with rung := n.target, notice := none, voided := none }) := by
    unfold fixRung
    rw [h]
    exact if_neg hn
  rw [hfix, pends_raiseAll]
  simp

end Sys2Proof.Machine

namespace Sys2Proof.Machine

open Sys2Proof

/-! ### A notice through its frames -/

theorem announce_none {l : Lkc} (h : l.notice = none) : l.announce = l := by simp [Lkc.announce, h]

theorem announce_decided {l : Lkc} {r : Nat} {c : NoticeCause} (h : l.notice = some ⟨r, c, .decided⟩) :
    l.announce = { l with notice := some ⟨r, c, .announced l.frame ((l.frame + 2) % 65536)⟩ } := by simp [Lkc.announce, h, Config.frameModulus]

theorem announce_announced {l : Lkc} {r : Nat} {c : NoticeCause} {a e : Nat} (h : l.notice = some ⟨r, c, .announced a e⟩) :
    l.announce = l := by simp [Lkc.announce, h]

theorem carried_none {l : Lkc} (h : l.notice = none) : l.carried = none := by simp [Lkc.carried, h]

theorem carried_announced {l : Lkc} {r : Nat} {c : NoticeCause} {a e : Nat} (h : l.notice = some ⟨r, c, .announced a e⟩) :
    l.carried = if l.frame = a ∨ l.frame = (a + 1) % 65536 then some ⟨r, e⟩ else none := by
  rw [Lkc.carried, h]
  rfl

/-- Where no notice is due, one that is kept stays: a DECIDED one outside HELD, an ANNOUNCED one anywhere. -/
theorem fixed_notice {l : Lkc} (h : l.noticeDue l.frame = none)
    (hk : l.state.isHeld = false ∨ ∀ r c, l.notice ≠ some ⟨r, c, .decided⟩) : l.fixed.notice = l.notice := by
  rw [Lkc.fixed, h]
  dsimp only
  split
  · next r c hn =>
    obtain hs | hno := hk
    · rw [if_neg (by simp [hs])]
    · exact absurd hn (hno r c)
  · rfl

/-- In HELD a DECIDED notice is discarded (R56). -/
theorem fixed_discards {l : Lkc} {r : Nat} {c : NoticeCause} (h : l.noticeDue l.frame = none) (hs : l.state.isHeld = true)
    (hn : l.notice = some ⟨r, c, .decided⟩) : l.fixed.notice = none := by
  rw [Lkc.fixed, h]
  simp [hn, hs]

/-- What is left of the notice once it is fixed and announced, and what its frame carries of it (R56 to R58). -/
theorem due_announced {l : Lkc} {v : Notice} (h : l.noticeDue l.frame = some v) :
    l.fixed.announce.notice = none ∧ l.fixed.announce.carried = none ∧ l.fixed.rung = v.target := by
  have hnone : l.fixed.notice = none := by rw [fixed_due h]
  rw [announce_none hnone]
  exact ⟨hnone, carried_none hnone, by rw [fixed_due h]⟩

theorem decided_announced {l : Lkc} {r : Nat} {c : NoticeCause} (h : l.noticeDue l.frame = none) (hs : l.state.isHeld = false)
    (hn : l.notice = some ⟨r, c, .decided⟩) :
    l.fixed.announce.notice = some ⟨r, c, .announced l.frame ((l.frame + 2) % 65536)⟩
      ∧ l.fixed.announce.carried = some ⟨r, (l.frame + 2) % 65536⟩ := by
  have hframe : l.fixed.frame = l.frame := by rw [fixed_parts]
  have hannounced := announce_decided ((fixed_notice h (.inl hs)).trans hn)
  have hnotice : l.fixed.announce.notice = some ⟨r, c, .announced l.frame ((l.frame + 2) % 65536)⟩ := by rw [hannounced, hframe]
  refine ⟨hnotice, ?_⟩
  rw [carried_announced hnotice, if_pos (.inl ((announce_parts _).2.2.2.trans hframe))]

theorem waiting_announced {l : Lkc} {r : Nat} {c : NoticeCause} {a e : Nat} (h : l.noticeDue l.frame = none)
    (hn : l.notice = some ⟨r, c, .announced a e⟩) :
    l.fixed.announce.notice = l.notice
      ∧ l.fixed.announce.carried = if l.frame = a ∨ l.frame = (a + 1) % 65536 then some ⟨r, e⟩ else none := by
  have hframe : l.fixed.frame = l.frame := by rw [fixed_parts]
  have hkept : l.fixed.notice = l.notice := fixed_notice h (.inr fun _ _ h => by simp [hn] at h)
  rw [announce_announced (hkept.trans hn), carried_announced (hkept.trans hn), hframe]
  exact ⟨hkept, rfl⟩

theorem none_announced {l : Lkc} (h : l.noticeDue l.frame = none) (hn : l.notice = none) :
    l.fixed.announce.notice = none ∧ l.fixed.announce.carried = none := by
  have hkept : l.fixed.notice = none := (fixed_notice h (.inr fun _ _ h => by simp [hn] at h)).trans hn
  rw [announce_none hkept]
  exact ⟨hkept, carried_none hkept⟩

theorem announced_parts (l : Lkc) :
    l.fixed.announce = { l with rung := l.fixed.rung, notice := l.fixed.announce.notice, voided := none } := by
  conv_lhs => rw [announce_keeps]
  rw [fixed_parts]

theorem nextFill_lkc (s : State) :
    (nextFill s).lkc
      = { s.lkc with
          frame := (s.lkc.frame + 1) % 65536, far := s.lkc.far.map fun x => { x with age := min 255 (x.age + 1) },
          outstanding := s.lkc.nextFrame.outstanding } := rfl

/-- The fill in UP with no hold requested: the link record left, the frame, and RUNG where the notice due changes the rung. -/
theorem fillFrame_up {s : State} (hup : s.lkc.state = .up) (hreq : s.holdRequested = false) :
    ∃ (t : State) (f : AirFrame), fillFrame s = t ∧ t.lkc = { (nextFill s).lkc.fixed.announce with unsent := s.lkc.unsent ++ [f] }
      ∧ f.heads (nextFill s).lkc.fixed.announce ∧ f.fills (t.capacity f.rung)
      ∧ ∀ v, (nextFill s).lkc.noticeDue (nextFill s).lkc.frame = some v → v.target ≠ s.lkc.rung →
          ∀ j, (t.sli.events.get j).pending.has .rung = true := by
  obtain ⟨f, hlkc, hheads, hfills⟩ := fillUp_fills (fixRung (nextFill s))
  have hfill : fillFrame s = reportRung s.lkc.rung (fillUp (fixRung (nextFill s))) := by
    simp only [fillFrame, hup, hreq]
    rfl
  have hmoves := (fillUp_moves (fixRung (nextFill s))).trans (reportRung_moves s.lkc.rung _)
  have hlink : (reportRung s.lkc.rung (fillUp (fixRung (nextFill s)))).lkc
      = { (nextFill s).lkc.fixed.announce with unsent := s.lkc.unsent ++ [f] } := by
    rw [(reportRung_frame _ _).2.1, hlkc, fixRung_lkc, fixed_parts]
    rfl
  rw [fixRung_lkc] at hheads
  refine ⟨_, f, hfill, hlink, hheads, ?_, fun v hv hne j => hmoves.follows.keeps j .rung (pends_fixRung (s := nextFill s) hv hne j)⟩
  obtain ⟨hladder, hrung, -⟩ := announce_parts (nextFill s).lkc.fixed
  rw [hheads.2.1, hrung, capacity_congr (s := fixRung (nextFill s)) (by rw [hlink, hladder, fixRung_lkc])]
  rwa [fixRung_lkc] at hfills

/-- Settles O39, by the notice due at the frame filled. -/
theorem noticesTakeTwoFrames : Obligations.NoticesTakeTwoFrames := by
  unfold Obligations.NoticesTakeTwoFrames
  intro s hup hreq _ n
  obtain ⟨t, f, hfill, hlkc, ⟨hnumber, hrung, hnotice, hmargin⟩, -, hraised⟩ := fillFrame_up hup hreq
  have hframe : (nextFill s).lkc.frame = n := rfl
  have hstate : (nextFill s).lkc.state = .up := hup
  have hheld : (nextFill s).lkc.state.isHeld = false := by rw [hstate]; rfl
  have hparts := announced_parts (nextFill s).lkc
  have hdue : ∀ v : Notice, (nextFill s).lkc.noticeDue n = some v → t.lkc.notice = none ∧ f.notice = none ∧ t.lkc.rung = v.target
      ∧ (v.target ≠ s.lkc.rung → ∀ j, (t.sli.events.get j).pending.has .rung = true) := fun v hv => by
    obtain ⟨h1, h2, h3⟩ := due_announced (l := (nextFill s).lkc) hv
    exact ⟨by rw [hlkc, h1], hnotice.trans h2, by rw [hlkc, hparts, h3], hraised v hv⟩
  have hkept : (nextFill s).lkc.noticeDue n = none → t.lkc.rung = s.lkc.rung := fun h => by
    rw [hlkc, hparts, (fixed_kept (l := (nextFill s).lkc) h).1]
    rfl
  have hdecided : ∀ r c, (nextFill s).lkc.noticeDue n = none → s.lkc.notice = some ⟨r, c, .decided⟩ →
      t.lkc.notice = some ⟨r, c, .announced n ((n + 2) % 65536)⟩ ∧ f.notice = some ⟨r, (n + 2) % 65536⟩ := fun r c hd hn => by
    obtain ⟨h1, h2⟩ := decided_announced (l := (nextFill s).lkc) hd hheld hn
    exact ⟨by rw [hlkc, h1]; rfl, hnotice.trans h2⟩
  refine ⟨t, f, congrArg _ hfill, ?_, by rw [hlkc], ?_, ?_, ?_, ?_, ?_, ?_, fun v hv => ⟨fun he => ?_, fun he => ?_⟩, fun hv hn => ?_,
    fun r c hv hn => ?_, fun r c a e hv hn => ⟨fun he => ?_, fun he => ?_⟩⟩
  · rw [hlkc, hparts, hstate]
  · rw [hlkc, hparts, hframe]
  · rw [hnumber, hparts, hframe]
  · rw [hrung, hlkc]
  · rw [hmargin, hparts]
    rfl
  · rw [hlkc, hparts]
  · rw [hlkc, hparts]
    rfl
  · exact hdue v (by rw [noticeDue_voided (l := (nextFill s).lkc) hv, if_pos he])
  · have hnone : (nextFill s).lkc.noticeDue n = none := by rw [noticeDue_voided (l := (nextFill s).lkc) hv, if_neg he]
    exact ⟨hkept hnone, fun r c => hdecided r c hnone⟩
  · have hnone := noticeDue_none (l := (nextFill s).lkc) hv hn n
    obtain ⟨h1, h2⟩ := none_announced (l := (nextFill s).lkc) hnone hn
    exact ⟨by rw [hlkc, h1], hnotice.trans h2, hkept hnone⟩
  · have hnone : (nextFill s).lkc.noticeDue n = none := noticeDue_pending (l := (nextFill s).lkc) hv hn n
    obtain ⟨h1, h2⟩ := hdecided r c hnone hn
    exact ⟨h1, h2, hkept hnone⟩
  · have hnot : Notice.effectiveFrame ⟨r, c, .announced a e⟩ ≠ some n := fun h => he (Option.some.inj h)
    have hnone : (nextFill s).lkc.noticeDue n = none := by rw [noticeDue_pending (l := (nextFill s).lkc) hv hn, if_neg hnot]
    obtain ⟨h1, h2⟩ := waiting_announced (l := (nextFill s).lkc) hnone hn
    exact ⟨by rw [hlkc, h1]; rfl, hkept hnone, hnotice.trans h2⟩
  · have hat : Notice.effectiveFrame ⟨r, c, .announced a e⟩ = some n := congrArg some he
    exact hdue ⟨r, c, .announced a e⟩ (by rw [noticeDue_pending (l := (nextFill s).lkc) hv hn, if_pos hat])

end Sys2Proof.Machine

namespace Sys2Proof.Machine

open Sys2Proof

/-! ## What every fill leaves (R34, R35, R41, R69, R95) -/

theorem reportRung_traffic (n : Nat) (s : State) : s.trafficStands (reportRung n s) := by
  unfold reportRung tmuRungChange
  refine .ite (.refl s) ?_
  split
  · exact .ite (.refl s) (exchangeMissing_traffic s)
  · exact .refl s

theorem fillHeld_tqm (s : State) : (fillHeld s).tqm = s.tqm := by simp

theorem fixRung_tqm (s : State) : (fixRung s).tqm = s.tqm := by simp

/-- The end of a fill in HELD from the state in which the notice is looked at: the rung fixed, the frame filled, the change reported. -/
def heldFill (before : Nat) (u : State) : State := reportRung before (fillHeld (fixRung u))

theorem heldFill_moves (before : Nat) (u : State) : Moves u (heldFill before u) :=
  ((fixRung_moves u).trans (fillHeld_moves _)).trans (reportRung_moves _ _)

/-- The frame of a fill in HELD, and of the link record what the phase alone moves. -/
theorem heldFill_frame (before : Nat) (u : State) :
    ∃ f : AirFrame, (heldFill before u).lkc.unsent = u.lkc.unsent ++ [f] ∧ f.heads u.lkc.fixed ∧ f.fills ((heldFill before u).capacity f.rung)
      ∧ f.pattern = (if u.lkc.state = .held .looping then u.capacity f.rung - 4 else 0) ∧ f.segments = [] ∧ f.request = false
      ∧ (heldFill before u).lkc = { u.lkc.fixed with
          unsent := (heldFill before u).lkc.unsent, looped := (heldFill before u).lkc.looped, state := (heldFill before u).lkc.state,
          outstanding := (heldFill before u).lkc.outstanding, sent := (heldFill before u).lkc.sent,
          late := (heldFill before u).lkc.late } := by
  obtain ⟨f, hunsent, hheads, hfills, hpattern, hsegments, hrequest, hlkc⟩ := fillHeld_fills (fixRung u)
  have hparts := fixed_parts u.lkc
  have hladder : (fixRung u).lkc.ladder = u.lkc.ladder := by rw [fixRung_lkc, hparts]
  have hend : (heldFill before u).lkc = (fillHeld (fixRung u)).lkc := by simp [heldFill]
  have hcapacity : ∀ r, (heldFill before u).capacity r = (fixRung u).capacity r := capacity_congr (by rw [hend, hlkc])
  have hrung : f.rung = (fixRung u).lkc.rung := hheads.2.1
  rw [fixRung_lkc] at hheads
  refine ⟨f, ?_, hheads, ?_, ?_, hsegments, hrequest, ?_⟩
  · rw [hend, hunsent, fixRung_lkc, hparts]
  · rw [hcapacity, hrung]
    exact hfills
  · rw [hpattern, hrung, capacity_congr hladder, fixRung_lkc, hparts]
  · rw [hend]
    conv_lhs => rw [hlkc]
    rw [fixRung_lkc]

theorem heldFill_stands (before : Nat) (u : State) :
    u.recordsStand (heldFill before u) ∧ (heldFill before u).tmu.site = u.tmu.site ∧ u.trafficStands (heldFill before u) := by
  obtain ⟨f, -, -, -, -, -, -, hlkc⟩ := heldFill_frame before u
  rw [fixed_parts] at hlkc
  have hsettings : (heldFill before u).lkc.settings = u.lkc.settings := by rw [hlkc]; rfl
  simp only [Lkc.settings, Prod.mk.injEq] at hsettings
  obtain ⟨hceiling, hup, hloss, hconfirm, hprofiles⟩ := hsettings
  refine ⟨(heldFill_moves before u).recordsStand ?_ (by simp [heldFill]), by simp [heldFill],
    State.trafficStands.trans (t := fillHeld (fixRung u)) (.of_same ((fillHeld_tqm _).trans (fixRung_tqm u))) (reportRung_traffic _ _)⟩
  simp only [State.tablesStand, State.tables, hceiling, hup, hloss, hconfirm, hprofiles]
  simp [heldFill]

/-- The fill that takes a hold, and one in HELD, by the state in which the notice is looked at. -/
theorem fillFrame_takesHold {s : State} (hup : s.lkc.state = .up) (hreq : s.holdRequested = true) :
    fillFrame s = heldFill s.lkc.rung (enterHold (nextFill s)) := by
  simp only [fillFrame, hup, hreq]
  rfl

theorem fillFrame_held {s : State} {ph : LoopPhase} (hs : s.lkc.state = .held ph) :
    fillFrame s = heldFill s.lkc.rung (ageLooped (nextFill s)) := by
  simp only [fillFrame, hs]
  rfl

theorem enterHold_stands (s : State) : s.recordsStand (enterHold s) ∧ (enterHold s).tmu.site = s.tmu.site := by
  have hsettings : (enterHold s).lkc.settings = s.lkc.settings := by
    rw [enterHold_lkc]
    split <;> rfl
  simp only [Lkc.settings, Prod.mk.injEq] at hsettings
  obtain ⟨hceiling, hup, hloss, hconfirm, hprofiles⟩ := hsettings
  refine ⟨(enterHold_moves s).recordsStand ?_ (by simp), by rw [enterHold_eq]; split <;> simp [holdTaken]⟩
  simp only [State.tablesStand, State.tables, hceiling, hup, hloss, hconfirm, hprofiles]
  simp

theorem State.recordsStand.trans {s t u : State} (h1 : s.recordsStand t) (h2 : t.recordsStand u) : s.recordsStand u := by
  obtain ⟨htables, hgre, henabled, hpending⟩ := h1
  obtain ⟨htables', hgre', henabled', hpending'⟩ := h2
  exact ⟨htables.trans htables', hgre'.trans hgre, fun k => (henabled' k).trans (henabled k), fun k e h => hpending' k e (hpending k e h)⟩

theorem ageLooped_stands (s : State) : s.recordsStand (ageLooped s) :=
  (ageLooped_moves s).recordsStand (by simp [State.tablesStand, State.tables, ageLooped_lkc]) (by simp)

theorem nextFill_stands (s : State) : s.recordsStand (nextFill s) := ⟨⟨rfl, rfl, rfl, rfl, rfl, rfl⟩, rfl, fun _ => rfl, fun _ _ h => h⟩

/-- What a fill leaves behind it: one frame at the tail that accounts for its rung's capacity, and the records. -/
def State.fillsTo (s t : State) (f : AirFrame) : Prop :=
  t.lkc.unsent = s.lkc.unsent ++ [f] ∧ t.lkc.frame = (s.lkc.frame + 1) % 65536 ∧ f.number = t.lkc.frame ∧ f.rung = t.lkc.rung
    ∧ t.lkc.ladder = s.lkc.ladder ∧ f.fills (t.capacity f.rung) ∧ s.tablesStand t ∧ t.tmu.site = s.tmu.site

/-- A fill leaves the tables where it leaves those of the link. -/
theorem fillFrame_tablesStand {s : State} (h : (fillFrame s).lkc.settings = s.lkc.settings) : s.tablesStand (fillFrame s) := by
  simp only [Lkc.settings, Prod.mk.injEq] at h
  obtain ⟨hceiling, hup, hloss, hconfirm, hprofiles⟩ := h
  simp only [State.tablesStand, State.tables, hceiling, hup, hloss, hconfirm, hprofiles]
  simp

/-- The fill in ACQUIRING is idle. -/
theorem fillFrame_acquiring {s : State} (ha : s.lkc.state = .acquiring) :
    ∃ f : AirFrame, s.fillsTo (fillFrame s) f ∧ f.pattern = 0 ∧ f.segments = [] ∧ (fillFrame s).gre = s.gre
      ∧ (s.egressQuiet → (fillFrame s).tqm = s.tqm) := by
  have hpush : ∀ t : State, t = (if s.holdRequested then endRunning (.aborted .linkLost) (pushFrame false 0 [] (s.updLkc Lkc.nextFrame))
      else pushFrame false 0 [] (s.updLkc Lkc.nextFrame)) →
      t.lkc = (pushFrame false 0 [] (s.updLkc Lkc.nextFrame)).lkc ∧ t.tmu = s.tmu ∧ t.gre = s.gre ∧ s.trafficStands t := by
    rintro t rfl
    split
    · refine ⟨by simp, by simp, by simp, ?_⟩
      exact State.trafficStands.trans (t := pushFrame false 0 [] (s.updLkc Lkc.nextFrame)) (.of_same rfl) (endRunning_traffic _ _)
    · exact ⟨rfl, rfl, rfl, .of_same rfl⟩
  obtain ⟨hlkc, htmu, hgre, htqm⟩ := hpush (fillFrame s) (by simp only [fillFrame, ha])
  have hfills := filledFrame_fills (p := 0) (g := []) (s := s.updLkc Lkc.nextFrame) false (Nat.zero_le _)
  refine ⟨filledFrame false 0 [] (s.updLkc Lkc.nextFrame), ⟨by rw [hlkc]; rfl, by rw [hlkc]; rfl, by rw [hlkc]; rfl, by rw [hlkc]; rfl,
    by rw [hlkc]; rfl, ?_, fillFrame_tablesStand (by rw [hlkc]; rfl), by rw [htmu]⟩, rfl, rfl, hgre, fun hq => htqm fun k => hq (by simp [ha]) k⟩
  rw [capacity_congr (s := s.updLkc Lkc.nextFrame) (by rw [hlkc]; rfl)]
  exact hfills

/-- A fill in HELD, the one that takes the hold among them, from the state in which the notice is looked at. -/
theorem heldFill_fillsTo {s u : State} (hl : u.lkc.unsent = s.lkc.unsent) (hf : u.lkc.frame = (s.lkc.frame + 1) % 65536)
    (hd : u.lkc.ladder = s.lkc.ladder) (hu : s.recordsStand u) (ht : u.tmu.site = s.tmu.site) (before : Nat) :
    ∃ f : AirFrame, s.fillsTo (heldFill before u) f := by
  obtain ⟨f, hunsent, ⟨hnumber, hrung, -⟩, hfills, -, -, -, hlkc⟩ := heldFill_frame before u
  obtain ⟨hrecords, hsite, -⟩ := heldFill_stands before u
  have hparts := fixed_parts u.lkc
  refine ⟨f, hunsent.trans (by rw [hl]), ?_, ?_, ?_, ?_, hfills, hu.1.trans hrecords.1, hsite.trans ht⟩
  · rw [hlkc, hparts, ← hf]
  · rw [hlkc, hnumber]
  · rw [hlkc, hrung]
  · rw [hlkc, hparts, ← hd]

theorem fillFrame_taking {s : State} (hup : s.lkc.state = .up) (hreq : s.holdRequested = true) :
    ∃ f : AirFrame, s.fillsTo (fillFrame s) f := by
  obtain ⟨hrecords, hsite⟩ := enterHold_stands (nextFill s)
  rw [fillFrame_takesHold hup hreq]
  refine heldFill_fillsTo ?_ ?_ ?_ ((nextFill_stands s).trans hrecords) hsite s.lkc.rung <;> rw [enterHold_lkc] <;> split <;> rfl

theorem fillFrame_inHold {s : State} {ph : LoopPhase} (hs : s.lkc.state = .held ph) :
    (∃ f : AirFrame, s.fillsTo (fillFrame s) f) ∧ (fillFrame s).gre = s.gre ∧ s.trafficStands (fillFrame s) := by
  obtain ⟨hrecords, hsite, htraffic⟩ := heldFill_stands s.lkc.rung (ageLooped (nextFill s))
  have haged := ageLooped_stands (nextFill s)
  rw [fillFrame_held hs]
  refine ⟨heldFill_fillsTo ?_ ?_ ?_ ((nextFill_stands s).trans haged) (by simp; rfl) s.lkc.rung, hrecords.2.1.trans (by simp; rfl), ?_⟩
  · rw [ageLooped_lkc]; rfl
  · rw [ageLooped_lkc]; rfl
  · rw [ageLooped_lkc]; rfl
  · exact State.trafficStands.trans (t := ageLooped (nextFill s)) (.of_same (by simp; rfl)) htraffic

theorem fillFrame_pass {s : State} (hup : s.lkc.state = .up) (hreq : s.holdRequested = false) : ∃ f : AirFrame, s.fillsTo (fillFrame s) f := by
  obtain ⟨t, f, hfill, hlkc, ⟨hnumber, hrung, -⟩, hfills, -⟩ := fillFrame_up hup hreq
  have hparts := announced_parts (nextFill s).lkc
  have hsite : (fillFrame s).tmu.site = s.tmu.site := by
    simp only [fillFrame, hup, hreq]
    simp [fillUp, passAndDrain, drainAll]
  rw [← hfill] at hlkc hfills
  refine ⟨f, by rw [hlkc], ?_, ?_, ?_, ?_, hfills, fillFrame_tablesStand ?_, hsite⟩
  · rw [hlkc, hparts]; rfl
  · rw [hlkc, hnumber]
  · rw [hlkc, hrung]
  · rw [hlkc, hparts]; rfl
  · rw [hlkc, hparts]; rfl

/-- Settles O41, state by state. -/
theorem framesFillTheirCapacity : Obligations.FramesFillTheirCapacity := by
  unfold Obligations.FramesFillTheirCapacity
  intro s
  refine ⟨fun hheld ha hup => ?_, fun hs => ?_⟩
  · have hfill : fillFrame s = s := by
      unfold fillFrame
      split
      · next h => exact absurd h ha
      · next h => exact absurd h hup
      · next h => exact absurd h (hheld _)
      · rfl
    exact congrArg _ hfill
  · have hfilled : ∃ f : AirFrame, s.fillsTo (fillFrame s) f ∧ (s.lkc.state = .acquiring → f.pattern = 0 ∧ f.segments = [])
        ∧ (s.lkc.state ≠ .up → (fillFrame s).gre = s.gre ∧ (s.egressQuiet → (fillFrame s).tqm = s.tqm)) := by
      cases hstate : s.lkc.state with
      | held ph =>
        obtain ⟨⟨f, hf⟩, hgre, htraffic⟩ := fillFrame_inHold hstate
        exact ⟨f, hf, nofun, fun _ => ⟨hgre, fun hq => htraffic fun k => hq (by simp [hstate]) k⟩⟩
      | acquiring =>
        obtain ⟨f, hf, hpattern, hsegments, hgre, htqm⟩ := fillFrame_acquiring hstate
        exact ⟨f, hf, fun _ => ⟨hpattern, hsegments⟩, fun _ => ⟨hgre, htqm⟩⟩
      | up =>
        cases hreq : s.holdRequested with
        | false =>
          obtain ⟨f, hf⟩ := fillFrame_pass hstate hreq
          exact ⟨f, hf, nofun, fun h => absurd rfl h⟩
        | true =>
          obtain ⟨f, hf⟩ := fillFrame_taking hstate hreq
          exact ⟨f, hf, nofun, fun h => absurd rfl h⟩
      | off | discovery | lost => simp [hstate, LinkState.isHeld] at hs
    obtain ⟨f, ⟨hunsent, hframe, hnumber, hrung, hladder, hfills, htables, hsite⟩, hidle, hstand⟩ := hfilled
    exact ⟨fillFrame s, f, rfl, hunsent, hframe, hnumber, hrung, hladder, hfills, hidle, htables, hsite, hstand⟩

end Sys2Proof.Machine

namespace Sys2Proof.Machine

open Sys2Proof

/-! ## An order runs on (R166, R179) -/

/-- While an order runs nothing else starts: one that no time source ends runs on, and the queues stand; outside BRINGUP so do the orders
held and the site. -/
def State.orderStands (s t : State) : Prop :=
  ∀ o p, s.tsu.running = some ⟨o, p⟩ → p.kind ≠ 3 →
    t.tsu.running = s.tsu.running ∧ t.tqm = s.tqm ∧ (s.scu.site ≠ .bringup → t.tsu = s.tsu ∧ t.scu.site = s.scu.site)

theorem State.orderStands.refl (s : State) : s.orderStands s := fun _ _ _ _ => ⟨rfl, rfl, fun _ => ⟨rfl, rfl⟩⟩

theorem State.orderStands.of_same {s t : State} (ho : t.tsu = s.tsu) (hq : t.tqm = s.tqm) (hs : t.scu.site = s.scu.site) : s.orderStands t :=
  fun _ _ _ _ => ⟨by rw [ho], hq, fun _ => ⟨ho, hs⟩⟩

theorem State.orderStands.trans {s t u : State} (h1 : s.orderStands t) (h2 : t.orderStands u) : s.orderStands u := fun o p h hp => by
  obtain ⟨hr, hq, hs⟩ := h1 o p h hp
  obtain ⟨hr', hq', hs'⟩ := h2 o p (hr.trans h) hp
  refine ⟨hr'.trans hr, hq'.trans hq, fun hb => ?_⟩
  obtain ⟨htsu, hsite⟩ := hs hb
  obtain ⟨htsu', hsite'⟩ := hs' (hsite ▸ hb)
  exact ⟨htsu'.trans htsu, hsite'.trans hsite⟩

theorem State.orderStands.ite {c : Prop} [Decidable c] {s t u : State} (h1 : s.orderStands t) (h2 : s.orderStands u) :
    s.orderStands (if c then t else u) := by
  split
  · exact h1
  · exact h2

theorem settle_order (s : State) : s.orderStands (settle s) := fun _ _ h hp => by
  rw [settle_of_noStart (.inl (by rw [h]; rfl))]
  exact State.orderStands.refl s _ _ h hp

theorem bringup_order (s : State) : s.orderStands (bringup s) := by
  refine State.orderStands.trans (fun o p h _ => ⟨by simp, by simp, fun hb => ?_⟩) (settle_order _)
  rw [bringupStep_of_ne hb]
  exact ⟨rfl, rfl⟩

theorem deriveClass_order (s : State) : s.orderStands (deriveClass s) := by
  by_cases hd : s.tmu.derivedClass = s.tmu.cls
  · rw [deriveClass_same hd]
    exact .refl s
  · rw [deriveClass_publishes hd]
    obtain ⟨hsite, htqm, htsu⟩ := classPublished_same (publish s)
    exact ((State.orderStands.of_same (by simp) (by simp) (by simp)).trans (bringup_order (publish s))).trans (.of_same htsu htqm hsite)

theorem tsuSourceLeft_order (s : State) : s.orderStands (tsuSourceLeft s) := fun o p h hp => by
  have hsame : tsuSourceLeft s = s := by
    unfold tsuSourceLeft
    split
    · next hc =>
      rw [h] at hc
      cases hc
      exact absurd rfl hp
    · rfl
  rw [hsame]
  exact State.orderStands.refl s _ _ h hp

theorem exchangeMissing_order (s : State) : s.orderStands (exchangeMissing s) := by
  have hselect : ∀ t : State, t.orderStands (judgeSelection t) := fun t => by
    unfold judgeSelection
    split
    · exact .refl t
    · exact State.orderStands.trans (.of_same (by simp) (by simp) (by simp)) (deriveClass_order _)
  have hchange : ∀ b src t, State.orderStands t (qualificationChanged b src t) := fun b src t => by
    unfold qualificationChanged
    split
    · exact .refl t
    · exact (State.orderStands.ite (tsuSourceLeft_order t) (.refl t)).trans (hselect _)
  have houtcome : ∀ src v t, State.orderStands t (takeOutcome src v t) := fun src v t => by
    unfold takeOutcome
    split
    · exact .refl t
    · exact State.orderStands.trans (t := t.updTmu fun u => u.updSource src fun r => r.afterOutcome v) (.of_same rfl rfl rfl) (hchange _ _ _)
  unfold exchangeMissing
  split
  · exact .refl s
  · exact State.orderStands.trans (t := s.updTmu fun t => { t with exchange := none }) (.of_same rfl rfl rfl) (houtcome _ _ _)

theorem reportRung_order (n : Nat) (s : State) : s.orderStands (reportRung n s) := by
  unfold reportRung tmuRungChange
  refine .ite (.refl s) ?_
  split
  · exact .ite (.refl s) (exchangeMissing_order s)
  · exact .refl s

/-- A rung change ends no exchange where none is in flight. -/
theorem reportRung_noExchange (n : Nat) {s : State} (h : s.tmu.exchange = none) : reportRung n s = s := by
  simp [reportRung, tmuRungChange, h]

/-! ## A notice in HELD (R49, R56, R58, R59) -/

/-- What the fill that takes a hold, and each in HELD, leave of the notice: `n` is the number of the frame filled. -/
def State.noticeHeld (s t : State) (f : AirFrame) (n : Nat) : Prop :=
  f.number = n ∧ f.rung = t.lkc.rung ∧ t.lkc.voided = none
    ∧ t.lkc.far = s.lkc.far.map (fun x => { x with age := min 255 (x.age + 1) })
    ∧ (∀ v, s.lkc.voided = some v →
        (v.effectiveFrame = some n →
          (t.lkc.notice = none ∧ t.lkc.rung = v.target ∧ (v.target ≠ s.lkc.rung → ∀ j, (t.sli.events.get j).pending.has .rung = true))
            ∧ f.notice = none)
        ∧ (v.effectiveFrame ≠ some n → t.lkc.rung = s.lkc.rung))
    ∧ (s.lkc.voided = none → s.lkc.notice = none → t.lkc.notice = none ∧ f.notice = none ∧ t.lkc.rung = s.lkc.rung)
    ∧ (∀ r c, s.lkc.voided = none → s.lkc.notice = some ⟨r, c, .decided⟩ →
        t.lkc.notice = none ∧ f.notice = none ∧ t.lkc.rung = s.lkc.rung)
    ∧ ∀ r c a e, s.lkc.voided = none → s.lkc.notice = some ⟨r, c, .announced a e⟩ →
        (e ≠ n → t.lkc.notice = s.lkc.notice ∧ t.lkc.rung = s.lkc.rung
          ∧ f.notice = (if n = a ∨ n = (a + 1) % 65536 then some ⟨r, e⟩ else none))
        ∧ (e = n →
          (t.lkc.notice = none ∧ t.lkc.rung = r ∧ (r ≠ s.lkc.rung → ∀ j, (t.sli.events.get j).pending.has .rung = true)) ∧ f.notice = none)

/-- The link record of `u`, in which the notice is looked at, is that of `s` with the frame numbered and the far margin aged. -/
structure NoticeAt (s u : State) (n : Nat) : Prop where
  frame : u.lkc.frame = n
  rung : u.lkc.rung = s.lkc.rung
  notice : u.lkc.notice = s.lkc.notice
  voided : u.lkc.voided = s.lkc.voided
  far : u.lkc.far = s.lkc.far.map (fun x => { x with age := min 255 (x.age + 1) })
  held : u.lkc.state.isHeld = true

theorem heldFill_noticed {s u t : State} {f : AirFrame} {n : Nat} (h : NoticeAt s u n) (hf : f.heads u.lkc.fixed)
    (hrung : t.lkc.rung = u.lkc.fixed.rung) (hnotice : t.lkc.notice = u.lkc.fixed.notice) (hvoided : t.lkc.voided = none)
    (hfar : t.lkc.far = u.lkc.far) (hm : Moves (fixRung u) t) : s.noticeHeld t f n := by
  obtain ⟨hframe, hr, hn, hv, hfar', hheld⟩ := h
  obtain ⟨hnumber, hfrung, hcarried, -⟩ := hf
  have hfixed : u.lkc.fixed.frame = n := by rw [fixed_parts, hframe]
  have hdue : ∀ v, u.lkc.noticeDue n = some v →
      (t.lkc.notice = none ∧ t.lkc.rung = v.target ∧ (v.target ≠ s.lkc.rung → ∀ j, (t.sli.events.get j).pending.has .rung = true))
        ∧ f.notice = none := fun v hv => by
    have hfix := fixed_due (l := u.lkc) (by rw [hframe]; exact hv)
    refine ⟨⟨by rw [hnotice, hfix], by rw [hrung, hfix], fun hne j => hm.follows.keeps j .rung ?_⟩, ?_⟩
    · exact pends_fixRung (by rw [hframe]; exact hv) (by rw [hr]; exact hne) j
    · rw [hcarried, carried_none (by rw [hfix])]
  have hkept : u.lkc.noticeDue n = none → t.lkc.rung = s.lkc.rung := fun hd => by
    rw [hrung, (fixed_kept (l := u.lkc) (by rw [hframe]; exact hd)).1, hr]
  have hdiscarded : ∀ r c, u.lkc.noticeDue n = none → s.lkc.notice = some ⟨r, c, .decided⟩ → u.lkc.fixed.notice = none :=
    fun r c hd hs => fixed_discards (by rw [hframe]; exact hd) hheld (hn.trans hs)
  refine ⟨hnumber.trans hfixed, hfrung.trans hrung.symm, hvoided, hfar.trans hfar', fun v hs => ⟨fun he => ?_, fun he => ?_⟩, fun hs hno => ?_,
    fun r c hs hno => ?_, fun r c a e hs hno => ⟨fun he => ?_, fun he => ?_⟩⟩
  · exact hdue v (by rw [noticeDue_voided (hv.trans hs), if_pos he])
  · exact hkept (by rw [noticeDue_voided (hv.trans hs), if_neg he])
  · have hnone := noticeDue_none (hv.trans hs) (hn.trans hno) n
    have hfix : u.lkc.fixed.notice = none :=
      (fixed_notice (by rw [hframe]; exact hnone) (.inr fun _ _ h => by simp [hn, hno] at h)).trans (hn.trans hno)
    exact ⟨hnotice.trans hfix, by rw [hcarried, carried_none hfix], hkept hnone⟩
  · have hnone : u.lkc.noticeDue n = none := noticeDue_pending (hv.trans hs) (hn.trans hno) n
    have hfix := hdiscarded r c hnone hno
    exact ⟨hnotice.trans hfix, by rw [hcarried, carried_none hfix], hkept hnone⟩
  · have hnot : Notice.effectiveFrame ⟨r, c, .announced a e⟩ ≠ some n := fun h => he (Option.some.inj h)
    have hnone : u.lkc.noticeDue n = none := by rw [noticeDue_pending (hv.trans hs) (hn.trans hno), if_neg hnot]
    have hfix : u.lkc.fixed.notice = s.lkc.notice :=
      (fixed_notice (by rw [hframe]; exact hnone) (.inr fun _ _ h => by simp [hn, hno] at h)).trans hn
    exact ⟨hnotice.trans hfix, hkept hnone, by rw [hcarried, carried_announced (hfix.trans hno), hfixed]⟩
  · have hat : Notice.effectiveFrame ⟨r, c, .announced a e⟩ = some n := congrArg some he
    exact hdue ⟨r, c, .announced a e⟩ (by rw [noticeDue_pending (hv.trans hs) (hn.trans hno), if_pos hat])

end Sys2Proof.Machine

namespace Sys2Proof.Machine

open Sys2Proof

/-! ## The fills of a hold (R40, R41) -/

/-- A fill in HELD outside LOOPING is idle, and the phase and its command stand. -/
theorem heldFill_idle (before : Nat) {u : State} (h : u.lkc.state ≠ .held .looping) :
    ∃ f : AirFrame, f.heads u.lkc.fixed ∧ f.pattern = 0 ∧ f.segments = [] ∧ f.request = false
      ∧ (heldFill before u).lkc = { u.lkc.fixed with unsent := u.lkc.unsent ++ [f] } ∧ (heldFill before u).emitted = u.emitted
      ∧ u.orderStands (heldFill before u) := by
  have hparts := fixed_parts u.lkc
  have hfill : fillHeld (fixRung u) = pushFrame false 0 [] (fixRung u) := fillHeld_idle (by rw [fixRung_lkc, hparts]; exact h)
  have hheads := filledFrame_heads false 0 [] (fixRung u)
  rw [fixRung_lkc] at hheads
  refine ⟨_, hheads, rfl, rfl, rfl, ?_, ?_, ?_⟩
  · rw [heldFill, (reportRung_frame _ _).2.1, hfill, pushFrame_lkc, fixRung_lkc]
    rw [fixed_parts]
  · simp [heldFill, hfill]
  · rw [heldFill, hfill]
    exact State.orderStands.trans (.of_same (by simp) (by simp) (by simp)) (reportRung_order _ _)

theorem heldFill_moves_fixed (before : Nat) (u : State) : Moves (fixRung u) (heldFill before u) :=
  (fillHeld_moves _).trans (reportRung_moves _ _)

/-- What the taking of a hold leaves of the blocks other than the link (R38, R40). -/
theorem enterHold_leaves {s : State} {o : Order} {p : LoopProgress} (hr : s.tsu.running = some ⟨o, .linkLoop p⟩) :
    (enterHold s).tsu.running = some ⟨o, .linkLoop { p with held := true }⟩ ∧ (enterHold s).tqm = s.tqm.map Traffic.depart
      ∧ (enterHold s).tmu.exchange = none ∧ (∀ j, (enterHold s).pends j .linkState = true)
      ∧ (enterHold s).emitted = s.emitted ++ (if s.lkc.unsent = [] then [.odu .loopOn] else []) := by
  have hrun : (holdTaken s).tsu.running = some ⟨o, .linkLoop { p with held := true }⟩ := by
    simp [holdTaken, updLoop_eq (s := State.updLkc s _) hr]
  have hstart : ∀ j, (holdTaken s).pends j .linkState = true := fun j => by simp [holdTaken, pends_linkStateEvent]
  have htqm : (departQueues .up (holdTaken s)).tqm = s.tqm.map Traffic.depart := by
    rw [departQueues_tqm rfl]
    simp [holdTaken]
  have hqueues : (departQueues .up (holdTaken s)).tsu.running = some ⟨o, .linkLoop { p with held := true }⟩ := by
    have hmissing := exchangeMissing_order (tqmDepart (holdTaken s)) o _ hrun (by simp [Progress.kind])
    exact hmissing.1.trans hrun
  obtain ⟨hkept, hstand, -⟩ := bringup_order _ o _ hqueues (by simp [Progress.kind])
  have hleft : ∀ b, (leavePending b (bringup (departQueues .up (holdTaken s)))).tsu = (bringup (departQueues .up (holdTaken s))).tsu
      ∧ (leavePending b (bringup (departQueues .up (holdTaken s)))).tqm = (bringup (departQueues .up (holdTaken s))).tqm
      ∧ (leavePending b (bringup (departQueues .up (holdTaken s)))).tmu = (bringup (departQueues .up (holdTaken s))).tmu
      ∧ (leavePending b (bringup (departQueues .up (holdTaken s)))).sli = (bringup (departQueues .up (holdTaken s))).sli := fun b => by simp
  have hexchange : (bringup (departQueues .up (holdTaken s))).tmu.exchange = none := by
    have htmu : (bringup (departQueues .up (holdTaken s))).tmu = (departQueues .up (holdTaken s)).tmu := by simp
    rw [htmu]
    exact exchangeMissing_exchange _
  have hpends : ∀ j, (bringup (departQueues .up (holdTaken s))).pends j .linkState = true := fun j =>
    pends_bringup _ _ _ ((departQueues_moves .up (holdTaken s)).follows.keeps j .linkState (hstart j))
  have hemitted : (bringup (departQueues .up (holdTaken s))).emitted = s.emitted := by simp [holdTaken]
  rw [enterHold_eq]
  split
  · obtain ⟨htsu, hq, htmu, hsli⟩ := hleft false
    refine ⟨by rw [htsu, hkept, hqueues], by rw [hq, hstand, htqm], by rw [htmu, hexchange], fun j => ?_, ?_⟩
    · rw [pends_of_events (by rw [hsli])]
      exact hpends j
    · rw [leavePending_eq, hemitted]
      rfl
  · exact ⟨hkept.trans hqueues, hstand.trans htqm, hexchange, hpends, by rw [hemitted, List.append_nil]⟩

end Sys2Proof.Machine

namespace Sys2Proof.Machine

open Sys2Proof

/-- The PB of the looped frames that count as away at a fill: those not back by their fourth (R41). -/
def awayAt (l : List Awaiting) : Nat := ((l.filter fun a => decide (4 ≤ a.fills + 1)).map Awaiting.pb).sum

theorem ageAwaiting_away (l : List Awaiting) : (ageAwaiting 4 l).2 = awayAt l := by
  simp [ageAwaiting, awayAt, List.filter_map, Function.comp_def]

/-- The PB errored once the frames away are counted. -/
def LoopProgress.aged (p : LoopProgress) (away : Nat) : LoopProgress :=
  { p with errored := if away = 0 then p.errored else satAdd p.errored away }

theorem ageLooped_running {s : State} {o : Order} {p : LoopProgress} (hr : s.tsu.running = some ⟨o, .linkLoop p⟩) :
    (ageLooped s).tsu.running = some ⟨o, .linkLoop (p.aged (awayAt s.lkc.looped))⟩ := by
  unfold ageLooped
  dsimp only
  rw [ageAwaiting_away]
  split
  · next h => simp [LoopProgress.aged, h, hr]
  · next h => simp [LoopProgress.aged, h, countLooped, updLoop_eq hr]

theorem loopFrames_eq {s : State} {i d : Nat} {who : Requester} {x : Progress} (hr : s.tsu.running = some ⟨⟨i, who, .linkLoop d⟩, x⟩) :
    s.loopFrames = d := by simp [State.loopFrames, hr]

theorem loopCounted_running {s : State} {o : Order} {p : LoopProgress} (hr : s.tsu.running = some ⟨o, .linkLoop p⟩) :
    (loopCounted s).tsu.running
      = some ⟨o, .linkLoop { p with looped := p.looped + 1, sent := p.sent + (s.capacity s.lkc.rung - Config.controlReserve) }⟩ := by
  simp [loopCounted, updLoop_eq hr]

/-- A fill in LOOPING: pattern throughout, one looped frame more; the D-th ends LOOPING (R41). -/
theorem fillHeld_loops {s : State} {i d : Nat} {who : Requester} {p : LoopProgress} (hs : s.lkc.state = .held .looping)
    (hr : s.tsu.running = some ⟨⟨i, who, .linkLoop d⟩, .linkLoop p⟩) :
    fillHeld s = (if d ≤ p.looped + 1 then enterLoopExit (loopFilled s) else loopFilled s) := by
  have hprogress := loopProgress_some.mpr ⟨_, loopCounted_running hr⟩
  rw [fillHeld_looping hs, hprogress, loopFrames_eq hr]
  rfl

theorem loopFilled_same (s : State) :
    (loopFilled s).tsu = (loopCounted s).tsu ∧ (loopFilled s).tqm = s.tqm ∧ (loopFilled s).emitted = s.emitted := by
  simp [loopFilled, loopCounted]

theorem fillHeld_loops_leaves {s : State} {i d : Nat} {who : Requester} {p : LoopProgress} (hs : s.lkc.state = .held .looping)
    (hr : s.tsu.running = some ⟨⟨i, who, .linkLoop d⟩, .linkLoop p⟩) :
    (fillHeld s).tsu.running = some ⟨⟨i, who, .linkLoop d⟩, .linkLoop
        { p with looped := p.looped + 1, sent := p.sent + (s.capacity s.lkc.rung - Config.controlReserve) }⟩
      ∧ (fillHeld s).tqm = s.tqm
      ∧ (fillHeld s).lkc.looped = s.lkc.looped ++ [⟨s.lkc.frame, s.capacity s.lkc.rung - Config.controlReserve, 0⟩]
      ∧ (p.looped + 1 < d → (fillHeld s).lkc.state = .held .looping ∧ (fillHeld s).lkc.outstanding = s.lkc.outstanding
          ∧ (fillHeld s).emitted = s.emitted)
      ∧ (d ≤ p.looped + 1 →
          (fillHeld s).lkc.state = .held .loopExit ∧ (fillHeld s).lkc.outstanding = some ⟨.loopOff, 0, s.lkc.confirmLimit, s.lkc.sent⟩
            ∧ (fillHeld s).lkc.sent = s.lkc.sent + 1 ∧ (fillHeld s).emitted = s.emitted ++ [.odu .loopOff]) := by
  have hfill := fillHeld_loops hs hr
  obtain ⟨htsu, htqm, hemitted⟩ := loopFilled_same s
  have hlkc := loopFilled_lkc s
  have hcounted := loopCounted_running hr
  have hexit := enterLoopExit_lkc (loopFilled s)
  by_cases hd : d ≤ p.looped + 1
  · rw [if_pos hd] at hfill
    rw [hfill, hexit, hlkc]
    refine ⟨?_, ?_, rfl, fun h => by omega, fun _ => ⟨rfl, rfl, rfl, ?_⟩⟩
    · simpa [htsu] using hcounted
    · simpa using htqm
    · have hout := congrArg State.emitted (leavePending_eq true (loopFilled s))
      rw [hemitted] at hout
      exact hout
  · rw [if_neg hd] at hfill
    rw [hfill, hlkc]
    exact ⟨htsu ▸ hcounted, htqm, rfl, fun _ => ⟨hs, rfl, hemitted⟩, fun h => absurd h hd⟩

/-! ### The three kinds of fill -/

theorem noticeAt_enterHold (s : State) : NoticeAt s (enterHold (nextFill s)) ((s.lkc.frame + 1) % 65536) := by
  constructor <;> rw [enterHold_lkc] <;> split <;> rfl

theorem noticeAt_ageLooped {s : State} {ph : LoopPhase} (hs : s.lkc.state = .held ph) :
    NoticeAt s (ageLooped (nextFill s)) ((s.lkc.frame + 1) % 65536) := by
  have hheld : (nextFill s).lkc.state.isHeld = true := congrArg LinkState.isHeld hs
  constructor <;> rw [ageLooped_lkc]
  case held => exact hheld
  all_goals rfl

/-- The fill that takes the hold (R40). -/
theorem fill_takesHold {s : State} {o : Order} {p : LoopProgress} (hr : s.tsu.running = some ⟨o, .linkLoop p⟩) (hup : s.lkc.state = .up)
    (hp : p.held = false) (ho : s.lkc.outstanding = none) :
    ∃ (t : State) (f : AirFrame), exec .frameFill s = .next t ∧ t.loopProgress = some { p with held := true }
      ∧ t.lkc.unsent = s.lkc.unsent ++ [f] ∧ f.pattern = 0 ∧ f.segments = [] ∧ f.request = false
      ∧ s.noticeHeld t f ((s.lkc.frame + 1) % 65536)
      ∧ (s.lkc.unsent = [] →
          t.lkc.state = .held .loopEntry ∧ t.lkc.outstanding = some ⟨.loopOn, 0, s.lkc.confirmLimit, s.lkc.sent⟩
            ∧ t.lkc.sent = s.lkc.sent + 1 ∧ t.emitted = s.emitted ++ [.odu .loopOn])
      ∧ (s.lkc.unsent ≠ [] →
          t.lkc.state = .held (.holdPending s.lkc.unsent.length false) ∧ t.lkc.outstanding = none ∧ t.emitted = s.emitted)
      ∧ t.lkc.upCount = 0 ∧ t.lkc.syncMiss = 0 ∧ t.lkc.lowRun = 0 ∧ t.tmu.exchange = none
      ∧ t.tqm = s.tqm.map Traffic.depart ∧ (∀ j, (t.sli.events.get j).pending.has .linkState = true) ∧ s.recordsStand t := by
  have hreq : s.holdRequested = true := by simp [State.holdRequested, loopProgress_some.mpr ⟨o, hr⟩, hp]
  obtain ⟨hrun, htqm, hexchange, hpends, hemitted⟩ := enterHold_leaves (s := nextFill s) hr
  have hlkc := enterHold_lkc (nextFill s)
  have hwaiting : (nextFill s).lkc.outstanding = none := by simp [nextFill, Lkc.nextFrame, Lkc.ageFar, ho]
  have hnot : (enterHold (nextFill s)).lkc.state ≠ .held .looping := by
    rw [hlkc]
    split <;> simp
  have hnotice := noticeAt_enterHold s
  obtain ⟨hentry, -⟩ := enterHold_stands (nextFill s)
  generalize hu : enterHold (nextFill s) = u at *
  obtain ⟨f, hheads, hpattern, hsegments, hrequest, hend, hout, hloop⟩ := heldFill_idle s.lkc.rung hnot
  obtain ⟨hrunning, hqueues, -⟩ := hloop _ _ hrun (by simp [Progress.kind])
  obtain ⟨hrecords, -, -⟩ := heldFill_stands s.lkc.rung u
  have hquiet : heldFill s.lkc.rung u = fillHeld (fixRung u) := by
    have hnone : (fillHeld (fixRung u)).tmu.exchange = none := by
      rw [fillHeld_idle (by rw [fixRung_lkc, fixed_parts]; exact hnot)]
      simpa using hexchange
    exact reportRung_noExchange _ hnone
  have hexec : exec .frameFill s = .next (heldFill s.lkc.rung u) := by
    rw [← hu]
    exact congrArg _ (fillFrame_takesHold hup hreq)
  have hparts := fixed_parts u.lkc
  have hlink : (heldFill s.lkc.rung u).lkc
      = { u.lkc with rung := u.lkc.fixed.rung, notice := u.lkc.fixed.notice, voided := none, unsent := u.lkc.unsent ++ [f] } := by
    rw [hend]
    conv_lhs => rw [hparts]
  have hunsent : (nextFill s).lkc.unsent = s.lkc.unsent := rfl
  refine ⟨heldFill s.lkc.rung u, f, hexec, loopProgress_some.mpr ⟨o, hrunning.trans hrun⟩, ?_, hpattern, hsegments, hrequest,
    heldFill_noticed hnotice hheads (by rw [hlink]) (by rw [hlink]) (by rw [hlink]) (by rw [hlink]) (heldFill_moves_fixed _ _), fun hnil => ?_,
    fun hsome => ?_, ?_, ?_, ?_, ?_, hqueues.trans htqm,
    fun j => (heldFill_moves s.lkc.rung u).follows.keeps j .linkState (hpends j), (nextFill_stands s).trans (hentry.trans hrecords)⟩
  · rw [hlink, hlkc]
    split <;> rfl
  · rw [hlink, hlkc, if_pos (hunsent.trans hnil), hout, hemitted, if_pos (hunsent.trans hnil)]
    exact ⟨rfl, rfl, rfl, rfl⟩
  · have hfilled : (nextFill s).lkc.unsent ≠ [] := hsome
    rw [hlink, hlkc, if_neg hfilled, hout, hemitted, if_neg hfilled]
    exact ⟨rfl, hwaiting, List.append_nil _⟩
  · rw [hlink, hlkc]
    split <;> rfl
  · rw [hlink, hlkc]
    split <;> rfl
  · rw [hlink, hlkc]
    split <;> rfl
  · rw [hquiet, fillHeld_idle (by rw [fixRung_lkc, hparts]; exact hnot)]
    simpa using hexchange

theorem nextFill_running {s : State} {r : Option Running} (hr : s.tsu.running = r) : (nextFill s).tsu.running = r := hr

/-- A fill in LOOPING (R41, R175). -/
theorem fill_loops {s : State} {i d : Nat} {who : Requester} {p : LoopProgress}
    (hr : s.tsu.running = some ⟨⟨i, who, .linkLoop d⟩, .linkLoop p⟩) (hs : s.lkc.state = .held .looping) (ho : s.lkc.outstanding = none) :
    ∃ (t : State) (f : AirFrame), exec .frameFill s = .next t ∧ t.lkc.unsent = s.lkc.unsent ++ [f]
      ∧ f.pattern = t.capacity t.lkc.rung - 4 ∧ f.segments = [] ∧ s.noticeHeld t f ((s.lkc.frame + 1) % 65536)
      ∧ t.lkc.looped.getLast? = some ⟨t.lkc.frame, f.pattern, 0⟩
      ∧ (∃ q, t.loopProgress = some q ∧ q.looped = p.looped + 1 ∧ q.sent = p.sent + f.pattern ∧ q.held = p.held ∧ q.decided = p.decided
          ∧ q.errored = if awayAt s.lkc.looped = 0 then p.errored else min (p.errored + awayAt s.lkc.looped) 4294967295)
      ∧ (p.looped + 1 < d → t.lkc.state = .held .looping ∧ t.lkc.outstanding = none ∧ t.emitted = s.emitted)
      ∧ (d ≤ p.looped + 1 →
          t.lkc.state = .held .loopExit ∧ t.lkc.outstanding = some ⟨.loopOff, 0, s.lkc.confirmLimit, s.lkc.sent⟩
            ∧ t.lkc.sent = s.lkc.sent + 1 ∧ t.emitted = s.emitted ++ [.odu .loopOff])
      ∧ t.tqm = s.tqm ∧ s.recordsStand t := by
  have hnotice := noticeAt_ageLooped hs
  have hlkc := ageLooped_lkc (nextFill s)
  have hrun := ageLooped_running (nextFill_running hr)
  have hwaiting : (nextFill s).lkc.outstanding = none := by simp [nextFill, Lkc.nextFrame, Lkc.ageFar, ho]
  have haged := ageLooped_stands (nextFill s)
  have hsame : (ageLooped (nextFill s)).tqm = s.tqm ∧ (ageLooped (nextFill s)).emitted = s.emitted := by
    simp only [ageLooped_frame]
    exact ⟨rfl, rfl⟩
  have hexec : exec .frameFill s = .next (heldFill s.lkc.rung (ageLooped (nextFill s))) := congrArg _ (fillFrame_held hs)
  have hstate : (ageLooped (nextFill s)).lkc.state = .held .looping := by
    rw [hlkc]
    exact hs
  generalize ageLooped (nextFill s) = u at *
  obtain ⟨f, hunsent, hheads, -, hpattern, hsegments, -, hlink⟩ := heldFill_frame s.lkc.rung u
  obtain ⟨hrecords, -, -⟩ := heldFill_stands s.lkc.rung u
  have hparts := fixed_parts u.lkc
  have hfixed : (fixRung u).lkc = u.lkc.fixed := fixRung_lkc u
  have hstart : (fixRung u).tsu.running
      = some ⟨⟨i, who, .linkLoop d⟩, .linkLoop (p.aged (awayAt (nextFill s).lkc.looped))⟩ := by simpa using hrun
  obtain ⟨hrunning, hqueues, hlooped, hon, hoff⟩ := fillHeld_loops_leaves (by rw [hfixed, hparts]; exact hstate) hstart
  obtain ⟨hreported, htraffic, -⟩ := reportRung_order s.lkc.rung (fillHeld (fixRung u)) _ _ hrunning (by simp [Progress.kind])
  have hend : (heldFill s.lkc.rung u).lkc = (fillHeld (fixRung u)).lkc := by simp [heldFill]
  have hout : (heldFill s.lkc.rung u).emitted = (fillHeld (fixRung u)).emitted := by simp [heldFill]
  have hcapacity : ∀ r, (fixRung u).capacity r = u.capacity r := capacity_congr (by rw [hfixed, hparts])
  have hpb : f.pattern = (fixRung u).capacity (fixRung u).lkc.rung - Config.controlReserve := by
    rw [hpattern, if_pos hstate, hheads.2.1, hfixed, hcapacity]
    rfl
  have hfixedFrame : (fixRung u).lkc.frame = u.lkc.frame := by rw [hfixed, hparts]
  refine ⟨_, f, hexec, ?_, ?_, hsegments,
    heldFill_noticed hnotice hheads (by rw [hlink]) (by rw [hlink]) (by rw [hlink, hparts]) (by rw [hlink, hparts]) (heldFill_moves_fixed _ _),
    ?_, ⟨_, loopProgress_some.mpr ⟨_, hreported.trans hrunning⟩, rfl, by rw [hpb]; rfl, rfl, rfl, rfl⟩, fun hd => ?_, fun hd => ?_, ?_,
    (nextFill_stands s).trans (haged.trans hrecords)⟩
  · rw [hunsent, hlkc]
    rfl
  · have hend : ∀ r, (heldFill s.lkc.rung u).capacity r = u.capacity r := capacity_congr (by rw [hlink, hparts])
    rw [hpb, hcapacity, hend, hfixed, hlink]
    rfl
  · rw [hend, hlooped, hpb, hfixedFrame, ← hend, hlink, hparts]
    simp
  · obtain ⟨h1, h2, h3⟩ := hon hd
    refine ⟨hend ▸ h1, ?_, hout.trans (h3.trans ?_)⟩
    · rw [hend, h2, hfixed, hparts, hlkc]
      exact hwaiting
    · simpa using hsame.2
  · obtain ⟨h1, h2, h3, h4⟩ := hoff hd
    have hcommand : (fixRung u).lkc.confirmLimit = s.lkc.confirmLimit ∧ (fixRung u).lkc.sent = s.lkc.sent := by
      rw [hfixed, hparts, hlkc]
      exact ⟨rfl, rfl⟩
    have hemitted : (fixRung u).emitted = s.emitted := by simpa using hsame.2
    rw [hend, hout, h1, h2, h3, h4, hcommand.1, hcommand.2, hemitted]
    exact ⟨rfl, rfl, rfl, rfl⟩
  · rw [← hsame.1]
    exact htraffic.trans (hqueues.trans (fixRung_tqm u))

/-- A fill in HELD outside LOOPING: a command outstanding to the ODU has waited one air frame more (R22, R41). -/
theorem fill_holds {s : State} {o : Order} {p : LoopProgress} {ph : LoopPhase} (hr : s.tsu.running = some ⟨o, .linkLoop p⟩)
    (hs : s.lkc.state = .held ph) (hph : ph ≠ .looping) :
    ∃ (t : State) (f : AirFrame), exec .frameFill s = .next t ∧ t.lkc.unsent = s.lkc.unsent ++ [f] ∧ f.pattern = 0 ∧ f.segments = []
      ∧ s.noticeHeld t f ((s.lkc.frame + 1) % 65536) ∧ t.lkc.state = .held ph ∧ t.lkc.sent = s.lkc.sent ∧ t.emitted = s.emitted
      ∧ (∃ q, t.loopProgress = some q ∧ q.looped = p.looped ∧ q.sent = p.sent ∧ q.held = p.held ∧ q.decided = p.decided)
      ∧ (∀ o, s.lkc.outstanding = some o → o.cmd = .loopOn ∨ o.cmd = .loopOff →
          t.lkc.outstanding = some { o with elapsed := min o.limit (o.elapsed + 1) })
      ∧ t.tqm = s.tqm ∧ s.recordsStand t := by
  have hnotice := noticeAt_ageLooped hs
  have hlkc := ageLooped_lkc (nextFill s)
  have hrun := ageLooped_running (nextFill_running hr)
  have haged := ageLooped_stands (nextFill s)
  have hsame : (ageLooped (nextFill s)).tqm = s.tqm ∧ (ageLooped (nextFill s)).emitted = s.emitted := by
    simp only [ageLooped_frame]
    exact ⟨rfl, rfl⟩
  have hexec : exec .frameFill s = .next (heldFill s.lkc.rung (ageLooped (nextFill s))) := congrArg _ (fillFrame_held hs)
  have hstate : (ageLooped (nextFill s)).lkc.state = .held ph := by
    rw [hlkc]
    exact hs
  generalize ageLooped (nextFill s) = u at *
  obtain ⟨f, hheads, hpattern, hsegments, -, hend, hout, hloop⟩ := heldFill_idle s.lkc.rung (u := u) (by rw [hstate]; simp [hph])
  obtain ⟨hrunning, hqueues, -⟩ := hloop _ _ hrun (by simp [Progress.kind])
  obtain ⟨hrecords, -, -⟩ := heldFill_stands s.lkc.rung u
  have hlink : (heldFill s.lkc.rung u).lkc
      = { u.lkc with rung := u.lkc.fixed.rung, notice := u.lkc.fixed.notice, voided := none, unsent := u.lkc.unsent ++ [f] } := by
    rw [hend]
    conv_lhs => rw [fixed_parts]
  refine ⟨_, f, hexec, ?_, hpattern, hsegments,
    heldFill_noticed hnotice hheads (by rw [hlink]) (by rw [hlink]) (by rw [hlink]) (by rw [hlink]) (heldFill_moves_fixed _ _),
    by rw [hlink, hstate], ?_, hout.trans hsame.2, ⟨_, loopProgress_some.mpr ⟨_, hrunning.trans hrun⟩, rfl, rfl, rfl, rfl⟩, fun c hc hcmd => ?_,
    hqueues.trans hsame.1, (nextFill_stands s).trans (haged.trans hrecords)⟩
  · rw [hlink, hlkc]
    rfl
  · rw [hlink, hlkc]
    rfl
  · rw [hlink, hlkc]
    simp [nextFill, Lkc.nextFrame, Lkc.ageFar, hc, hcmd]

/-- Settles O35, by the three kinds of fill. -/
theorem fillsTakeAndRunTheHold : Obligations.FillsTakeAndRunTheHold := by
  unfold Obligations.FillsTakeAndRunTheHold
  intro id d who p s hr
  refine ⟨fun hup hp ho => ?_, fun hs ho => ?_, fun ph hs hph => ?_⟩
  · obtain ⟨t, f, hall⟩ := fill_takesHold hr hup hp ho
    exact ⟨t, f, hall⟩
  · obtain ⟨t, f, hall⟩ := fill_loops hr hs ho
    exact ⟨t, f, hall⟩
  · obtain ⟨t, f, hall⟩ := fill_holds hr hs hph
    exact ⟨t, f, hall⟩

end Sys2Proof.Machine

/-! The ends of a hold and of its order (chapters 2 and 9), and of other orders where no order is held behind them. -/

namespace Sys2Proof.Machine

open Sys2Proof

/-! ## An order ended with none behind it (R167, R183) -/

/-- A completion reported outside BRINGUP places no order, and does not lead there. -/
theorem reportCompletion_elsewhere {s : State} (hb : s.scu.site ≠ .bringup) (o : Order) (out : TestOutcome) :
    (reportCompletion o out s).tsu = s.tsu ∧ (reportCompletion o out s).scu.site ≠ .bringup := by
  have hfollow : (followAcceptance o out s).tsu = s.tsu ∧ (followAcceptance o out s).scu.site ≠ .bringup := by
    unfold followAcceptance
    split
    · exact ⟨rfl, hb⟩
    · dsimp only
      split
      · split
        · simp [enterService]
        · exact ⟨rfl, hb⟩
      · simp
  unfold reportCompletion
  split
  · split
    · exact hfollow
    · exact ⟨rfl, hb⟩
  · rw [bringupStep_of_ne hb]
    exact ⟨rfl, hb⟩

/-- The running order ended outside BRINGUP with none behind it: none runs or waits, and its entry is the last of the log. -/
theorem endRunning_alone {s : State} {r : Running} (hr : s.tsu.running = some r) (hq : s.tsu.queued = []) (hb : s.scu.site ≠ .bringup)
    (out : TestOutcome) :
    (endRunning out s).tsu = (writeEntry r.order out (measuresOf r.order r.progress) (s.updTsu fun t => { t with running := none })).tsu
      ∧ (endRunning out s).scu.site ≠ .bringup := by
  obtain ⟨htsu, hsite⟩ := reportCompletion_elsewhere
    (s := raiseTestDone r.order.requester (writeEntry r.order out (measuresOf r.order r.progress) (s.updTsu fun t => { t with running := none })))
    (by simpa using hb) r.order out
  have hend : endRunning out s = settle (completeOrder r.order out (measuresOf r.order r.progress) (s.updTsu fun t => { t with running := none })) := by
    simp only [endRunning, hr]
  have hidle : (completeOrder r.order out (measuresOf r.order r.progress) (s.updTsu fun t => { t with running := none })).tsu.queued = [] := by
    rw [completeOrder, htsu]
    simpa using hq
  rw [hend, settle_of_noStart (.inr hidle), completeOrder]
  exact ⟨htsu.trans (by simp), hsite⟩

theorem writeEntry_last {s : State} {n : Nat} (h : s.tsu.nextSeq = some n) (o : Order) (out : TestOutcome) (m : Measures) :
    (writeEntry o out m s).tsu.log.getLast? = some ⟨n, o, out, m, s.tmu.site, s.tmu.cls⟩ := by
  rw [writeEntry_log h]
  simp

/-- The entry of an order so ended. -/
theorem endRunning_entry {s : State} {r : Running} {n : Nat} (hr : s.tsu.running = some r) (hq : s.tsu.queued = [])
    (hb : s.scu.site ≠ .bringup) (hn : s.tsu.nextSeq = some n) (out : TestOutcome) :
    (endRunning out s).tsu.running = none ∧ (endRunning out s).tsu.queued = []
      ∧ (endRunning out s).tsu.log.getLast? = some ⟨n, r.order, out, measuresOf r.order r.progress, s.tmu.site, s.tmu.cls⟩ := by
  obtain ⟨htsu, -⟩ := endRunning_alone hr hq hb out
  rw [htsu]
  exact ⟨by simp, by simpa using hq, writeEntry_last (s := s.updTsu fun t => { t with running := none }) hn _ _ _⟩

/-! ## Confirmations and limits of the hold (R22, R41, R42, R175) -/

theorem awaits_of_some {s : State} {o : Outstanding} (ho : s.lkc.outstanding = some o) (c : OduCommand) : s.awaits c = decide (o.cmd = c) := by
  simp [State.awaits, ho]

theorem awaits_false {s : State} {c : OduCommand} (h : ∀ o, s.lkc.outstanding = some o → o.cmd ≠ c) : s.awaits c = false := by
  cases ho : s.lkc.outstanding with
  | none => simp [State.awaits, ho]
  | some o => simpa [State.awaits, ho] using h o ho

/-- The counts of late confirmations replaced. -/
def State.withLate (s : State) (l : LateConfirms) : State := { s with lkc := { s.lkc with late := l } }

theorem upd_of_zero {l : LateConfirms} {c : OduCommand} (h : l.get c = 0) : l.upd c (· - 1) = l := by
  obtain ⟨a, b, j⟩ := l
  cases c with
  | loopOn | loopOff => cases h; rfl
  | identify | readPage => rfl

theorem upd_of_succ {l : LateConfirms} {c : OduCommand} {n : Nat} (h : l.get c = n + 1) : l.upd c (fun _ => n) = l.upd c (· - 1) := by
  cases c with
  | loopOn | loopOff => simp_all [LateConfirms.upd, LateConfirms.get]
  | identify | readPage => rfl

/-- A confirmation with no command of its kind outstanding is a late one, or of none. -/
theorem takeConfirm_unawaited {s : State} {c : OduCommand} (h : ∀ o, s.lkc.outstanding = some o → o.cmd ≠ c)
    (answered : State → State) :
    takeConfirm c answered s = s.withLate (s.lkc.late.upd c (· - 1)) := by
  have hno := awaits_false h
  unfold takeConfirm
  split
  · next hlate =>
    rw [hno, upd_of_zero hlate]
    rfl
  · next n hlate =>
    simp only [hno]
    rw [← upd_of_succ hlate]
    rfl

/-- A confirmation of a command outstanding with late ones to come: a free value says which of them it is of. -/
theorem takeConfirm_late {s : State} {o : Outstanding} {c : OduCommand} (ho : s.lkc.outstanding = some o) (hc : o.cmd = c)
    (hl : 0 < s.lkc.late.get c) (answered : State → State) :
    takeConfirm c answered s
      = if Config.confirmsEarlier s.lkc.late.judged then
          s.withLate { s.lkc.late.upd c (· - 1) with judged := s.lkc.late.judged + 1 }
        else answered (s.withLate { s.lkc.late with judged := s.lkc.late.judged + 1 }) := by
  have hawaits : s.awaits c = true := by rw [awaits_of_some ho]; simp [hc]
  unfold takeConfirm
  split
  · next h => omega
  · next n h =>
    have hjudged : (s.lkc.late.upd c (· - 1)).judged = s.lkc.late.judged := by cases c <;> rfl
    simp only [hawaits, if_true]
    split
    · rw [← hjudged, ← upd_of_succ h]
      rfl
    · rfl

theorem takeConfirm_answered {s : State} {o : Outstanding} {c : OduCommand} (ho : s.lkc.outstanding = some o) (hc : o.cmd = c)
    (hl : s.lkc.late.get c = 0) (answered : State → State) : takeConfirm c answered s = answered s := by
  rw [takeConfirm_none _ _ hl, awaits_of_some ho]
  simp [hc]

theorem loopOnLimit_ignored {s : State} (h : s.commandDue .loopOn = false) : exec .loopOnLimit s = .next s := if_neg (by simp [h])

theorem loopOffLimit_ignored {s : State} (h : s.commandDue .loopOff = false) : exec .loopOffLimit s = .next s := if_neg (by simp [h])

/-- A limit not run out, or of another command (R22). -/
theorem commandDue_not {s : State} {o : Outstanding} (ho : s.lkc.outstanding = some o) {c : OduCommand} (h : o.cmd ≠ c ∨ o.elapsed < o.limit) :
    s.commandDue c = false := by
  rw [commandDue_of_some ho, decide_eq_false_iff_not]
  rintro ⟨hc, hdue⟩
  exact h.elim (· hc) fun hlt => by omega

theorem abandon_late {l : Lkc} {o : Outstanding} (ho : l.outstanding = some o) : l.abandon.late = l.late.upd o.cmd (· + 1) := by
  simp [Lkc.abandon, ho]

/-! ### The end of a hold -/

theorem judgeLooped_counts {s : State} {o : Order} {p : LoopProgress} (hr : s.tsu.running = some ⟨o, .linkLoop p⟩) :
    (judgeLooped s).tsu.running = some ⟨o, .linkLoop { p with errored := satAdd p.errored (s.lkc.looped.map Awaiting.pb).sum }⟩ := by
  simp [judgeLooped, countLooped, updLoop_eq hr]

/-- What a confirmed end leaves (R42). -/
theorem endHold_leaves (s : State) :
    (∀ j, (endHold s).pends j .linkState = true) ∧ (endHold s).tmu = s.tmu ∧ (endHold s).emitted = s.emitted ∧ s.recordsStand (endHold s) := by
  have hlkc := (endHold_lkc s).trans (holdEnded_lkc s)
  have hpends : ∀ j, (holdEnded s).pends j .linkState = true := fun j => by simp [holdEnded, pends_linkStateEvent]
  have hmoves : Moves (holdEnded s) (endHold s) := by
    rw [endHold_eq]
    split
    · exact (Moves.endRunning _ _).trans (.bringup _)
    · exact .bringup _
  refine ⟨fun j => hmoves.follows.keeps j .linkState (hpends j), by simp, by simp, (endHold_moves s).recordsStand ?_ (by simp)⟩
  simp [State.tablesStand, State.tables, hlkc]

/-- The order's outcome at a confirmed end: the one decided, or by the PB errored and the looped frames still away (R177). -/
def LoopProgress.endOutcome (p : LoopProgress) (away : List Awaiting) : TestOutcome :=
  p.decided.getD (if p.errored = 0 ∧ ∀ a ∈ away, a.pb = 0 then .pass else .fail)

theorem outcome_judged (p : LoopProgress) (away : List Awaiting) :
    LoopProgress.outcome { p with errored := satAdd p.errored (away.map Awaiting.pb).sum } = p.endOutcome away := by
  have hzero : satAdd p.errored (away.map Awaiting.pb).sum = 0 ↔ p.errored = 0 ∧ ∀ a ∈ away, a.pb = 0 := by
    have hmax : Config.counterMax = 4294967295 := rfl
    have hsum : (away.map Awaiting.pb).sum = 0 ↔ ∀ a ∈ away, a.pb = 0 := by simp [List.sum_eq_zero_iff]
    rw [← hsum, satAdd, hmax]
    omega
  simp only [LoopProgress.outcome, LoopProgress.endOutcome, hzero]

/-- The order ended by a hold's end, with none behind it. -/
def State.logsEnd (t : State) (n : Nat) (x : Order) (time : SiteTime) (out : TestOutcome) : Prop :=
  ∃ e, t.tsu.running = none ∧ t.tsu.log.getLast? = some e ∧ e.seq = n ∧ e.order = x ∧ e.time = time ∧ e.outcome = out

theorem endRunning_logs {s : State} {r : Running} {n : Nat} (hr : s.tsu.running = some r) (hq : s.tsu.queued = [])
    (hb : s.scu.site ≠ .bringup) (hn : s.tsu.nextSeq = some n) (out : TestOutcome) :
    (bringup (endRunning out s)).logsEnd n r.order s.tmu.site out := by
  obtain ⟨hrun, hqueued, hlast⟩ := endRunning_entry hr hq hb hn out
  obtain ⟨-, hsite⟩ := endRunning_alone hr hq hb out
  rw [bringup_of_ne hsite fun _ => hqueued]
  exact ⟨_, hrun, hlast, rfl, rfl, rfl, rfl⟩

theorem endHold_logs {s : State} {x : Order} {p : LoopProgress} {n : Nat} (hr : s.tsu.running = some ⟨x, .linkLoop p⟩)
    (hq : s.tsu.queued = []) (hb : s.scu.site ≠ .bringup) (hn : s.tsu.nextSeq = some n) :
    (endHold s).logsEnd n x s.tmu.site (p.endOutcome s.lkc.looped) := by
  have hrun : (holdEnded s).tsu.running
      = some ⟨x, .linkLoop { p with errored := satAdd p.errored (s.lkc.looped.map Awaiting.pb).sum }⟩ := by
    have hcounted : (judgeLooped (endCommand s)).tsu.running
        = some ⟨x, .linkLoop { p with errored := satAdd p.errored (s.lkc.looped.map Awaiting.pb).sum }⟩ := judgeLooped_counts (s := endCommand s) hr
    simpa [holdEnded] using hcounted
  have hend : endHold s = bringup (endRunning (p.endOutcome s.lkc.looped) (holdEnded s)) := by
    rw [endHold_eq, loopProgress_some.mpr ⟨x, hrun⟩, ← outcome_judged]
  have hlogs := endRunning_logs (s := holdEnded s) hrun (by simpa [holdEnded, endCommand] using hq) (by simpa [holdEnded, endCommand] using hb)
    (by simpa [holdEnded, endCommand] using hn) (p.endOutcome s.lkc.looped)
  rw [hend]
  simpa [holdEnded, endCommand] using hlogs

end Sys2Proof.Machine

namespace Sys2Proof.Machine

open Sys2Proof

/-! ### The end of a hold unconfirmed (R42, R177) -/

/-- The state in which the link is lost at LOOP_OFF's limit. -/
def exitFailed (s : State) : State := judgeLooped (s.updLkc Lkc.abandon)

theorem exitFailed_lkc {s : State} {o : Outstanding} (ho : s.lkc.outstanding = some o) :
    (exitFailed s).lkc = { s.lkc with outstanding := none, looped := [], late := s.lkc.late.upd o.cmd (· + 1) } := by
  have habandon := abandon_apart s.lkc
  rw [abandon_late ho] at habandon
  simp [exitFailed, judgeLooped, habandon]

theorem exitFailed_same (s : State) :
    (exitFailed s).tmu = s.tmu ∧ (exitFailed s).emitted = s.emitted ∧ (exitFailed s).scu = s.scu ∧ (exitFailed s).tsu.queued = s.tsu.queued
      ∧ (exitFailed s).tsu.nextSeq = s.tsu.nextSeq ∧ s.recordsStand (exitFailed s) := by
  have hlkc : (exitFailed s).lkc.settings = s.lkc.settings := by
    have habandon := abandon_apart s.lkc
    simp only [exitFailed, judgeLooped, State.updLkc_lkc, countLooped_frame]
    rw [habandon]
    rfl
  simp only [Lkc.settings, Prod.mk.injEq] at hlkc
  obtain ⟨hceiling, hup, hloss, hconfirm, hprofiles⟩ := hlkc
  refine ⟨by simp [exitFailed], by simp [exitFailed], by simp [exitFailed], by simp [exitFailed], by simp [exitFailed], ?_⟩
  refine Moves.recordsStand ((Moves.lkc Lkc.abandon s).trans (judgeLooped_moves _)) ?_ (by simp [exitFailed])
  simp only [State.tablesStand, State.tables, hceiling, hup, hloss, hconfirm, hprofiles]
  simp [exitFailed]

/-- A departure from HELD ends a LINK_LOOP whose hold was taken with the outcome of the hold's end. -/
theorem depart_logs {s : State} {w : LinkState} {x : Order} {p : LoopProgress} {n : Nat} (hw : w.carries = true)
    (hr : s.tsu.running = some ⟨x, .linkLoop p⟩) (hp : p.held = true) (hq : s.tsu.queued = []) (hb : s.scu.site ≠ .bringup)
    (hn : s.tsu.nextSeq = some n) (out : TestOutcome) : (depart w out s).logsEnd n x s.tmu.site out := by
  have hqueues : departQueues w s = exchangeMissing (tqmDepart s) := by simp [departQueues, hw]
  obtain ⟨-, -, hstand⟩ := exchangeMissing_order (tqmDepart s) x _ hr (by simp [Progress.kind])
  obtain ⟨htsu, hsite⟩ := hstand hb
  rw [← hqueues] at htsu hsite
  have hend : tsuDepart out (departQueues w s) = endRunning out (departQueues w s) := by
    have hrun : (departQueues w s).tsu.running = some ⟨x, .linkLoop p⟩ := by rw [htsu]; exact hr
    simp [tsuDepart, hrun, hp]
  have hlogs := endRunning_logs (s := departQueues w s) (by rw [htsu]; exact hr) (by rw [htsu]; exact hq) (by rw [hsite]; exact hb)
    (by rw [htsu]; exact hn) out
  rw [depart, if_pos hw, hend]
  simpa using hlogs

/-- LOOP_ON's limit run out (R41, R175). -/
theorem loopOnLimit_leaves {s : State} {o : Outstanding} {p : LoopProgress} (ho : s.lkc.outstanding = some o) (hc : o.cmd = .loopOn)
    (hdue : o.limit ≤ o.elapsed) (hp : s.loopProgress = some p) :
    ∃ t, exec .loopOnLimit s = .next t
      ∧ t.lkc = { s.lkc with
          state := .held .loopExit, outstanding := some ⟨.loopOff, 0, s.lkc.confirmLimit, s.lkc.sent⟩, sent := s.lkc.sent + 1,
          late := { s.lkc.late with loopOn := s.lkc.late.loopOn + 1 } }
      ∧ t.emitted = s.emitted ++ [.odu .loopOff]
      ∧ t.loopProgress = some { p with decided := some (p.decided.getD .timeout) }
      ∧ t = { s with lkc := t.lkc, emitted := t.emitted, tsu := { s.tsu with running := t.tsu.running } } := by
  obtain ⟨x, hr⟩ := loopProgress_some.mp hp
  have hdecided : decideLoop .timeout s
      = s.updTsu fun t => { t with running := some ⟨x, .linkLoop { p with decided := some (p.decided.getD .timeout) }⟩ } := updLoop_eq hr _
  have hexec : exec .loopOnLimit s = .next (enterLoopExit (decideLoop .timeout s)) :=
    if_pos (by rw [commandDue_of_some ho]; simp [hc, hdue])
  have hout := leavePending_eq true (decideLoop .timeout s)
  have hlkc := enterLoopExit_lkc (decideLoop .timeout s)
  have habandon : s.lkc.abandon.late = { s.lkc.late with loopOn := s.lkc.late.loopOn + 1 } := by
    rw [abandon_late ho, hc]
    rfl
  rw [hdecided] at hexec hout hlkc
  have hrun := congrArg State.tsu hout
  refine ⟨_, hexec, hlkc.trans (by rw [← habandon]; rfl), congrArg State.emitted hout, loopProgress_some.mpr ⟨x, ?_⟩, hout⟩
  exact congrArg Tsu.running hrun

/-- LOOP_OFF's limit run out (R42). -/
theorem loopOffLimit_leaves {s : State} {o : Outstanding} (ho : s.lkc.outstanding = some o) (hc : o.cmd = .loopOff)
    (hdue : o.limit ≤ o.elapsed) :
    ∃ t, exec .loopOffLimit s = .next t
      ∧ t.lkc = { s.lkc with
          state := .lost 0, outstanding := none, notice := none, voided := none, upCount := 0, syncMiss := 0, lowRun := 0,
          looped := [], far := none, unsent := [], losses := { s.lkc.losses with holdExit := satInc s.lkc.losses.holdExit },
          late := { s.lkc.late with loopOff := s.lkc.late.loopOff + 1 } }
      ∧ (∀ j, (t.sli.events.get j).pending.has .linkState = true) ∧ t.tmu.site = s.tmu.site ∧ t.emitted = s.emitted
      ∧ s.recordsStand t := by
  have hexec : exec .loopOffLimit s = .next (enterLost .holdExit (exitFailed s)) := if_pos (by rw [commandDue_of_some ho]; simp [hc, hdue])
  obtain ⟨htmu, hemitted, -, -, -, hrecords⟩ := exitFailed_same s
  obtain ⟨hpends, hemitted', hsite, hrecords'⟩ := enterLost_leaves .holdExit (exitFailed s)
  refine ⟨_, hexec, ?_, hpends, hsite.trans (by rw [htmu]), hemitted'.trans hemitted, hrecords.trans hrecords'⟩
  rw [enterLost_lkc, exitFailed_lkc ho, hc]
  rfl

theorem loopOffLimit_logs {s : State} {o : Outstanding} {x : Order} {p : LoopProgress} {n : Nat} (ho : s.lkc.outstanding = some o)
    (hc : o.cmd = .loopOff) (hdue : o.limit ≤ o.elapsed) (hs : s.lkc.state = .held .loopExit) (hr : s.tsu.running = some ⟨x, .linkLoop p⟩)
    (hp : p.held = true) (hq : s.tsu.queued = []) (hb : s.scu.site ≠ .bringup) (hn : s.tsu.nextSeq = some n) :
    ∃ t, exec .loopOffLimit s = .next t ∧ t.logsEnd n x s.tmu.site .timeout := by
  have hexec : exec .loopOffLimit s = .next (enterLost .holdExit (exitFailed s)) := if_pos (by rw [commandDue_of_some ho]; simp [hc, hdue])
  obtain ⟨htmu, -, hscu, hqueued, hseq, -⟩ := exitFailed_same s
  have hrun : (exitFailed s).tsu.running
      = some ⟨x, .linkLoop { p with errored := satAdd p.errored ((s.updLkc Lkc.abandon).lkc.looped.map Awaiting.pb).sum }⟩ :=
    judgeLooped_counts (s := s.updLkc Lkc.abandon) hr
  refine ⟨_, hexec, ?_⟩
  have hlogs := depart_logs (s := linkStateEvent ((exitFailed s).updLkc fun l =>
      { l with state := .lost 0, outstanding := none, notice := none, voided := none, upCount := 0, syncMiss := 0, lowRun := 0,
               losses := l.losses.count .holdExit, far := none, unsent := [] })) (w := (exitFailed s).lkc.state) (x := x)
    (p := { p with errored := satAdd p.errored ((s.updLkc Lkc.abandon).lkc.looped.map Awaiting.pb).sum }) (n := n)
    (by rw [exitFailed_lkc ho, hs]; rfl) (by simpa using hrun) hp (by simpa [hqueued] using hq) (by simpa [hscu] using hb)
    (by simpa [hseq] using hn) .timeout
  simpa [enterLost, htmu] using hlogs

/-- A looped frame back while it is awaited counts its errored PB once (R41). -/
theorem returnLooped_awaited {s : State} {frame errored : Nat} {p : LoopProgress} (hh : s.lkc.state.isHeld = true)
    (hp : s.loopProgress = some p) (hf : ∃ a ∈ s.lkc.looped, a.frame = frame) :
    ∃ t, exec (.loopedFrameReturn frame errored) s = .next t
      ∧ t.lkc = { s.lkc with looped := s.lkc.looped.filter (fun a => decide (a.frame ≠ frame)) }
      ∧ t.loopProgress = some { p with errored := min (p.errored + errored) 4294967295 }
      ∧ t = { s with lkc := t.lkc, tsu := { s.tsu with running := t.tsu.running } } := by
  obtain ⟨x, hr⟩ := loopProgress_some.mp hp
  have hcounted : countLooped errored s
      = s.updTsu fun t => { t with running := some ⟨x, .linkLoop { p with errored := satAdd p.errored errored }⟩ } := updLoop_eq hr _
  have hexec : returnLooped frame errored s
      = (countLooped errored s).updLkc fun l => { l with looped := l.looped.filter (fun a => decide (a.frame ≠ frame)) } :=
    if_pos (by simpa [hh] using hf)
  rw [hcounted] at hexec
  exact ⟨_, congrArg Host.Outcome.next hexec, rfl, loopProgress_some.mpr ⟨x, rfl⟩, rfl⟩

/-- Settles O34, command by command. -/
theorem holdPhasesFollow : Obligations.HoldPhasesFollow := by
  unfold Obligations.HoldPhasesFollow
  intro s late counted
  refine ⟨fun h => ?_, fun h => ?_, fun ho => ?_, fun o ho => ⟨fun h => ?_, fun h => ?_, fun hc => ?_, fun hc => ?_⟩,
    fun frame errored p hh hp => ⟨fun hno => ?_, fun hf => returnLooped_awaited hh hp hf⟩⟩
  · exact congrArg Host.Outcome.next (takeConfirm_unawaited h _)
  · exact congrArg Host.Outcome.next (takeConfirm_unawaited h _)
  · exact ⟨loopOnLimit_ignored (commandDue_of_none ho _), loopOffLimit_ignored (commandDue_of_none ho _)⟩
  · exact loopOnLimit_ignored (commandDue_not ho h)
  · exact loopOffLimit_ignored (commandDue_not ho h)
  · refine ⟨fun hl => ?_, fun hl => ?_, fun p hdue hp => loopOnLimit_leaves ho hc hdue hp⟩
    · exact congrArg Host.Outcome.next (takeConfirm_answered ho hc hl loopingEntered)
    · refine (congrArg Host.Outcome.next (takeConfirm_late ho hc hl loopingEntered)).trans (congrArg _ ?_)
      split <;> rfl
  · have hreturned : ∀ l, exec .loopOffConfirmed s = .next (endHold (s.withLate l)) → ∃ t, exec .loopOffConfirmed s = .next t
        ∧ t.lkc = { s.lkc with state := .up, outstanding := none, looped := [], upCount := 0, syncMiss := 0, lowRun := 0, late := l }
        ∧ (∀ j, (t.sli.events.get j).pending.has .linkState = true) ∧ t.tmu = s.tmu ∧ t.emitted = s.emitted ∧ s.recordsStand t := fun l h => by
      obtain ⟨hpends, htmu, hemitted, hrecords⟩ := endHold_leaves (s.withLate l)
      exact ⟨_, h, (endHold_lkc _).trans (holdEnded_lkc _), hpends, htmu, hemitted, hrecords⟩
    refine ⟨fun hl => hreturned _ (congrArg Host.Outcome.next (takeConfirm_answered ho hc hl endHold)), fun hl => ?_,
      fun hdue => loopOffLimit_leaves ho hc hdue, fun x p n hr hp hq hb hn hs => ⟨fun hl => ?_, fun hdue => ?_⟩⟩
    · have htaken := takeConfirm_late ho hc hl endHold
      split
      · next hearlier => exact congrArg Host.Outcome.next (htaken.trans (if_pos hearlier))
      · next hearlier => exact hreturned _ (congrArg Host.Outcome.next (htaken.trans (if_neg hearlier)))
    · obtain ⟨e, hall⟩ := endHold_logs hr hq hb hn
      exact ⟨_, e, congrArg Host.Outcome.next (takeConfirm_answered ho hc hl endHold), hall⟩
    · obtain ⟨t, hexec, e, hall⟩ := loopOffLimit_logs ho hc hdue hs hr hp hq hb hn
      exact ⟨t, e, hexec, hall⟩
  · have hnone : returnLooped frame errored s = s := if_neg (by simpa [hh] using hno)
    exact congrArg Host.Outcome.next hnone

end Sys2Proof.Machine

/-! The orders that start when another has ended (chapter 9), and the far frames (chapters 2 and 4). -/

namespace Sys2Proof.Machine

open Sys2Proof

/-! ## The starts that follow an end (R166, R168) -/

/-- A PORT_LOOP runs on slot `k`. -/
def State.portRuns (s : State) (k : Slot) : Prop := ∃ i who n len p, s.tsu.running = some ⟨⟨i, who, .portLoop k n len⟩, .portLoop p⟩

theorem State.portRuns.subject {s : State} {k : Slot} (h : s.portRuns k) : s.loopSubject = some k := by
  obtain ⟨i, who, n, len, p, hr⟩ := h
  simp [State.loopSubject, hr]

/-- The queues stand, but for the egress partial of a slot whose PORT_LOOP starts. -/
def State.discardsAtStart (s t : State) : Prop :=
  ∀ k, t.tqm.get k = s.tqm.get k ∨ (t.portRuns k ∧ t.tqm.get k = (s.tqm.get k).discardEgress)

/-- Between the two states orders may end and start, but a PORT_LOOP that runs goes on. -/
structure Starts (s t : State) : Prop where
  stays : ∀ k, s.portRuns k → t.tsu.running = s.tsu.running ∧ t.tqm = s.tqm
  discards : s.discardsAtStart t

theorem Starts.of_same {s t : State} (hr : t.tsu.running = s.tsu.running) (hq : t.tqm = s.tqm) : Starts s t :=
  ⟨fun _ _ => ⟨hr, hq⟩, fun _ => .inl (by rw [hq])⟩

theorem Starts.refl (s : State) : Starts s s := .of_same rfl rfl

theorem State.discardsAtStart.trans {s t u : State} (h1 : s.discardsAtStart t) (h2 : Starts t u) : s.discardsAtStart u := fun k => by
  obtain h | ⟨hruns, h⟩ := h1 k
  · rw [← h]
    exact h2.discards k
  · obtain ⟨hr, hq⟩ := h2.stays k hruns
    obtain ⟨i, who, n, len, p, hruns⟩ := hruns
    exact .inr ⟨⟨i, who, n, len, p, hr.trans hruns⟩, by rw [hq, h]⟩

theorem Starts.trans {s t u : State} (h1 : Starts s t) (h2 : Starts t u) : Starts s u where
  stays k h := by
    obtain ⟨hr, hq⟩ := h1.stays k h
    obtain ⟨i, who, n, len, p, hruns⟩ := h
    obtain ⟨hr', hq'⟩ := h2.stays k ⟨i, who, n, len, p, hr.trans hruns⟩
    exact ⟨hr'.trans hr, hq'.trans hq⟩
  discards := h1.discards.trans h2

theorem Starts.ite {c : Prop} [Decidable c] {s t u : State} (h1 : Starts s t) (h2 : Starts s u) : Starts s (if c then t else u) := by
  split
  · exact h1
  · exact h2

theorem Starts.tmu (f : Tmu → Tmu) (s : State) : Starts s (s.updTmu f) := .of_same rfl rfl

/-- What happens while no PORT_LOOP runs. -/
theorem Starts.of_discards {s t : State} (h : ∀ k, ¬s.portRuns k) (ht : s.discardsAtStart t) : Starts s t :=
  ⟨fun k hk => absurd hk (h k), ht⟩

theorem startOrder_discards (o : Order) (s : State) : s.discardsAtStart (startOrder o s) := by
  intro k
  have hrun := startOrder_running o s
  obtain ⟨i, who, x⟩ := o
  cases x with
  | portLoop j n len =>
    have htqm : (startOrder ⟨i, who, .portLoop j n len⟩ s).tqm = s.tqm.modify j Traffic.discardEgress := rfl
    rw [htqm, PerSlot.get_modify]
    split
    · next hk =>
      subst hk
      exact .inr ⟨⟨i, who, n, len, _, hrun⟩, rfl⟩
    · exact .inl rfl
  | airPattern | linkLoop | timeCompare => exact .inl rfl

theorem considerStart_starts (n : Nat) (s : State) : Starts s (considerStart n s) := by
  induction n generalizing s with
  | zero => exact .refl s
  | succ n ih =>
    unfold considerStart
    split
    · next o rest hr hq =>
      have hdrop : Starts s (s.updTsu fun t => { t with queued := rest }) := .of_same rfl rfl
      dsimp only
      split
      · refine hdrop.trans (.of_discards (fun k ⟨i, who, n, len, p, h⟩ => ?_) (startOrder_discards o _))
        rw [State.updTsu_tsu, hr] at h
        cases h
      · exact (hdrop.trans (.of_same (by simp) (by simp))).trans (ih _)
    · exact .refl s

theorem settle_starts (s : State) : Starts s (settle s) := considerStart_starts _ s

theorem bringup_starts (s : State) : Starts s (bringup s) := (Starts.of_same (by simp) (by simp)).trans (settle_starts _)

/-- Whichever order ends. -/
theorem endRunning_discards (out : TestOutcome) (s : State) : s.discardsAtStart (endRunning out s) := by
  unfold endRunning
  split
  · exact (Starts.refl s).discards
  · next r hr =>
    refine State.discardsAtStart.trans (t := completeOrder r.order out (measuresOf r.order r.progress) (s.updTsu fun t => { t with running := none }))
      (fun k => .inl (by simp)) (settle_starts _)

/-- An order that is no PORT_LOOP ends. -/
theorem endRunning_starts {s : State} {o : Order} {p : Progress} (hr : s.tsu.running = some ⟨o, p⟩) (hp : p.kind ≠ 0) (out : TestOutcome) :
    Starts s (endRunning out s) := by
  refine .of_discards (fun k ⟨i, who, n, len, q, h⟩ => ?_) (endRunning_discards out s)
  rw [hr] at h
  cases h
  exact hp rfl

theorem setProgress_starts {s : State} {o : Order} {p q : Progress} (hr : s.tsu.running = some ⟨o, p⟩) (hp : p.kind ≠ 0) :
    Starts s (setProgress q s) := by
  refine .of_discards (fun k ⟨i, who, n, len, r, h⟩ => ?_) fun k => .inl (by simp)
  rw [hr] at h
  cases h
  exact hp rfl

/-- Progress counted on, and the order then ended. -/
theorem countAndEnd_starts {s : State} {o : Order} {p q : Progress} (hr : s.tsu.running = some ⟨o, p⟩) (hp : p.kind ≠ 0) (hq : q.kind ≠ 0)
    (out : TestOutcome) : Starts s (endRunning out (setProgress q s)) :=
  (setProgress_starts hr hp).trans (endRunning_starts (o := o) (p := q) (by simp [setProgress, hr]) hq out)

/-! ### Site time -/

theorem tsuSourceLeft_starts (s : State) : Starts s (tsuSourceLeft s) := by
  unfold tsuSourceLeft
  split
  · next hr => exact endRunning_starts hr (by simp [Progress.kind]) _
  · exact .refl s

theorem tsuSample_starts (src : Source) (x : Sample) (s : State) : Starts s (tsuSample src x s) := by
  have hkind : ∀ c : CompareProgress, Progress.kind (.timeCompare c) ≠ 0 := fun c => by simp [Progress.kind]
  unfold tsuSample
  split
  · next hr =>
    have hon : ∀ c : CompareProgress, Starts s (setProgress (.timeCompare c) s) := fun c => setProgress_starts hr (hkind _)
    have hend : ∀ c out, Starts s (endRunning out (setProgress (.timeCompare c) s)) := fun c out => countAndEnd_starts hr (hkind _) (hkind c) out
    dsimp only
    split
    · split
      · split
        · exact hend _ _
        · split
          · exact hend _ _
          · exact hon _
      · exact hon _
    · exact hon _
  · exact .refl s

theorem deriveClass_starts (s : State) : Starts s (deriveClass s) := by
  by_cases hd : s.tmu.derivedClass = s.tmu.cls
  · rw [deriveClass_same hd]
    exact .refl s
  · rw [deriveClass_publishes hd]
    obtain ⟨-, htqm, htsu⟩ := classPublished_same (publish s)
    exact ((Starts.of_same (by simp) (by simp)).trans (bringup_starts (publish s))).trans (.of_same (by rw [htsu]) htqm)

theorem judgeSelection_starts (s : State) : Starts s (judgeSelection s) := by
  unfold judgeSelection
  split
  · exact .refl s
  · exact Starts.trans (.of_same (by simp) (by simp)) (deriveClass_starts _)

theorem qualificationChanged_starts (b : Qualification) (src : Source) (s : State) : Starts s (qualificationChanged b src s) := by
  unfold qualificationChanged
  split
  · exact .refl s
  · exact (Starts.ite (tsuSourceLeft_starts s) (.refl s)).trans (judgeSelection_starts _)

theorem takeOutcome_starts (src : Source) (v : Bool) (s : State) : Starts s (takeOutcome src v s) := by
  unfold takeOutcome
  split
  · exact .refl s
  · exact (Starts.tmu _ s).trans (qualificationChanged_starts _ _ _)

theorem exchangeMissing_starts (s : State) : Starts s (exchangeMissing s) := by
  unfold exchangeMissing
  split
  · exact .refl s
  · exact (Starts.tmu _ s).trans (takeOutcome_starts _ _ _)

theorem screenSample_starts (x : Sample) (s : State) : Starts s (screenSample x s) := by
  have hderive : ∀ f : Tmu → Tmu, Starts s (deriveClass (s.updTmu f)) := fun f => (Starts.tmu f s).trans (deriveClass_starts _)
  have hstep : ∀ (f : Tmu → Tmu) new, Starts s (stepTime new (s.updTmu f)) := fun f new =>
    ((Starts.tmu f s).trans (.tmu _ _)).trans (exchangeMissing_starts _)
  unfold screenSample
  split
  · exact .ite (hstep _ _) (hderive _)
  · exact .ite (hderive _) (hderive _)
  · exact .refl s

theorem takeSample_starts (src : Source) (x : Sample) (s : State) : Starts s (takeSample src x s) := by
  have hlast : Starts s (s.updTmu fun t => t.updSource src fun r => { r with last := some x }) := .tmu _ s
  have htaken := (hlast.trans (takeOutcome_starts src true _)).trans (tsuSample_starts src x _)
  unfold takeSample
  dsimp only
  split
  · exact hlast
  · exact .ite (htaken.trans (screenSample_starts x _)) htaken

theorem takeReply_starts (r : TimeReply) (s : State) : Starts s (takeReply r s) := by
  have hend : Starts s (s.updTmu fun t => { t with exchange := none }) := .tmu _ s
  unfold takeReply
  split
  · split
    · dsimp only
      split
      · exact (hend.trans (.ite (.refl _) (.tmu _ _))).trans (takeSample_starts _ _ _)
      · exact hend.trans (takeOutcome_starts _ _ _)
    · exact .refl s
  · exact .refl s

/-! ### AIR_PATTERN -/

theorem judgeAir_starts (s : State) : Starts s (judgeAir s) := by
  unfold judgeAir
  split
  · next hr =>
    have hend := fun out => endRunning_starts hr (by simp [Progress.kind]) out
    split
    · exact .ite (hend _) (.refl s)
    · exact .ite (hend _) (.refl s)
  · exact .refl s

theorem airReport_starts (r : PatternReport) (s : State) : Starts s (airReport r s) := by
  unfold airReport
  split
  · next hr =>
    split
    · exact .refl s
    · exact (setProgress_starts hr (by simp [Progress.kind])).trans (judgeAir_starts _)
  · exact .refl s

end Sys2Proof.Machine

namespace Sys2Proof.Machine

open Sys2Proof

/-! ## The tenant segments of a far frame (R73 to R75) -/

/-- A slot takes its segments: it is ENABLED and no loop subject (R75). -/
def State.serves (s : State) (k : Slot) : Prop := s.slotEnabled k = true ∧ s.loopSubject ≠ some k

theorem State.serves_congr {s t : State} (hscu : t.scu = s.scu) (htsu : t.tsu = s.tsu) (k : Slot) : t.serves k ↔ s.serves k := by
  have henabled : t.slotEnabled k = s.slotEnabled k := by simp [State.slotEnabled, State.slotState, State.tenant, hscu]
  have hsubject : t.loopSubject = s.loopSubject := by rw [State.loopSubject, State.loopSubject, htsu]
  rw [State.serves, State.serves, henabled, hsubject]

/-- The segments a far frame brings slot `k`. -/
def segmentsOf (k : Slot) (gs : List EgressSegment) : List EgressSegment := gs.filter fun g => decide (g.slot = k)

theorem takeSegment_served {s : State} {g : EgressSegment} (h : s.serves g.slot) :
    (takeSegment s g).tqm = s.tqm.set g.slot ((s.tqm.get g.slot).take g).1
      ∧ (takeSegment s g).emitted = s.emitted ++ (((s.tqm.get g.slot).take g).2.toList.map fun b => .delivered g.slot b) := by
  obtain ⟨henabled, hsubject⟩ := h
  unfold takeSegment
  rw [if_neg (by simp [henabled, hsubject])]
  cases hout : ((s.tqm.get g.slot).take g).2 with
  | none => simp [hout]
  | some b => simp [hout]

theorem takeSegment_refused {s : State} {g : EgressSegment} (h : ¬s.serves g.slot) :
    (takeSegment s g).tqm = (if g.last then s.tqm.modify g.slot Traffic.countEgress else s.tqm) ∧ (takeSegment s g).emitted = s.emitted := by
  have hrefused : (!s.slotEnabled g.slot || decide (s.loopSubject = some g.slot)) = true := by
    by_cases he : s.slotEnabled g.slot = true
    · simpa [State.serves, he] using h
    · simp [he]
  unfold takeSegment
  rw [if_pos hrefused]
  split <;> simp

/-- A segment leaves the other slots' records. -/
theorem takeSegment_other {s : State} {g : EgressSegment} {k : Slot} (h : g.slot ≠ k) : (takeSegment s g).tqm.get k = s.tqm.get k := by
  by_cases hs : s.serves g.slot
  · rw [(takeSegment_served hs).1, PerSlot.get_set_ne _ h.symm]
  · rw [(takeSegment_refused hs).1]
    split
    · rw [PerSlot.get_modify_ne _ h.symm]
    · rfl

theorem takeSegments_cons (g : EgressSegment) (gs : List EgressSegment) (s : State) :
    takeSegments (g :: gs) s = takeSegments gs (takeSegment s g) := rfl

theorem segmentsOf_cons_same {g : EgressSegment} {k : Slot} (h : g.slot = k) (gs : List EgressSegment) :
    segmentsOf k (g :: gs) = g :: segmentsOf k gs := by simp [segmentsOf, h]

theorem segmentsOf_cons_other {g : EgressSegment} {k : Slot} (h : g.slot ≠ k) (gs : List EgressSegment) :
    segmentsOf k (g :: gs) = segmentsOf k gs := by simp [segmentsOf, h]

theorem takeSegment_serves (s : State) (g : EgressSegment) (k : Slot) : (takeSegment s g).serves k ↔ s.serves k :=
  State.serves_congr (by simp) (by simp) k

theorem takeSegments_served {s : State} {k : Slot} (h : s.serves k) (gs : List EgressSegment) :
    (takeSegments gs s).tqm.get k = ((s.tqm.get k).takeAll (segmentsOf k gs)).1 := by
  induction gs generalizing s with
  | nil => rfl
  | cons g gs ih =>
    rw [takeSegments_cons, ih ((takeSegment_serves s g k).mpr h)]
    by_cases hk : g.slot = k
    · subst hk
      rw [segmentsOf_cons_same rfl, (takeSegment_served h).1, PerSlot.get_set_same]
      rfl
    · rw [segmentsOf_cons_other hk, takeSegment_other hk]

/-- A slot that takes none counts the last segments of the packets discarded. -/
theorem takeSegments_refused {s : State} {k : Slot} (h : ¬s.serves k) (gs : List EgressSegment) :
    (takeSegments gs s).tqm.get k = Traffic.countEgress^[(segmentsOf k gs).countP EgressSegment.last] (s.tqm.get k) := by
  induction gs generalizing s with
  | nil => rfl
  | cons g gs ih =>
    rw [takeSegments_cons, ih (mt (takeSegment_serves s g k).mp h)]
    by_cases hk : g.slot = k
    · subst hk
      rw [segmentsOf_cons_same rfl, (takeSegment_refused h).1, List.countP_cons]
      cases g.last with
      | true => simp
      | false => simp
    · rw [segmentsOf_cons_other hk, takeSegment_other hk]

theorem countEgress_iterate (t : Traffic) (n : Nat) :
    Traffic.countEgress^[n + 1] t = { t with egressDiscarded := min (t.egressDiscarded + (n + 1)) 4294967295 } := by
  induction n with
  | zero => rfl
  | succ n ih =>
    rw [Function.iterate_succ_apply', ih]
    simp only [Traffic.countEgress, satInc, satAdd, Config.counterMax, Traffic.mk.injEq, true_and]
    omega

/-- The packets `out` are what the slots' segments complete, each slot's in order, and none is of a slot that takes none. -/
def State.completes (s : State) (gs : List EgressSegment) (out : List (Slot × List Byte)) : Prop :=
  ∀ k, (s.serves k → (out.filter fun d => decide (d.1 = k)).map Prod.snd = ((s.tqm.get k).takeAll (segmentsOf k gs)).2)
    ∧ (¬s.serves k → ∀ d ∈ out, d.1 ≠ k)

theorem takeSegments_delivers (gs : List EgressSegment) (s : State) :
    ∃ out, (takeSegments gs s).emitted = s.emitted ++ out.map (fun d => .delivered d.1 d.2) ∧ s.completes gs out := by
  induction gs generalizing s with
  | nil => exact ⟨[], by simp [takeSegments], fun k => ⟨fun _ => rfl, fun _ d hd => absurd hd List.not_mem_nil⟩⟩
  | cons g gs ih =>
    obtain ⟨out, hemitted, hout⟩ := ih (takeSegment s g)
    by_cases hs : s.serves g.slot
    · obtain ⟨htqm, hfirst⟩ := takeSegment_served hs
      refine ⟨(((s.tqm.get g.slot).take g).2.toList.map fun b => (g.slot, b)) ++ out, ?_, fun k => ⟨fun hk => ?_, fun hk d hd => ?_⟩⟩
      · rw [takeSegments_cons, hemitted, hfirst]
        simp [Function.comp_def]
      · have hrest := (hout k).1 ((takeSegment_serves s g k).mpr hk)
        by_cases hg : g.slot = k
        · subst hg
          rw [segmentsOf_cons_same rfl]
          rw [htqm, PerSlot.get_set_same] at hrest
          simp [Traffic.takeAll, List.filter_map, Function.comp_def, hrest]
        · rw [segmentsOf_cons_other hg]
          rw [takeSegment_other hg] at hrest
          simpa [List.filter_map, Function.comp_def, hg] using hrest
      · obtain hd | hd := List.mem_append.mp hd
        · obtain ⟨b, -, rfl⟩ := List.mem_map.mp hd
          rintro rfl
          exact hk hs
        · exact (hout k).2 (mt (takeSegment_serves s g k).mp hk) d hd
    · refine ⟨out, by rw [takeSegments_cons, hemitted, (takeSegment_refused hs).2], fun k => ⟨fun hk => ?_, fun hk => ?_⟩⟩
      · have hg : g.slot ≠ k := fun h => hs (h ▸ hk)
        rw [segmentsOf_cons_other hg, ← takeSegment_other hg]
        exact (hout k).1 ((takeSegment_serves s g k).mpr hk)
      · exact (hout k).2 (mt (takeSegment_serves s g k).mp hk)

/-! ## Far frames (R33, R36, R39, R49) -/

theorem handOn_starts (f : FarFrame) (s : State) : Starts (farTaken f s) (handOn f s) := by
  unfold handOn
  cases f.reply with
  | none => cases f.report with
    | none => exact .refl _
    | some r => exact airReport_starts r _
  | some x => cases f.report with
    | none => exact takeReply_starts x _
    | some r => exact (takeReply_starts x _).trans (airReport_starts r _)

theorem handOn_leaves (f : FarFrame) (s : State) :
    (handOn f s).emitted = (farTaken f s).emitted
      ∧ (handOn f s).lkc = { s.lkc with syncMiss := 0, far := some ⟨clampMargin f.margin, 0⟩, farPattern := f.pattern } := by
  unfold handOn farTaken
  cases f.reply with
  | none => cases f.report <;> simp
  | some => cases f.report <;> simp

theorem handOn_plain {f : FarFrame} (hreply : f.reply = none) (hreport : f.report = none) (s : State) : handOn f s = farTaken f s := by
  simp only [handOn, farTaken, hreply, hreport]

/-- What the slots' records become and which packets leave, between the state `s` before the frame and `t` after it (R73, R75). -/
def SegmentsTaken (f : FarFrame) (s t : State) : Prop :=
  (∀ k, ∃ r : Traffic,
      (s.serves k → r = ((s.tqm.get k).takeAll (segmentsOf k f.segments)).1)
      ∧ (¬s.serves k → (segmentsOf k f.segments).countP EgressSegment.last = 0 → r = s.tqm.get k)
      ∧ (¬s.serves k → 0 < (segmentsOf k f.segments).countP EgressSegment.last →
          r = { s.tqm.get k with
            egressDiscarded := min ((s.tqm.get k).egressDiscarded + (segmentsOf k f.segments).countP EgressSegment.last) 4294967295 })
      ∧ (t.tqm.get k = r ∨ (t.loopSubject = some k ∧ t.tqm.get k = r.discardEgress))
      ∧ (f.reply = none → f.report = none → t.tqm.get k = r))
    ∧ ∃ out : List (Slot × List Byte), t.emitted = s.emitted ++ out.map (fun d => .delivered d.1 d.2) ∧ s.completes f.segments out

theorem SegmentsTaken.congr {f : FarFrame} {s s' t : State} (htqm : s'.tqm = s.tqm) (htsu : s'.tsu = s.tsu) (hscu : s'.scu = s.scu)
    (hemitted : s'.emitted = s.emitted) (h : SegmentsTaken f s' t) : SegmentsTaken f s t := by
  have hserves := State.serves_congr hscu htsu
  simpa only [SegmentsTaken, State.completes, hserves, htqm, hemitted] using h

theorem handOn_segments (f : FarFrame) (s : State) : SegmentsTaken f s (handOn f s) := by
  refine SegmentsTaken.congr (s' := s.updLkc fun l => { l with syncMiss := 0, far := some ⟨clampMargin f.margin, 0⟩, farPattern := f.pattern })
    rfl rfl rfl rfl ⟨fun k => ⟨(farTaken f s).tqm.get k, fun hk => takeSegments_served hk _, fun hk hn => ?_, fun hk hn => ?_, ?_,
      fun hreply hreport => by rw [handOn_plain hreply hreport]⟩, ?_⟩
  · rw [farTaken, takeSegments_refused hk, hn]
    rfl
  · rw [farTaken, takeSegments_refused hk, ← Nat.sub_add_cancel hn, countEgress_iterate]
  · obtain h | ⟨hruns, h⟩ := (handOn_starts f s).discards k
    · exact .inl h
    · exact .inr ⟨hruns.subject, h⟩
  · rw [(handOn_leaves f s).1]
    exact takeSegments_delivers f.segments _

/-- A synced frame that brings nothing but its margin. -/
theorem handOn_empty {f : FarFrame} (hsegments : f.segments = []) (hreply : f.reply = none) (hreport : f.report = none) (s : State) :
    handOn f s = { s with lkc := (handOn f s).lkc } := by
  rw [handOn_plain hreply hreport, farTaken, hsegments]
  rfl

theorem handOn_recordsStand (f : FarFrame) (s : State) : s.recordsStand (handOn f s) := by
  have hlkc := (handOn_leaves f s).2
  exact (handOn_moves f s).recordsStand (by simp [State.tablesStand, State.tables, hlkc]) (by simp)

theorem enterUp_leaves (s : State) :
    (∀ j, (enterUp s).pends j .linkState = true) ∧ s.recordsStand (enterUp s) := by
  obtain ⟨hpends, -, -, hstand⟩ := linkEntered
    (fun l => { l with state := .up, rung := 0, notice := none, voided := none, upCount := 0, syncMiss := 0, lowRun := 0 }) s rfl
  exact ⟨hpends, hstand⟩

theorem enterUp_apart {s : State} (hb : s.scu.site ≠ .bringup) (hi : s.noIdleQueue) :
    (enterUp s).tqm = s.tqm ∧ (enterUp s).tsu = s.tsu ∧ (enterUp s).scu = s.scu := by
  rw [enterUp, bringup_of_ne (by simpa using hb) (by simpa [State.noIdleQueue] using hi)]
  simp

theorem farFrame_acquired {s : State} {f : FarFrame} (hl : s.lkc.state = .acquiring) (hf : f.sync = true) :
    exec (.farFrame f) s = .next (handOn f (enterUp s)) := by
  change execFarFrame f s = _
  simp only [execFarFrame, takeFarFrame, hl, hf, if_true]

theorem farFrame_synced {s : State} {f : FarFrame} (hl : s.lkc.state = .up) (hf : f.sync = true) :
    exec (.farFrame f) s = .next (handOn f s) := by
  change execFarFrame f s = _
  simp only [execFarFrame, takeFarFrame, hl, hf, if_true]

theorem farFrame_unsynced {s : State} {f : FarFrame} (hl : s.lkc.state = .up) (hf : f.sync = false) :
    exec (.farFrame f) s = .next (missFrame s) := by
  change execFarFrame f s = _
  simp [execFarFrame, takeFarFrame, hl, hf]

theorem farFrame_discarded {s : State} {f : FarFrame} (hup : s.lkc.state ≠ .up) (hf : s.lkc.state = .acquiring → f.sync = false) :
    exec (.farFrame f) s = .next s := by
  change execFarFrame f s = _
  unfold execFarFrame takeFarFrame
  split
  · next hl => simp [hf hl]
  · next hl => exact absurd hl hup
  · rfl

theorem missingFarFrame_up {s : State} (hl : s.lkc.state = .up) : exec .missingFarFrame s = .next (missFrame s) := if_pos hl

/-- The miss counted (R36). -/
def State.missed (s : State) : State :=
  { s with lkc := { s.lkc with syncMiss := s.lkc.syncMiss + 1, losses := { s.lkc.losses with unsynced := satInc s.lkc.losses.unsynced } } }

theorem missFrame_counted {s : State} (h : s.lkc.syncMiss + 1 < 16) : missFrame s = s.missed := if_neg (Nat.not_le.mpr h)

theorem missFrame_lost {s : State} (h : 16 ≤ s.lkc.syncMiss + 1) : missFrame s = enterLost .sync s.missed := if_pos h

theorem missed_recordsStand (s : State) : s.recordsStand s.missed := 
  (Moves.lkc (fun _ => s.missed.lkc) s).recordsStand (by simp [State.tablesStand, State.tables, State.missed]) rfl

theorem backoffDue_iff (l : LinkState) : l.backoffDue = true ↔ ∃ n, l = .lost n ∧ 1000 ≤ n := by
  refine ⟨backoffDue_lost, ?_⟩
  rintro ⟨n, rfl, hn⟩
  exact decide_eq_true hn

theorem backoffExpiry_taken {s : State} (h : s.lkc.state.backoffDue = true) : exec .backoffExpiry s = .next (enterAcquiring s) := if_pos h

theorem backoffExpiry_ignored {s : State} (h : ¬s.lkc.state.backoffDue = true) : exec .backoffExpiry s = .next s := if_neg h

/-- Settles O38, by the frame taken, its segments slot by slot, and the starts that its reply or report lets follow. -/
theorem farFramesTaken : Obligations.FarFramesTaken := by
  unfold Obligations.FarFramesTaken
  intro f s of served segmentsTaken
  refine ⟨fun hl => if_neg hl, farFrame_discarded, fun hl hf => ?_, fun hl hf => ?_, fun c hl hc => ?_, fun n hl hn => ?_,
    fun n hl hn => ?_, fun hl => ?_⟩
  · obtain ⟨hpends, hstand⟩ := enterUp_leaves s
    have hlkc := (handOn_leaves f (enterUp s)).2
    rw [enterUp_lkc] at hlkc
    refine ⟨_, farFrame_acquired hl hf, by rw [hlkc], by rw [hlkc], by rw [hlkc], by rw [hlkc], by rw [hlkc]; rfl,
      fun j => (handOn_moves f _).follows.keeps j .linkState (hpends j), hstand.trans (handOn_recordsStand f _), fun hb hi => ?_⟩
    obtain ⟨htqm, htsu, hscu⟩ := enterUp_apart hb hi
    exact (handOn_segments f (enterUp s)).congr htqm htsu hscu (by simp)
  · exact ⟨_, farFrame_synced hl hf, handOn_segments f s, (handOn_leaves f s).2, fun hsegments hreply hreport =>
      handOn_empty hsegments hreply hreport s, handOn_recordsStand f s⟩
  · have hmiss : exec c s = .next (missFrame s) := by
      obtain rfl | ⟨rfl, hf⟩ := hc
      · exact missingFarFrame_up hl
      · exact farFrame_unsynced hl hf
    refine ⟨fun hn => by rw [hmiss, missFrame_counted hn]; rfl, fun hn => ?_⟩
    obtain ⟨hpends, hemitted, -, hstand⟩ := enterLost_leaves .sync s.missed
    refine ⟨_, by rw [hmiss, missFrame_lost hn], by rw [enterLost_lkc], by rw [enterLost_lkc]; rfl, by rw [enterLost_lkc],
      by rw [enterLost_lkc], hpends, hemitted, (missed_recordsStand s).trans hstand⟩
  · exact backoffExpiry_ignored (by simp [backoffDue_iff, hl, hn])
  · obtain ⟨hpends, hemitted, htmu, hstand⟩ := enterAcquiring_leaves s
    exact ⟨_, backoffExpiry_taken (by simp [backoffDue_iff, hl, hn]), enterAcquiring_lkc s, hpends, htmu, hemitted, hstand⟩
  · exact backoffExpiry_ignored (by simp [backoffDue_iff, hl])

end Sys2Proof.Machine

/-! AIR_PATTERN orders (chapter 9). -/

namespace Sys2Proof.Machine

open Sys2Proof

/-! ## The order that ends (R167, R183) -/

/-- The running order `o` has ended with none behind it, and its entry, of sequence number `m`, is the last of the log. -/
def State.closed (t : State) (m : Nat) (o : Order) (out : TestOutcome) (x : Measures) : Prop :=
  t.tsu.running = none ∧ ∃ e, t.tsu.log.getLast? = some e ∧ e.seq = m ∧ e.outcome = out ∧ e.order = o ∧ e.measures = x

/-- From `s`, the running order has so ended where no other is held or placed. -/
def State.closes (s t : State) (o : Order) (out : TestOutcome) (x : Measures) : Prop :=
  ∀ m, s.tsu.queued = [] → s.scu.site ≠ .bringup → s.tsu.nextSeq = some m → t.closed m o out x

theorem endRunning_closed {s : State} {o : Order} {p : Progress} {m : Nat} (hr : s.tsu.running = some ⟨o, p⟩) (hq : s.tsu.queued = [])
    (hb : s.scu.site ≠ .bringup) (hm : s.tsu.nextSeq = some m) (out : TestOutcome) :
    (bringup (endRunning out s)).closed m o out (measuresOf o p) ∧ (endRunning out s).closed m o out (measuresOf o p) := by
  obtain ⟨hrun, hqueued, hlast⟩ := endRunning_entry hr hq hb hm out
  obtain ⟨-, hsite⟩ := endRunning_alone hr hq hb out
  rw [bringup_of_ne hsite fun _ => hqueued]
  exact ⟨⟨hrun, _, hlast, rfl, rfl, rfl, rfl⟩, hrun, _, hlast, rfl, rfl, rfl, rfl⟩

/-- A departure of the link ends an AIR_PATTERN (R173). -/
theorem depart_closed {s : State} {w : LinkState} {o : Order} {p : AirProgress} {m : Nat} (hw : w.carries = true)
    (hr : s.tsu.running = some ⟨o, .airPattern p⟩) (hq : s.tsu.queued = []) (hb : s.scu.site ≠ .bringup) (hm : s.tsu.nextSeq = some m)
    (out : TestOutcome) : (depart w out s).closed m o (.aborted .linkLost) (measuresOf o (.airPattern p)) := by
  have hqueues : departQueues w s = exchangeMissing (tqmDepart s) := by simp [departQueues, hw]
  obtain ⟨-, -, hstand⟩ := exchangeMissing_order (tqmDepart s) o _ hr (by simp [Progress.kind])
  obtain ⟨htsu, hsite⟩ := hstand hb
  rw [← hqueues] at htsu hsite
  have hrun : (departQueues w s).tsu.running = some ⟨o, .airPattern p⟩ := by rw [htsu]; exact hr
  have hend : tsuDepart out (departQueues w s) = endRunning (.aborted .linkLost) (departQueues w s) := by simp only [tsuDepart, hrun]
  rw [depart, if_pos hw, hend]
  exact (endRunning_closed hrun (by rw [htsu]; exact hq) (by rw [hsite]; exact hb) (by rw [htsu]; exact hm) _).1

theorem enterLost_closes (x : LossCause) {s : State} {o : Order} {p : AirProgress} (hl : s.lkc.state = .up)
    (hr : s.tsu.running = some ⟨o, .airPattern p⟩) :
    s.closes (enterLost x s) o (.aborted .linkLost) (measuresOf o (.airPattern p)) := fun _ hq hb hm =>
  depart_closed (by rw [hl]; rfl) (by simpa using hr) (by simpa using hq) (by simpa using hb) (by simpa using hm) _

theorem enterDiscovery_closes {s : State} {o : Order} {p : AirProgress} (hl : s.lkc.state = .up)
    (hr : s.tsu.running = some ⟨o, .airPattern p⟩) :
    s.closes (enterDiscovery s) o (.aborted .linkLost) (measuresOf o (.airPattern p)) := fun _ hq hb hm => by
  obtain ⟨-, htsu⟩ := discoveryEntry_of_notHeld (s := s) (by rw [hl]; rfl)
  exact depart_closed (by rw [hl]; rfl) (by rw [htsu]; exact hr) (by rw [htsu]; exact hq) (by simpa using hb) (by rw [htsu]; exact hm) _

/-! ## The judgement (R172) -/

section Air

variable {id n r f e : Nat} {who : Requester} {p : AirProgress} {s u : State}

/-- The order of the running AIR_PATTERN. -/
def airOrder (id : Nat) (who : Requester) (n r f e : Nat) : Order := ⟨id, who, .airPattern n r f e⟩

/-- What an AIR_PATTERN with progress `p` is judged to be at a moment of judgement (R172): `t` is the state after it. -/
def State.airJudged (s t : State) (id : Nat) (who : Requester) (n r f e : Nat) (p : AirProgress) : Prop :=
  let goesOn : Prop := t.tsu = { s.tsu with running := some ⟨airOrder id who n r f e, .airPattern p⟩ }
  let closes (out : TestOutcome) : Prop := s.closes t (airOrder id who n r f e) out (measuresOf (airOrder id who n r f e) (.airPattern p))
  (p.sent < n → p.used < f → goesOn) ∧ (p.sent < n → f ≤ p.used → closes .incomplete)
    ∧ (n ≤ p.sent → p.awaiting ≠ [] → goesOn) ∧ (n ≤ p.sent → p.awaiting = [] → closes (if p.errored ≤ e then .pass else .fail))

theorem judgeAir_judged (hu : u.tsu = { s.tsu with running := some ⟨airOrder id who n r f e, .airPattern p⟩ })
    (hsite : u.scu.site = s.scu.site) : s.airJudged (judgeAir u) id who n r f e p := by
  have hend : ∀ out, s.closes (endRunning out u) (airOrder id who n r f e) out (measuresOf (airOrder id who n r f e) (.airPattern p)) :=
    fun out m hq hb hm => (endRunning_closed (by rw [hu]) (by rw [hu]; exact hq) (by rw [hsite]; exact hb) (by rw [hu]; exact hm) out).2
  have hjudge : judgeAir u = if p.sent < n then if f ≤ p.used then endRunning .incomplete u else u
      else if p.awaiting = [] then endRunning (if p.errored ≤ e then .pass else .fail) u else u := by
    simp only [judgeAir, hu, airOrder]
  rw [hjudge]
  refine ⟨fun hs hf => ?_, fun hs hf => ?_, fun hs ha => ?_, fun hs ha => ?_⟩
  · rwa [if_pos hs, if_neg (by omega)]
  · rw [if_pos hs, if_pos hf]
    exact hend _
  · rwa [if_neg (by omega), if_neg ha]
  · rw [if_neg (by omega), if_pos ha]
    exact hend _

/-! ## The fill and the report (R170, R171) -/

theorem atFill_eq (p : AirProgress) (n frame t : Nat) :
    p.atFill n frame t
      = { sent := p.sent + t, used := if p.sent < n then p.used + 1 else p.used,
          errored := min (p.errored + ((p.awaiting.filter fun w => decide (8 ≤ w.fills + 1)).map Awaiting.pb).sum) 4294967295,
          awaiting := ((p.awaiting.map fun w => { w with fills := w.fills + 1 }).filter fun w => decide (w.fills < 8))
            ++ if 0 < t then [⟨frame, t, 0⟩] else [] } := by
  simp [AirProgress.atFill, ageAwaiting, List.filter_map, Function.comp_def, satAdd, Config.counterMax]

/-- The pass and its drain leave the orders and the site. -/
theorem passAndDrain_apart (s : State) : (passAndDrain s).2.2.tsu = s.tsu ∧ (passAndDrain s).2.2.scu = s.scu := by
  simp [passAndDrain, drainAll]

/-- The order counted on at the fill's pass. -/
theorem passMade_air (hr : s.tsu.running = some ⟨airOrder id who n r f e, .airPattern p⟩) :
    (passMade s).2.tsu
        = { s.tsu with running := some ⟨airOrder id who n r f e, .airPattern (p.atFill n s.lkc.frame (passAndDrain s).1)⟩ }
      ∧ (passMade s).2.scu = s.scu := by
  obtain ⟨htsu, hscu⟩ := passAndDrain_apart s
  have hair : airFill s.lkc.frame (passAndDrain s).1 (passAndDrain s).2.2
      = setProgress (.airPattern (p.atFill n s.lkc.frame (passAndDrain s).1)) (passAndDrain s).2.2 := by
    simp only [airFill, htsu, hr, airOrder]
  simp [passMade, hair, setProgress, hr]

theorem fixRung_undue (h : s.lkc.noticeDue s.lkc.frame = none) : fixRung s = s.updLkc Lkc.fixed := by
  simp only [fixRung, State.updLkc, Lkc.fixed, h] <;> rfl

/-- With nothing of the notice pending, the rung stands and the fill is that of the numbered frame. -/
theorem fillFrame_plain (hr : s.holdRequested = false) (hl : s.lkc.state = .up) (hn : s.lkc.notice = none) (hv : s.lkc.voided = none) :
    fillFrame s = fillUp (nextFill s) := by
  have hdue : (nextFill s).lkc.noticeDue (nextFill s).lkc.frame = none := noticeDue_none hv hn _
  have hfixed : (nextFill s).lkc.fixed = (nextFill s).lkc := by
    rw [fixed_parts, (fixed_kept hdue).1, fixed_notice hdue (.inl (congrArg LinkState.isHeld hl))]
    change { (nextFill s).lkc with voided := none } = (nextFill s).lkc
    rw [← hv]
    rfl
  have hfix : fixRung (nextFill s) = nextFill s := by rw [fixRung_undue hdue, State.updLkc, hfixed]
  obtain ⟨f, hfill, -⟩ := fillUp_fills (nextFill s)
  have hrung : (fillUp (nextFill s)).lkc.rung = s.lkc.rung := by
    rw [hfill]
    exact (announce_parts _).2.1
  simp only [fillFrame, hl, hr]
  change reportRung s.lkc.rung (fillUp (fixRung (nextFill s))) = _
  rw [hfix, reportRung, if_pos hrung]

/-- A fill in UP with nothing of the notice pending: the borrow sent, and the order counted on and judged. -/
theorem airFilled (hr : s.tsu.running = some ⟨airOrder id who n r f e, .airPattern p⟩) (hl : s.lkc.state = .up) (hn : s.lkc.notice = none)
    (hv : s.lkc.voided = none) :
    ∃ t x, exec .frameFill s = .next t
      ∧ s.airJudged t id who n r f e
          (p.atFill n ((s.lkc.frame + 1) % 65536) (s.borrow (s.capacity s.lkc.rung - Config.controlReserve) (effectiveSum s.entrants)))
      ∧ t.lkc.unsent = s.lkc.unsent ++ [x] ∧ x.number = (s.lkc.frame + 1) % 65536
      ∧ x.pattern = s.borrow (s.capacity s.lkc.rung - Config.controlReserve) (effectiveSum s.entrants) := by
  have hreq : s.holdRequested = false := by simp [State.holdRequested, State.loopProgress, hr]
  have hannounce : (nextFill s).updLkc Lkc.announce = nextFill s := by
    have hnone : (nextFill s).lkc.announce = (nextFill s).lkc := announce_none hn
    rw [State.updLkc, hnone]
  have hborrow : (passAndDrain (nextFill s)).1 = s.borrow (s.capacity s.lkc.rung - Config.controlReserve) (effectiveSum s.entrants) := rfl
  obtain ⟨htsu, hscu⟩ := passMade_air (s := nextFill s) hr
  have hfill := fillUp_eq (nextFill s)
  rw [hannounce] at hfill
  refine ⟨_, filledFrame (passMade (nextFill s)).1 (passAndDrain (nextFill s)).1 (passAndDrain (nextFill s)).2.1 (passMade (nextFill s)).2,
    congrArg Host.Outcome.next ((fillFrame_plain hreq hl hn hv).trans hfill), ?_, ?_, ?_, ?_⟩
  · rw [← hborrow]
    exact judgeAir_judged htsu (congrArg Scu.site hscu)
  · rw [(judgeAir_frame _).2.1, pushFrame_lkc, passMade_lkc]
    rfl
  · change (passMade (nextFill s)).2.lkc.frame = _
    rw [passMade_lkc]
    rfl
  · rw [← hborrow]
    rfl

theorem airReported (hr : s.tsu.running = some ⟨airOrder id who n r f e, .airPattern p⟩) (q : PatternReport) :
    ((∀ w ∈ p.awaiting, w.frame ≠ q.frame) → (airReport q s).tsu = s.tsu)
      ∧ ∀ w, p.awaiting.find? (fun w => decide (w.frame = q.frame)) = some w →
          s.airJudged (airReport q s) id who n r f e
            { p with awaiting := p.awaiting.filter (fun x => decide (x.frame ≠ q.frame)),
                     errored := satAdd p.errored (q.errored + (w.pb - q.received)) } := by
  refine ⟨fun hnone => ?_, fun w hw => ?_⟩
  · have hfind : p.awaiting.find? (fun a => decide (a.frame = q.frame)) = none := List.find?_eq_none.mpr (by simpa using hnone)
    simp only [airReport, hr, hfind]
  · simp only [airReport, hr, hw]
    exact judgeAir_judged (by simp [setProgress, hr]) (by simp [setProgress])

end Air

/-! ## The obligation -/

/-- A far frame that brings a pattern report alone. -/
theorem handOn_report (m : Int) (c : Option PatternCheck) (q : PatternReport) (s : State) :
    handOn ⟨true, m, [], none, some q, c⟩ s
      = airReport q (s.updLkc fun l => { l with syncMiss := 0, far := some ⟨clampMargin m, 0⟩, farPattern := c }) := rfl

/-- Settles O59: the fills and the reports by the judgement after them, the departures by the end of the running order. -/
theorem airPatternRuns : Obligations.AirPatternRuns := by
  unfold Obligations.AirPatternRuns
  intro id n r f e who p s hr hl _ _
  have hborrow : ∀ a, s.borrow a (effectiveSum s.entrants) = min r (min (n - p.sent) (a - effectiveSum s.entrants)) := fun a => by
    simp only [State.borrow, hr]
  refine ⟨fun hn hv => ?_, fun m c q => ?_, fun k tag hask => ?_, fun c g hc hmiss => ?_, fun c m hc hlow => ?_⟩
  · obtain ⟨t, x, hexec, ⟨h1, h2, h3, h4⟩, hunsent, hnumber, hpattern⟩ := airFilled hr hl hn hv
    rw [hborrow] at h1 h2 h3 h4 hpattern
    rw [atFill_eq] at h1 h2 h3 h4
    exact ⟨⟨fun hs hf => ⟨t, hexec, h1 hs hf⟩, fun hs hf => ⟨t, hexec, h2 hs hf⟩, fun hs ha => ⟨t, hexec, h3 hs ha⟩,
      fun hs ha => ⟨t, hexec, h4 hs ha⟩⟩, t, x, hexec, hunsent, hnumber, hpattern⟩
  · have hexec : exec (.farFrame ⟨true, m, [], none, some q, c⟩) s = _ := (farFrame_synced hl rfl).trans (congrArg Host.Outcome.next (handOn_report m c q s))
    obtain ⟨hnone, hsome⟩ := airReported (s := s.updLkc fun l => { l with syncMiss := 0, far := some ⟨clampMargin m, 0⟩, farPattern := c }) hr q
    refine ⟨fun h => ⟨_, hexec, hnone h⟩, fun w hw => ?_⟩
    obtain ⟨h1, h2, h3, h4⟩ := hsome w hw
    exact ⟨fun hs hf => ⟨_, hexec, h1 hs hf⟩, fun hs hf => ⟨_, hexec, h2 hs hf⟩, fun hs ha => ⟨_, hexec, h3 hs ha⟩,
      fun hs ha => ⟨_, hexec, h4 hs ha⟩⟩
  · have hserved : exec (.linkRestart k tag []) s = .next (conclude k tag (judgeLinkRestart [] s) s) :=
      congrArg Host.Outcome.next (serve_mayAsk hask tag _ (.inl rfl))
    rw [judgeLinkRestart, if_neg (by simp [hl, LinkState.isHeld])] at hserved
    exact ⟨_, hserved, enterDiscovery_closes hl hr⟩
  · have hlost : exec c s = .next (enterLost .sync s.missed) := by
      rw [← missFrame_lost hmiss]
      obtain rfl | ⟨rfl, hf⟩ := hc
      · exact missingFarFrame_up hl
      · exact farFrame_unsynced hl hf
    exact ⟨_, hlost, enterLost_closes .sync (s := s.missed) hl hr⟩
  · have hexec : exec c s = .next (takeReport m s) := by
      obtain rfl | ⟨rfl, rfl⟩ := hc <;> rfl
    have hbelow := belowDown_iff s 0 (s.marginOf m)
    have hlost : takeReport m s = enterLost .margin (reported m s) := by
      obtain ⟨hup, -⟩ | ⟨-, -, h⟩ | ⟨-, hkept, -⟩ := takeReport_cases m s
      · exact absurd hl hup
      · exact h
      · exact absurd (hlow.imp_right fun ⟨hb, hn⟩ => ⟨hbelow.mpr hb, hn⟩) hkept
    exact ⟨_, hexec.trans (congrArg Host.Outcome.next hlost), enterLost_closes .margin (s := reported m s) hl hr⟩

end Sys2Proof.Machine

/-! Self-test orders placed and withdrawn (chapter 9). -/

namespace Sys2Proof.Machine

open Sys2Proof

/-! ## Who may order (R163, R195) -/

theorem takeTestParams_code {kind : Nat} {bs rest : List Byte} {test : Test} (h : takeTestParams kind bs = some (test, rest)) :
    test.code = kind := by
  match kind with
  | 0 | 1 | 2 | 3 =>
    simp [takeTestParams, Option.bind_eq_some_iff] at h
    grind [Test.code]
  | n + 4 => simp [takeTestParams] at h

/-- A PORT_LOOP's slot is the first byte of its parameters. -/
theorem takeTestParams_port {bs rest : List Byte} {test : Test} (h : takeTestParams 0 bs = some (test, rest)) :
    ∃ b tail j n len, bs = b :: tail ∧ slotOf b.toNat = some j ∧ test = .portLoop j n len := by
  cases bs with
  | nil => simp [takeTestParams, takeNat] at h
  | cons b tail =>
    have hb : beNat ([b] : List Byte) = b.toNat := by simp [beNat]
    simp [takeTestParams, takeNat, Option.bind_eq_some_iff, hb] at h
    obtain ⟨-, -, j, hj, -, rfl, -⟩ := h
    exact ⟨b, tail, j, _, _, rfl, hj, rfl⟩

theorem ordersOwnLoop_iff {ps : List Byte} {test : Test} (h : testParams ps = some test) (k : Slot) :
    ordersOwnLoop k ps = true ↔ ∃ n len, test = .portLoop k n len := by
  simp only [testParams, whole, takeTest, Option.bind_eq_bind, Option.bind_eq_some_iff] at h
  obtain ⟨⟨test', rest⟩, ⟨⟨kind, bs⟩, hkind, htest⟩, hwhole⟩ := h
  obtain rfl : test = test' := by
    split at hwhole
    · exact (Option.some.inj hwhole).symm
    · cases hwhole
  simp only [ordersOwnLoop, hkind]
  have hcode := takeTestParams_code htest
  by_cases hk : kind = 0
  · subst hk
    obtain ⟨b, tail, j, n, len, rfl, hj, rfl⟩ := takeTestParams_port htest
    simp [hj, eq_comm]
  · have hno : ∀ n len, test ≠ .portLoop k n len := by
      rintro n len rfl
      exact hk hcode.symm
    simp [hk, hno]

/-- Who may order a test: TEST_SHARED, and TEST_OWN for a PORT_LOOP on the slot itself. -/
def State.mayOrder (s : State) (k : Slot) (test : Test) : Prop :=
  s.holds k .testShared = true ∨ (s.holds k .testOwn = true ∧ ∃ n len, test = .portLoop k n len)

theorem mayOrder_iff {s : State} {k : Slot} {ps : List Byte} {test : Test} (h : testParams ps = some test) :
    (s.holds k .testShared || (ordersOwnLoop k ps && s.holds k .testOwn)) = true ↔ s.mayOrder k test := by
  rw [Bool.or_eq_true, Bool.and_eq_true, ordersOwnLoop_iff h, and_comm]
  rfl

theorem orderTest_denied {s : State} {k : Slot} {tag : Byte} {ps : List Byte} {test : Test} (hst : s.standing k = true)
    (h : testParams ps = some test) (hmay : ¬s.mayOrder k test) : exec (.orderTest k tag ps) s = .next (answer k tag .denied [] s) := by
  have hpermit := Bool.not_eq_true _ ▸ mt (mayOrder_iff h).mp hmay
  change Host.Outcome.next (serve k tag (s.holds k .testShared || (ordersOwnLoop k ps && s.holds k .testOwn)) false (judgeOrderTest k ps s) s) = _
  rw [hpermit, serve_denied tag _ hst]

theorem orderTest_served {s : State} {k : Slot} {tag : Byte} {ps : List Byte} {test : Test} (hst : s.standing k = true)
    (h : testParams ps = some test) (hmay : s.mayOrder k test) :
    exec (.orderTest k tag ps) s
      = .next (if 8 ≤ s.tsu.orders.length then answer k tag .full [] s
          else answer k tag .ok [.num 1 s.tsu.newId, .num 1 s.tsu.orders.length] (settle (s.updTsu fun u => u.place (.slot k) test))) := by
  change Host.Outcome.next (serve k tag (s.holds k .testShared || (ordersOwnLoop k ps && s.holds k .testOwn)) false (judgeOrderTest k ps s) s) = _
  rw [(mayOrder_iff h).mpr hmay, serve_owner tag _ hst (.inl rfl), judgeOrderTest, h]
  change Host.Outcome.next (conclude k tag (if 8 ≤ s.tsu.orders.length then _ else _) s) = _
  split <;> rfl

/-! ## The start of an order placed (R166) -/

theorem considerStart_idle {s : State} (h : s.tsu.running = none → s.tsu.queued = []) (n : Nat) : considerStart n s = s := by
  cases n with
  | zero => rfl
  | succ n =>
    unfold considerStart
    split
    · next hr hq =>
      rw [h hr] at hq
      cases hq
    · rfl

/-- The only order held is considered: it starts, or completes NOT_RUN. -/
theorem settle_single {s : State} {o : Order} (hr : s.tsu.running = none) (hq : s.tsu.queued = [o]) :
    (s.startable o.test = true → settle s = startOrder o (s.updTsu fun t => { t with queued := [] }))
      ∧ (s.startable o.test = false → s.scu.site ≠ .bringup →
          settle s = completeOrder o .notRun {} (s.updTsu fun t => { t with queued := [] })) := by
  have hcond : (s.updTsu fun t => { t with queued := [] }).startable o.test = s.startable o.test := startable_congr rfl rfl rfl _
  rw [settle, considerStart_cons hr hq, hcond]
  refine ⟨fun h => if_pos h, fun h hb => ?_⟩
  obtain ⟨htsu, -⟩ := reportCompletion_elsewhere (s := raiseTestDone o.requester (writeEntry o .notRun {} (s.updTsu fun t => { t with queued := [] })))
    (by simpa using hb) o .notRun
  rw [if_neg (by simp [h]), considerStart_idle fun _ => by rw [completeOrder, htsu]; simp]

/-- A completion outside BRINGUP: its entry is the last of the log, and its event is raised in slot 0 and at the requester. -/
theorem completeOrder_leaves {s : State} {n : Nat} (hb : s.scu.site ≠ .bringup) (hn : s.tsu.nextSeq = some n) (o : Order) (out : TestOutcome)
    (m : Measures) :
    (completeOrder o out m s).tsu.running = s.tsu.running ∧ (completeOrder o out m s).tsu.queued = s.tsu.queued
      ∧ (completeOrder o out m s).tsu.log.getLast? = some ⟨n, o, out, m, s.tmu.site, s.tmu.cls⟩
      ∧ ∀ k, (k = 0 ∨ o.requester = .slot k) → (completeOrder o out m s).pends k .testDone = true := by
  obtain ⟨htsu, -⟩ := reportCompletion_elsewhere (s := raiseTestDone o.requester (writeEntry o out m s)) (by simpa using hb) o out
  refine ⟨by rw [completeOrder, htsu]; simp, by rw [completeOrder, htsu]; simp, ?_, fun k hk => ?_⟩
  · rw [completeOrder, htsu]
    simpa using writeEntry_last hn o out m
  · refine ((reportCompletion_moves o out _).pends k .testDone).1 ?_
    simp [pends_raiseTestDone, hk]

end Sys2Proof.Machine

namespace Sys2Proof.Machine

open Sys2Proof

/-! ## The early end of a loop (R41, R176) -/

theorem enterLoopExit_eq (s : State) :
    enterLoopExit s = { s with lkc := (enterLoopExit s).lkc, emitted := s.emitted ++ [.odu .loopOff] } := leavePending_eq true s

theorem askLoopEnd_eq (s : State) : askLoopEnd s = { s with lkc := (askLoopEnd s).lkc, emitted := (askLoopEnd s).emitted } := by
  unfold askLoopEnd
  split
  · rfl
  · exact enterLoopExit_eq s
  · exact enterLoopExit_eq s
  · rfl

theorem abandon_nothing {l : Lkc} (h : l.outstanding = none) : l.abandon.late = l.late := by simp [Lkc.abandon, h]

theorem askLoopEnd_ends (s : State) : s.endsLoopEarly (askLoopEnd s) := by
  have hemitted := congrArg State.emitted (enterLoopExit_eq s)
  have hlkc := enterLoopExit_lkc s
  have hexit : (s.lkc.state = .held .loopEntry ∨ s.lkc.state = .held .looping) → askLoopEnd s = enterLoopExit s := by
    rintro (h | h) <;> simp only [askLoopEnd, h]
  refine ⟨fun u asked h => ?_, fun o h ho hc => ?_, fun h ho => ?_, fun h => ?_⟩
  · simp only [askLoopEnd, h]
    exact ⟨rfl, rfl⟩
  · rw [hexit (.inl h)]
    refine ⟨hlkc.trans ?_, hemitted⟩
    rw [abandon_late ho, hc]
    rfl
  · rw [hexit (.inr h)]
    exact ⟨hlkc.trans (by rw [abandon_nothing ho]), hemitted⟩
  · have hask : askLoopEnd s = s := by simp only [askLoopEnd, h]
    rw [hask]
    exact ⟨rfl, rfl⟩

/-- What an abort leaves of a loop whose hold is taken and whose outcome is open. -/
def State.loopAborted (s t : State) (r : AbortReason) (p : LoopProgress) : Prop :=
  t.loopProgress = some { p with decided := some (.aborted r) } ∧ s.endsLoopEarly t
    ∧ t = { s with lkc := t.lkc, emitted := t.emitted, tsu := { s.tsu with running := t.tsu.running } }

theorem abortLoop_aborts {s : State} {x : Order} {p : LoopProgress} (hr : s.tsu.running = some ⟨x, .linkLoop p⟩) (hp : p.held = true)
    (hd : p.decided = none) (r : AbortReason) : s.loopAborted (abortLoop r s) r p := by
  have hdecided : decideLoop (.aborted r) s
      = s.updTsu fun t => { t with running := some ⟨x, .linkLoop { p with decided := some (.aborted r) }⟩ } := by
    rw [decideLoop, updLoop_eq hr]
    simp [hd]
  have habort : abortLoop r s = askLoopEnd (s.updTsu fun t => { t with running := some ⟨x, .linkLoop { p with decided := some (.aborted r) }⟩ }) := by
    rw [← hdecided]
    simp only [abortLoop, loopProgress_some.mpr ⟨x, hr⟩, hp, hd]
    rfl
  have hends := askLoopEnd_ends (s.updTsu fun t => { t with running := some ⟨x, .linkLoop { p with decided := some (.aborted r) }⟩ })
  have hrest := askLoopEnd_eq (s.updTsu fun t => { t with running := some ⟨x, .linkLoop { p with decided := some (.aborted r) }⟩ })
  rw [← habort] at hends hrest
  have hrun := congrArg (fun t => t.tsu.running) hrest
  exact ⟨loopProgress_some.mpr ⟨x, hrun⟩, hends, hrest.trans (by rw [hrun]; rfl)⟩

/-- Where the outcome stands already, an abort changes nothing. -/
theorem abortLoop_decided {s : State} {x : Order} {p : LoopProgress} (hr : s.tsu.running = some ⟨x, .linkLoop p⟩) (hp : p.held = true)
    (hd : p.decided.isSome = true) (r : AbortReason) : abortLoop r s = s := by
  simp only [abortLoop, loopProgress_some.mpr ⟨x, hr⟩, hp, hd, if_true]

theorem abortLoop_early {s : State} {x : Order} {p : LoopProgress} (hr : s.tsu.running = some ⟨x, .linkLoop p⟩) (hp : p.held = false)
    (r : AbortReason) : abortLoop r s = endRunning (p.decided.getD (.aborted r)) s := by
  simp only [abortLoop, loopProgress_some.mpr ⟨x, hr⟩, hp]
  rfl

/-! ## CANCEL_TEST (R164, R165) -/

theorem cancelTest_served {s : State} {k : Slot} {tag : Byte} {ps : List Byte} (hst : s.standing k = true)
    (h : s.holds k .testShared = true ∨ s.holds k .testOwn = true) :
    exec (.cancelTest k tag ps) s = .next (conclude k tag (judgeCancelTest k ps s) s) := by
  have hmay : s.holdsTest k = true := by
    rw [State.holdsTest, Bool.or_eq_true]
    exact h.symm
  change Host.Outcome.next (serve k tag (s.holdsTest k) false (judgeCancelTest k ps s) s) = _
  rw [hmay, serve_owner tag _ hst (.inl rfl)]

theorem judgeCancelTest_zero {s : State} {k : Slot} {ps : List Byte} (h : numParam 1 ps = some 0) :
    judgeCancelTest k ps s = refuse .badValue := by
  rw [judgeCancelTest, h]
  rfl

theorem judgeCancelTest_absent {s : State} {k : Slot} {ps : List Byte} {id : Nat} (h : numParam 1 ps = some id) (hid : 0 < id)
    (hno : ∀ o ∈ s.tsu.orders, o.id ≠ id) : judgeCancelTest k ps s = refuse .notFound := by
  have hfind : s.tsu.orders.find? (fun o => decide (o.id = id)) = none := List.find?_eq_none.mpr (by simpa using hno)
  rw [judgeCancelTest, h, withParams_some, if_neg (by omega), hfind]

theorem judgeCancelTest_found {s : State} {k : Slot} {ps : List Byte} {id : Nat} {o : Order} (h : numParam 1 ps = some id) (hid : 0 < id)
    (ho : s.tsu.orders.find? (fun o => decide (o.id = id)) = some o) :
    judgeCancelTest k ps s
      = if s.holds k .testShared = false ∧ o.requester ≠ .slot k then refuse .denied
        else if s.runs id = true ∧ s.decided.isSome = true then refuse .busy
        else taken [] (cancelOrder o s) := by
  rw [judgeCancelTest, h, withParams_some, if_neg (by omega), ho]
  simp

theorem runs_iff (s : State) (id : Nat) : s.runs id = true ↔ ∃ r, s.tsu.running = some r ∧ r.order.id = id := by
  simp [State.runs, Option.map_eq_some_iff]

theorem decided_of_loop {s : State} {x : Order} {p : LoopProgress} (hr : s.tsu.running = some ⟨x, .linkLoop p⟩) : s.decided = p.decided := by
  simp [State.decided, loopProgress_some.mpr ⟨x, hr⟩]

/-- A running order that is no LINK_LOOP, or a LINK_LOOP whose outcome is open. -/
theorem decided_open {s : State} {r : Running} (hr : s.tsu.running = some r) (hopen : ∀ p, r.progress = .linkLoop p → p.decided = none) :
    s.decided = none := by
  cases hp : s.loopProgress with
  | none => simp [State.decided, hp]
  | some p =>
    obtain ⟨x, hx⟩ := loopProgress_some.mp hp
    rw [decided_of_loop hx]
    rw [hr] at hx
    cases hx
    exact hopen p rfl

theorem cancelOrder_loop {s : State} {o x : Order} {p : LoopProgress} (hr : s.tsu.running = some ⟨x, .linkLoop p⟩) (ho : x.id = o.id) :
    cancelOrder o s = abortLoop .cancel s := by
  rw [cancelOrder, if_pos ((runs_iff s _).mpr ⟨_, hr, ho⟩), loopProgress_some.mpr ⟨x, hr⟩]

/-- The running order, but for a LINK_LOOP whose hold is taken or whose outcome stands, ends at once. -/
theorem cancelOrder_running {s : State} {o : Order} {r : Running} (hr : s.tsu.running = some r) (ho : r.order.id = o.id)
    (hopen : ∀ p, r.progress = .linkLoop p → p.held = false ∧ p.decided = none) : cancelOrder o s = endRunning (.aborted .cancel) s := by
  cases hp : s.loopProgress with
  | none => rw [cancelOrder, if_pos ((runs_iff s _).mpr ⟨r, hr, ho⟩), hp]
  | some p =>
    obtain ⟨x, hx⟩ := loopProgress_some.mp hp
    rw [hr] at hx
    cases hx
    obtain ⟨hheld, hdecided⟩ := hopen p rfl
    rw [cancelOrder_loop hr ho, abortLoop_early hr hheld, hdecided]
    rfl

/-- An order that waits leaves the queue with its entry. -/
theorem cancelOrder_queued {s : State} {o : Order} {n : Nat} (hne : ∀ r, s.tsu.running = some r → r.order.id ≠ o.id)
    (hr : s.tsu.running.isSome = true) (hb : s.scu.site ≠ .bringup) (hn : s.tsu.nextSeq = some n) :
    (cancelOrder o s).tsu.running = s.tsu.running
      ∧ (cancelOrder o s).tsu.queued = s.tsu.queued.filter (fun x => decide (x.id ≠ o.id))
      ∧ (cancelOrder o s).tsu.log.getLast? = some ⟨n, o, .cancelled, {}, s.tmu.site, s.tmu.cls⟩ := by
  have hruns : ¬s.runs o.id = true := fun h => by
    obtain ⟨r, hrun, hid⟩ := (runs_iff s _).mp h
    exact hne r hrun hid
  obtain ⟨hrunning, hqueued, hlast, -⟩ := completeOrder_leaves
    (s := s.updTsu fun t => { t with queued := t.queued.filter (fun x => decide (x.id ≠ o.id)) }) hb hn o .cancelled {}
  rw [cancelOrder, if_neg hruns, settle_of_noStart (.inl (by rw [hrunning]; exact hr))]
  exact ⟨hrunning, hqueued, hlast⟩

/-! ## ORDER_TEST with no other order held (R163, R166) -/

theorem Tsu.orders_nil {t : Tsu} : t.orders = [] ↔ t.running = none ∧ t.queued = [] := by simp [Tsu.orders]

/-- The id counter past an order placed, before the order is put anywhere. -/
def State.placedAlone (s : State) (k : Slot) (test : Test) : State :=
  (s.updTsu fun u => u.place (.slot k) test).updTsu fun t => { t with queued := [] }

theorem settle_placed {s : State} (hidle : s.noIdleQueue) (hr : s.tsu.running = none) (k : Slot) (test : Test) :
    (s.startable test = true →
        settle (s.updTsu fun u => u.place (.slot k) test) = startOrder ⟨s.tsu.newId, .slot k, test⟩ (s.placedAlone k test))
      ∧ (s.startable test = false → s.scu.site ≠ .bringup →
        settle (s.updTsu fun u => u.place (.slot k) test) = completeOrder ⟨s.tsu.newId, .slot k, test⟩ .notRun {} (s.placedAlone k test)) := by
  have hq : (s.updTsu fun u => u.place (.slot k) test).tsu.queued = [⟨s.tsu.newId, .slot k, test⟩] := by simp [Tsu.place, hidle hr]
  have hcond : (s.updTsu fun u => u.place (.slot k) test).startable test = s.startable test := startable_congr rfl rfl rfl _
  have hsingle := settle_single (s := s.updTsu fun u => u.place (.slot k) test) hr hq
  rwa [hcond] at hsingle

/-- A start touches the orders, and the queues of a PORT_LOOP's slot alone. -/
theorem startOrder_apart (o : Order) (s : State) :
    startOrder o s = { s with tsu := (startOrder o s).tsu, tqm := (startOrder o s).tqm }
      ∧ ∀ j, (∀ n len, o.test ≠ .portLoop j n len) → (startOrder o s).tqm.get j = s.tqm.get j := by
  obtain ⟨i, who, x⟩ := o
  cases x with
  | portLoop k n len =>
    refine ⟨rfl, fun j h => PerSlot.get_modify_ne _ ?_ _⟩
    rintro rfl
    exact h n len rfl
  | airPattern | linkLoop | timeCompare => exact ⟨rfl, fun _ _ => rfl⟩

/-! ## The obligation -/

/-- Settles O57: the order placed by the start of the only one held, the order withdrawn by where it stands. -/
theorem ordersArePlacedAndWithdrawn : Obligations.OrdersArePlacedAndWithdrawn := by
  unfold Obligations.OrdersArePlacedAndWithdrawn
  intro k tag ps s hst hidle
  refine ⟨fun test h hmay => orderTest_denied hst h hmay, fun test h hmay => ⟨fun hfull => ?_, fun hroom => ?_⟩,
    fun test n h hmay hnone hcond hb hn => ?_, fun id hmay h => ⟨fun hid => ?_, fun hid hno => ?_, fun o hid ho => ⟨fun hs hne => ?_, fun hown => ?_⟩⟩⟩
  · rw [orderTest_served hst h hmay, if_pos hfull]
  · rw [orderTest_served hst h hmay, if_neg (by omega)]
    refine ⟨_, rfl, newId_fresh _ (by omega), fun hr => ?_, fun hr hcond => ?_⟩
    · rw [settle_of_noStart (s := s.updTsu fun u => u.place (.slot k) test) (.inl hr)]
      rfl
    · rw [(settle_placed hidle hr k test).1 hcond]
      obtain ⟨hapart, htqm⟩ := startOrder_apart ⟨s.tsu.newId, .slot k, test⟩ (s.placedAlone k test)
      exact ⟨startOrder_running _ _, by simp [State.placedAlone], by simp [State.placedAlone, Tsu.place],
        by simp [State.placedAlone, Tsu.place], hapart, htqm⟩
  · obtain ⟨hr, hq⟩ := Tsu.orders_nil.mp hnone
    obtain ⟨hrunning, hqueued, hlast, hdone⟩ := completeOrder_leaves (s := s.placedAlone k test) hb hn ⟨s.tsu.newId, .slot k, test⟩ .notRun {}
    rw [orderTest_served hst h hmay, if_neg (by simp [hnone]), (settle_placed hidle hr k test).2 hcond hb]
    exact ⟨_, _, by simp [hnone], Tsu.orders_nil.mpr ⟨hrunning.trans hr, hqueued⟩, hlast, rfl, rfl, rfl, rfl, hdone k (.inr rfl), hdone 0 (.inl rfl)⟩
  · subst hid
    rw [cancelTest_served hst hmay, judgeCancelTest_zero h]
    rfl
  · rw [cancelTest_served hst hmay, judgeCancelTest_absent h hid hno]
    rfl
  · rw [cancelTest_served hst hmay, judgeCancelTest_found h hid ho, if_pos ⟨hs, hne⟩]
    rfl
  · have hoid : o.id = id := by simpa using List.find?_some ho
    have hnot : ¬(s.holds k .testShared = false ∧ o.requester ≠ .slot k) := fun ⟨hs, hne⟩ => by simp [hs, hne] at hown
    have hserved := cancelTest_served (tag := tag) (ps := ps) hst hmay
    rw [judgeCancelTest_found h hid ho, if_neg hnot] at hserved
    refine ⟨fun r p hr hrid hp hd => ?_, fun r p hr hrid hp hd => ?_, fun r n hr hrid hopen hq hb hn => ?_, fun n hne hr hb hn => ?_⟩
    · rw [hserved, if_pos ⟨(runs_iff s id).mpr ⟨_, hr, hrid⟩, by rw [decided_of_loop hr]; exact hd⟩]
      rfl
    · rw [if_neg (by rw [decided_of_loop hr, hd]; simp)] at hserved
      obtain ⟨hprogress, hends, hrest⟩ := abortLoop_aborts hr hp hd .cancel
      exact ⟨_, hserved.trans (by rw [cancelOrder_loop hr (hrid.trans hoid.symm)]; rfl), hprogress, hends, hrest⟩
    · rw [if_neg (by rw [decided_open hr fun p hp => (hopen p hp).2]; simp), cancelOrder_running hr (hrid.trans hoid.symm) hopen] at hserved
      obtain ⟨hrunning, hqueued, hlast⟩ := endRunning_entry hr hq hb hn (.aborted .cancel)
      exact ⟨_, _, hserved, by simp [Tsu.orders, hrunning, hqueued], hlast, rfl, rfl, rfl, rfl⟩
    · have hruns : ¬(s.runs id = true ∧ s.decided.isSome = true) := fun ⟨h, _⟩ => by
        obtain ⟨r, hrun, hid⟩ := (runs_iff s id).mp h
        exact hne r hrun hid
      rw [if_neg hruns] at hserved
      obtain ⟨hrunning, hqueued, hlast⟩ := cancelOrder_queued (o := o) (by rw [hoid]; exact hne) hr hb hn
      rw [hoid] at hqueued
      exact ⟨_, _, hserved, hrunning, hqueued, hlast, rfl, rfl, rfl, rfl⟩

end Sys2Proof.Machine

/-! A slot reset and the orders (chapters 5 and 9). -/

namespace Sys2Proof.Machine

open Sys2Proof

/-! ## What joins the queue of orders (R4, R166) -/

/-- Between the two states no order joined the queue but the site's. -/
def State.siteJoins (s t : State) : Prop := ∀ o ∈ t.tsu.queued, o ∈ s.tsu.queued ∨ o.requester = .site

theorem State.siteJoins.of_subset {s t : State} (h : ∀ o ∈ t.tsu.queued, o ∈ s.tsu.queued) : s.siteJoins t := fun o ho => .inl (h o ho)

theorem State.siteJoins.of_same {s t : State} (h : t.tsu.queued = s.tsu.queued) : s.siteJoins t := .of_subset fun _ ho => h ▸ ho

theorem State.siteJoins.refl (s : State) : s.siteJoins s := .of_same rfl

theorem State.siteJoins.trans {s t u : State} (h1 : s.siteJoins t) (h2 : t.siteJoins u) : s.siteJoins u := fun o ho =>
  (h2 o ho).elim (h1 o) .inr

theorem bringupStep_joins (s : State) : s.siteJoins (bringupStep s) := by
  obtain ⟨-, h⟩ | ⟨w, h⟩ | ⟨-, h⟩ | ⟨-, -, -, h⟩ := bringupStep_cases s <;> rw [h]
  · exact .refl s
  · exact .of_same (by simp [setWait])
  · exact .of_same (by simp [enterService])
  · obtain ⟨placed, hq, -, hsite, -⟩ := queueAcceptance_placed s
    intro o ho
    have hmem : o ∈ s.tsu.queued ++ placed := by simpa [setWait, hq] using ho
    exact (List.mem_append.mp hmem).imp_right (hsite o)

theorem reportCompletion_joins (o : Order) (out : TestOutcome) (s : State) : s.siteJoins (reportCompletion o out s) := by
  unfold reportCompletion
  split
  · split
    · exact .of_same (by simp)
    · exact .refl s
  · exact bringupStep_joins s

theorem completeOrder_joins (o : Order) (out : TestOutcome) (m : Measures) (s : State) : s.siteJoins (completeOrder o out m s) :=
  State.siteJoins.trans (t := raiseTestDone o.requester (writeEntry o out m s)) (.of_same (by simp)) (reportCompletion_joins _ _ _)

theorem considerStart_joins (n : Nat) (s : State) : s.siteJoins (considerStart n s) := by
  induction n generalizing s with
  | zero => exact .refl s
  | succ n ih =>
    unfold considerStart
    split
    · next o rest hr hq =>
      have hdrop : s.siteJoins (s.updTsu fun t => { t with queued := rest }) := .of_subset fun x hx => by rw [hq]; exact List.mem_cons_of_mem _ hx
      dsimp only
      split
      · exact hdrop.trans (.of_same (by simp))
      · exact (hdrop.trans (completeOrder_joins _ _ _ _)).trans (ih _)
    · exact .refl s

theorem settle_joins (s : State) : s.siteJoins (settle s) := considerStart_joins _ s

theorem endRunning_joins (out : TestOutcome) (s : State) : s.siteJoins (endRunning out s) := by
  unfold endRunning
  split
  · exact .refl s
  · exact (State.siteJoins.trans (t := s.updTsu fun t => { t with running := none }) (.of_same rfl) (completeOrder_joins _ _ _ _)).trans
      (settle_joins _)

theorem abortLoop_joins (r : AbortReason) (s : State) : s.siteJoins (abortLoop r s) := by
  unfold abortLoop
  split
  · exact .refl s
  · split
    · split
      · exact .refl s
      · exact .of_same (by simp)
    · exact endRunning_joins _ s

/-! ## The slot's orders (R181) -/

/-- Slot `k`'s own queued orders are gone. -/
theorem removeQueued_joins (k : Slot) (s : State) :
    ∀ o ∈ (removeQueued k s).tsu.queued, o.requester ≠ .slot k := by
  have hkept : ∀ o ∈ s.tsu.queued.filter (fun o => !ownOrder k o), o.requester ≠ .slot k := fun o ho => by
    simpa [ownOrder] using (List.mem_filter.mp ho).2
  unfold removeQueued
  dsimp only
  split
  · intro o ho
    obtain h | h := bringupStep_joins _ o ho
    · exact hkept o h
    · simp [h]
  · exact hkept

/-- Outside BRINGUP, and where none of the slot's is queued, the removal is all that happens. -/
theorem removeQueued_eq {k : Slot} {s : State} (h : s.scu.site ≠ .bringup ∨ s.tsu.queued = []) :
    removeQueued k s = s.updTsu fun t => { t with queued := t.queued.filter (fun o => decide (o.requester ≠ .slot k)) } := by
  have hfilter : (fun o => !ownOrder k o) = fun o : Order => decide (o.requester ≠ .slot k) := by
    funext o
    simp [ownOrder]
  unfold removeQueued
  rw [hfilter]
  dsimp only
  split
  · next hany =>
    obtain hb | hq := h
    · rw [bringupStep_of_ne (by simpa using hb)]
    · rw [hq] at hany
      cases hany
  · rfl

/-- What a slot reset does to the running order: nothing to one that does not concern the slot, an abort to the slot's own LINK_LOOP, and an
end to any other. -/
theorem tenantResetRunning_cases (k : Slot) (s : State) :
    ((∀ r, s.tsu.running = some r → r.order.requester ≠ .slot k ∧ s.loopSubject ≠ some k) ∧ tenantResetRunning k s = s)
      ∨ (∃ x p, s.tsu.running = some ⟨x, .linkLoop p⟩ ∧ x.requester = .slot k ∧ tenantResetRunning k s = abortLoop .tenantReset s)
      ∨ (∃ r, s.tsu.running = some r ∧ (r.order.requester = .slot k → ∀ p, r.progress ≠ .linkLoop p)
          ∧ (r.order.requester ≠ .slot k → s.loopSubject = some k) ∧ tenantResetRunning k s = endRunning (.aborted .tenantReset) s) := by
  unfold tenantResetRunning
  split
  · next hr => exact .inl ⟨fun r h => absurd (hr.symm.trans h) (by simp), rfl⟩
  · next r hr =>
    split
    · next hown =>
      split
      · next p hp =>
        obtain ⟨x, q⟩ := r
        cases hp
        exact .inr (.inl ⟨x, p, hr, hown, rfl⟩)
      · next hno => exact .inr (.inr ⟨r, hr, fun _ => hno, fun h => absurd hown h, rfl⟩)
    · next hown =>
      split
      · next hsubject => exact .inr (.inr ⟨r, hr, fun h => absurd h hown, fun _ => hsubject, rfl⟩)
      · next hsubject =>
        refine .inl ⟨fun x hx => ?_, rfl⟩
        rw [hr] at hx
        cases hx
        exact ⟨hown, hsubject⟩

theorem tenantResetRunning_joins (k : Slot) (s : State) : s.siteJoins (tenantResetRunning k s) := by
  obtain ⟨-, h⟩ | ⟨-, -, -, -, h⟩ | ⟨-, -, -, -, h⟩ := tenantResetRunning_cases k s <;> rw [h]
  · exact .refl s
  · exact abortLoop_joins _ s
  · exact endRunning_joins _ s

/-- The queues stand but for the egress partial of a slot whose PORT_LOOP starts. -/
theorem abortLoop_discards (r : AbortReason) (s : State) : s.discardsAtStart (abortLoop r s) := by
  have hrefl : s.discardsAtStart s := fun _ => .inl rfl
  unfold abortLoop
  split
  · exact hrefl
  · split
    · split
      · exact hrefl
      · exact fun _ => .inl (by simp)
    · exact endRunning_discards _ s

theorem tenantResetRunning_discards (k : Slot) (s : State) : s.discardsAtStart (tenantResetRunning k s) := by
  obtain ⟨-, h⟩ | ⟨-, -, -, -, h⟩ | ⟨-, -, -, -, h⟩ := tenantResetRunning_cases k s <;> rw [h]
  · exact fun _ => .inl rfl
  · exact abortLoop_discards _ s
  · exact endRunning_discards _ s

/-- TEST_DONE of the order that ends (R186). -/
theorem endRunning_done {s : State} {r : Running} (hr : s.tsu.running = some r) (out : TestOutcome) {k : Slot}
    (hk : k = 0 ∨ r.order.requester = .slot k) : (endRunning out s).pends k .testDone = true := by
  have hend : endRunning out s
      = settle (completeOrder r.order out (measuresOf r.order r.progress) (s.updTsu fun t => { t with running := none })) := by
    simp only [endRunning, hr]
  rw [hend]
  refine ((settle_moves _).pends k .testDone).1 (((reportCompletion_moves _ _ _).pends k .testDone).1 ?_)
  simp [pends_raiseTestDone, hk]

end Sys2Proof.Machine

namespace Sys2Proof.Machine

open Sys2Proof

/-! ## A slot reset across the blocks (R79, R94, R119, R181, R209) -/

/-- The slot's records emptied, before the orders are looked at. -/
def tenantCleared (k : Slot) (s : State) : State :=
  { s with
    sli := { s.sli with events := s.sli.events.set k {} },
    tqm := s.tqm.modify k fun r => r.resetSite.clearCounters,
    gre := { s.gre with slots := s.gre.slots.set k {} } }

theorem tenantReset_eq (k : Slot) (s : State) : tenantReset k s = settle (tenantResetRunning k (removeQueued k (tenantCleared k s))) := rfl

theorem tenantCleared_tqm (k : Slot) (s : State) :
    (tenantCleared k s).tqm = s.tqm.set k { nextSeq := (s.tqm.get k).nextSeq } := by
  refine PerSlot.eq_of_get fun j => ?_
  by_cases hj : j = k
  · subst hj
    rw [tenantCleared, PerSlot.get_modify_same, PerSlot.get_set_same]
    rfl
  · rw [tenantCleared, PerSlot.get_modify_ne _ hj, PerSlot.get_set_ne _ hj]

theorem removeQueued_running (k : Slot) (s : State) : (removeQueued k s).tsu.running = s.tsu.running := by simp

theorem tenantReset_queued (k : Slot) (s : State) : ∀ o ∈ (tenantReset k s).tsu.queued, o.requester ≠ .slot k := fun o ho => by
  obtain h | h := (tenantResetRunning_joins k _).trans (settle_joins _) o ho
  · exact removeQueued_joins k _ o h
  · simp [h]

theorem tenantReset_tqm (k : Slot) (s : State) (j : Slot) :
    (tenantReset k s).tqm.get j = (tenantCleared k s).tqm.get j
      ∨ ((tenantReset k s).loopSubject = some j ∧ (tenantReset k s).tqm.get j = ((tenantCleared k s).tqm.get j).discardEgress) := by
  have hdiscards := (tenantResetRunning_discards k (removeQueued k (tenantCleared k s))).trans (settle_starts _) j
  rw [(removeQueued_frame (s := tenantCleared k s) k).2.2.1] at hdiscards
  exact hdiscards.imp_right fun ⟨hruns, h⟩ => ⟨hruns.subject, h⟩

theorem tenantReset_events (k : Slot) (s : State) :
    ((tenantReset k s).sli.events.get k).enabled = {} ∧ ((tenantReset k s).sli.events.get k).attention = false
      ∧ ∀ j, j ≠ k → ((tenantReset k s).sli.events.get j).enabled = (s.sli.events.get j).enabled
          ∧ ∀ e, (s.sli.events.get j).pending.has e = true → ((tenantReset k s).sli.events.get j).pending.has e = true := by
  have hmoves := tenantReset_moves k s
  have hevent := hmoves.event k
  rw [State.updSli_sli, PerSlot.get_set_same] at hevent
  obtain ⟨henabled, hattention⟩ := hevent
  refine ⟨henabled, ?_, fun j hj => ?_⟩
  · rw [hattention rfl, henabled]
    simp [attentionLevel, EventSet.has, EventKind.all]
  · have hevent := (hmoves.event j).1
    have hkeeps := hmoves.follows.keeps j
    simp only [State.pends, State.updSli_sli, PerSlot.get_set_ne _ hj] at hevent hkeeps
    exact ⟨hevent, hkeeps⟩

theorem abortLoop_settings (r : AbortReason) (s : State) : (abortLoop r s).lkc.settings = s.lkc.settings := by
  have hask : ∀ u : State, (askLoopEnd u).lkc.settings = u.lkc.settings := fun u => by
    unfold askLoopEnd
    split
    · rfl
    · rw [enterLoopExit_lkc]; rfl
    · rw [enterLoopExit_lkc]; rfl
    · rfl
  unfold abortLoop
  split
  · rfl
  · split
    · split
      · rfl
      · rw [hask]
        simp
    · simp

theorem tenantResetRunning_apart (k : Slot) (s : State) :
    (tenantResetRunning k s).gre = s.gre ∧ (tenantResetRunning k s).tmu = s.tmu ∧ s.tablesStand (tenantResetRunning k s) := by
  obtain ⟨-, h⟩ | ⟨-, -, -, -, h⟩ | ⟨-, -, -, -, h⟩ := tenantResetRunning_cases k s <;> rw [h]
  · exact ⟨rfl, rfl, rfl, rfl, rfl, rfl, rfl, rfl⟩
  · have hsettings := abortLoop_settings .tenantReset s
    simp only [Lkc.settings, Prod.mk.injEq] at hsettings
    obtain ⟨hceiling, hup, hloss, hconfirm, hprofiles⟩ := hsettings
    refine ⟨by simp, by simp, ?_⟩
    simp only [State.tablesStand, State.tables, hceiling, hup, hloss, hconfirm, hprofiles]
    simp
  · exact ⟨by simp, by simp, by simp [State.tablesStand, State.tables]⟩

theorem tenantReset_stands (k : Slot) (s : State) :
    (tenantReset k s).gre = { s.gre with slots := s.gre.slots.set k {} } ∧ (tenantReset k s).tmu = s.tmu ∧ s.tablesStand (tenantReset k s) := by
  obtain ⟨hgre, htmu, hstand⟩ := tenantResetRunning_apart k (removeQueued k (tenantCleared k s))
  have hremoved : (removeQueued k (tenantCleared k s)).gre = (tenantCleared k s).gre ∧ (removeQueued k (tenantCleared k s)).tmu = s.tmu :=
    ⟨by simp, by simp [tenantCleared]⟩
  have hfirst : s.tablesStand (removeQueued k (tenantCleared k s)) := by simp [State.tablesStand, State.tables, tenantCleared]
  have hsettled : (tenantResetRunning k (removeQueued k (tenantCleared k s))).tablesStand (tenantReset k s) := by
    simp [tenantReset_eq, State.tablesStand, State.tables]
  refine ⟨?_, ?_, (hfirst.trans hstand).trans hsettled⟩
  · simp only [tenantReset_eq, settle_frame, hgre, hremoved]
    rfl
  · simp only [tenantReset_eq, settle_frame, htmu, hremoved]

/-- With no LINK_LOOP running the link is left alone. -/
theorem tenantReset_link {k : Slot} {s : State} (h : ∀ p, s.loopProgress ≠ some p) :
    (tenantReset k s).lkc = s.lkc ∧ (tenantReset k s).emitted = s.emitted := by
  rw [tenantReset_eq]
  obtain ⟨-, hr⟩ | ⟨x, p, hx, -, hr⟩ | ⟨-, -, -, -, hr⟩ := tenantResetRunning_cases k (removeQueued k (tenantCleared k s)) <;> rw [hr]
  · simp [tenantCleared]
  · exact absurd (loopProgress_some.mpr ⟨x, (removeQueued_running k _).symm.trans hx⟩) (h p)
  · simp [tenantCleared]

/-! ### The running order (R181) -/

/-- The state in which the running order is looked at. -/
def resetQueued (k : Slot) (s : State) : State := removeQueued k (tenantCleared k s)

theorem resetQueued_running (k : Slot) (s : State) :
    (resetQueued k s).tsu.running = s.tsu.running ∧ (resetQueued k s).loopSubject = s.loopSubject
      ∧ (resetQueued k s).loopProgress = s.loopProgress ∧ (resetQueued k s).lkc = s.lkc ∧ (resetQueued k s).emitted = s.emitted
      ∧ (resetQueued k s).tsu.log = s.tsu.log := by
  have hr : (resetQueued k s).tsu.running = s.tsu.running := removeQueued_running k _
  refine ⟨hr, ?_, ?_, by simp [resetQueued, tenantCleared], by simp [resetQueued, tenantCleared], by simp [resetQueued, tenantCleared]⟩
  · rw [State.loopSubject, State.loopSubject, hr]
  · rw [State.loopProgress, State.loopProgress, hr]

/-- The running order has ended by the reset of slot `k`, where all the others queued were the slot's. -/
def State.resetEnds (s t : State) (k : Slot) (r : Running) : Prop :=
  ∀ n, (∀ o ∈ s.tsu.queued, o.requester = .slot k) → s.scu.site ≠ .bringup → s.tsu.nextSeq = some n →
    t.tsu.orders = [] ∧ (t.sli.events.get 0).pending.has .testDone = true
      ∧ (∀ j, r.order.requester = .slot j → (t.sli.events.get j).pending.has .testDone = true)
      ∧ ∃ e, t.tsu.log.getLast? = some e ∧ e.seq = n ∧ e.order = r.order ∧ e.outcome = .aborted .tenantReset
          ∧ e.time = s.tmu.site ∧ e.measures = measuresOf r.order r.progress

theorem tenantReset_ends {k : Slot} {s : State} {r : Running} (hr : s.tsu.running = some r)
    (h : tenantResetRunning k (resetQueued k s) = endRunning (.aborted .tenantReset) (resetQueued k s)) :
    s.resetEnds (tenantReset k s) k r := by
  intro n hown hb hn
  have hqueued : resetQueued k s = (tenantCleared k s).updTsu fun t => { t with queued := [] } := by
    have hnone : s.tsu.queued.filter (fun o => decide (o.requester ≠ .slot k)) = [] := List.filter_eq_nil_iff.mpr fun o ho => by simp [hown o ho]
    rw [resetQueued, removeQueued_eq (s := tenantCleared k s) (.inl hb), State.updTsu]
    change { tenantCleared k s with tsu := { s.tsu with queued := s.tsu.queued.filter (fun o => decide (o.requester ≠ Requester.slot k)) } } = _
    rw [hnone]
    rfl
  have hrun : (resetQueued k s).tsu.running = some r := (resetQueued_running k s).1.trans hr
  obtain ⟨hrunning, hnone, hlast⟩ := endRunning_entry (s := resetQueued k s) hrun (by rw [hqueued]; rfl) (by rw [hqueued]; exact hb)
    (by rw [hqueued]; exact hn) (.aborted .tenantReset)
  have hreset : tenantReset k s = endRunning (.aborted .tenantReset) (resetQueued k s) := by
    rw [tenantReset_eq]
    change settle (tenantResetRunning k (resetQueued k s)) = _
    rw [h, settle_of_noStart (.inr hnone)]
  rw [hreset]
  exact ⟨Tsu.orders_nil.mpr ⟨hrunning, hnone⟩, endRunning_done hrun _ (.inl rfl), fun j hj => endRunning_done hrun _ (.inr hj), _, hlast, rfl, rfl,
    rfl, by rw [hqueued]; rfl, rfl⟩

/-- An order of the slot that is no LINK_LOOP, or a PORT_LOOP of another on the slot, ends. -/
theorem tenantResetRunning_ends {k : Slot} {s : State} {r : Running} (hr : s.tsu.running = some r)
    (h : (r.order.requester = .slot k ∧ ∀ p, r.progress ≠ .linkLoop p) ∨ (r.order.requester ≠ .slot k ∧ s.loopSubject = some k)) :
    tenantResetRunning k s = endRunning (.aborted .tenantReset) s := by
  obtain ⟨hno, -⟩ | ⟨x, p, hx, hown, -⟩ | ⟨-, -, -, -, h⟩ := tenantResetRunning_cases k s
  · obtain ⟨hown, hsubject⟩ := hno r hr
    exact absurd h (by simp [hown, hsubject])
  · rw [hr] at hx
    cases hx
    exact absurd h (by simp [hown])
  · exact h

theorem tenantResetRunning_loop {k : Slot} {s : State} {x : Order} {p : LoopProgress} (hr : s.tsu.running = some ⟨x, .linkLoop p⟩)
    (hown : x.requester = .slot k) : tenantResetRunning k s = abortLoop .tenantReset s := by
  simp only [tenantResetRunning, hr, hown, if_true]

theorem tenantResetRunning_other {k : Slot} {s : State} {r : Running} (hr : s.tsu.running = some r) (hown : r.order.requester ≠ .slot k)
    (hsubject : s.loopSubject ≠ some k) : tenantResetRunning k s = s := by
  simp only [tenantResetRunning, hr, hown, hsubject, if_false]

theorem resetLoop_running {k : Slot} {s : State} (h : (tenantResetRunning k (resetQueued k s)).tsu.running.isSome = true) :
    tenantReset k s = tenantResetRunning k (resetQueued k s) := settle_of_noStart (.inl h)

theorem endsLoopEarly_congr {s u t : State} (hlkc : u.lkc = s.lkc) (hemitted : u.emitted = s.emitted) (h : u.endsLoopEarly t) :
    s.endsLoopEarly t := by simpa only [State.endsLoopEarly, hlkc, hemitted] using h

/-- The slot's own LINK_LOOP whose hold is taken: the abort is decided, unless an outcome stands. -/
theorem tenantReset_loop {k : Slot} {s : State} {x : Order} {p : LoopProgress} (hr : s.tsu.running = some ⟨x, .linkLoop p⟩)
    (hown : x.requester = .slot k) (hp : p.held = true) :
    (tenantReset k s).tsu.log = s.tsu.log
      ∧ (p.decided = none →
          (tenantReset k s).loopProgress = some { p with decided := some (.aborted .tenantReset) } ∧ s.endsLoopEarly (tenantReset k s))
      ∧ (p.decided.isSome = true →
          (tenantReset k s).loopProgress = some p ∧ (tenantReset k s).lkc = s.lkc ∧ (tenantReset k s).emitted = s.emitted) := by
  obtain ⟨hrunning, -, hprogress, hlkc, hemitted, hlog⟩ := resetQueued_running k s
  have hrun := hrunning.trans hr
  have habort := tenantResetRunning_loop hrun hown
  cases hd : p.decided with
  | none =>
    obtain ⟨hdecided, hends, hrest⟩ := abortLoop_aborts hrun hp hd .tenantReset
    obtain ⟨y, hy⟩ := loopProgress_some.mp hdecided
    have hreset : tenantReset k s = abortLoop .tenantReset (resetQueued k s) := by
      rw [← habort]
      exact resetLoop_running (by rw [habort, hy]; rfl)
    rw [hreset]
    exact ⟨(congrArg (fun t => t.tsu.log) hrest).trans hlog, fun _ => ⟨hdecided, endsLoopEarly_congr hlkc hemitted hends⟩, fun h => (nomatch h)⟩
  | some out =>
    have hsame := abortLoop_decided hrun hp (by rw [hd]; rfl) .tenantReset
    have hreset : tenantReset k s = resetQueued k s := by
      rw [← hsame, ← habort]
      exact resetLoop_running (by rw [habort, hsame, hrun]; rfl)
    rw [hreset]
    exact ⟨hlog, fun h => (nomatch h), fun _ => ⟨hprogress.trans (loopProgress_some.mpr ⟨x, hr⟩), hlkc, hemitted⟩⟩

/-- Any other running order stays. -/
theorem tenantReset_other {k : Slot} {s : State} {r : Running} (hr : s.tsu.running = some r) (hown : r.order.requester ≠ .slot k)
    (hsubject : s.loopSubject ≠ some k) (hb : s.scu.site ≠ .bringup) :
    (tenantReset k s).tsu = { s.tsu with queued := s.tsu.queued.filter (fun o => decide (o.requester ≠ .slot k)) }
      ∧ (tenantReset k s).lkc = s.lkc := by
  obtain ⟨hrunning, hloop, -, hlkc, -⟩ := resetQueued_running k s
  have hother := tenantResetRunning_other (hrunning.trans hr) hown (by rw [hloop]; exact hsubject)
  have hreset : tenantReset k s = resetQueued k s := by
    rw [← hother]
    exact (resetLoop_running (by rw [hother, hrunning, hr]; rfl)).trans (by rw [hother])
  rw [hreset]
  exact ⟨congrArg State.tsu (removeQueued_eq (s := tenantCleared k s) (.inl hb)), hlkc⟩

/-- With no order held nothing else changes. -/
theorem tenantReset_noOrder {k : Slot} {s : State} (h : s.tsu.orders = []) :
    tenantReset k s
      = { s with
          sli := { s.sli with events := s.sli.events.set k ⟨{}, {}, false⟩ },
          tqm := s.tqm.set k { nextSeq := (s.tqm.get k).nextSeq },
          gre := { s.gre with slots := s.gre.slots.set k {} } } := by
  obtain ⟨hr, hq⟩ := Tsu.orders_nil.mp h
  have hqueued : resetQueued k s = tenantCleared k s := by
    rw [resetQueued, removeQueued_eq (s := tenantCleared k s) (.inr hq), State.updTsu]
    change { tenantCleared k s with tsu := { s.tsu with queued := s.tsu.queued.filter (fun o => decide (o.requester ≠ Requester.slot k)) } } = _
    rw [hq, List.filter_nil, ← hq]
    rfl
  have hnone : tenantResetRunning k (tenantCleared k s) = tenantCleared k s := by
    have hrun : (tenantCleared k s).tsu.running = none := hr
    simp only [tenantResetRunning, hrun]
  have hreset : tenantReset k s = settle (tenantResetRunning k (resetQueued k s)) := rfl
  rw [hreset, hqueued, hnone, settle_of_noStart (s := tenantCleared k s) (.inr hq), ← tenantCleared_tqm]
  rfl

/-! ## The two requests -/

theorem ownOr_of {s : State} {k t : Slot} {c : PermClass} (h : t = k ∨ s.holds k c = true) : s.ownOr k c [BitVec.ofNat 8 t.val] = true := by
  obtain rfl | h := h
  · simp [State.ownOr, namesOwn]
  · simp [State.ownOr, h]

theorem tenantReset_served {s : State} {k t : Slot} (hst : s.standing k = true) (h : t = k ∨ s.holds k .siteControl = true) (tag : Byte) :
    exec (.tenantReset k tag [BitVec.ofNat 8 t.val]) s = .next (answer k tag .ok [] (tenantReset t s)) := by
  change Host.Outcome.next (serve k tag (s.ownOr k .siteControl _) false _ s) = _
  rw [ownOr_of h, serve_owner tag _ hst (.inl rfl), slotParam_val, withParams_some, slotOf_val, withParams_some, conclude_taken]

theorem clearCounters_served {s : State} {k t : Slot} (hst : s.standing k = true) (h : t = k ∨ s.holds k .shareControl = true) (tag : Byte) :
    exec (.clearCounters k tag [BitVec.ofNat 8 t.val]) s = .next (answer k tag .ok [] (clearCounters t s)) := by
  change Host.Outcome.next (serve k tag (s.ownOr k .shareControl _) false _ s) = _
  rw [ownOr_of h, serve_owner tag _ hst (.inl rfl), slotParam_val, withParams_some, slotOf_val, withParams_some, conclude_taken]

/-- Settles O25, by what the reset leaves of each block and what it does to the running order. -/
theorem slotResetAndClearCounters : Obligations.SlotResetAndClearCounters := by
  unfold Obligations.SlotResetAndClearCounters
  intro k target tag s hst
  refine ⟨fun hmay => ⟨tenantReset target s, tenantReset_served hst hmay tag, tenantReset_queued target s, ?_⟩,
    fun hmay => (clearCounters_served hst hmay tag).trans rfl⟩
  obtain ⟨henabled, hattention, hevents⟩ := tenantReset_events target s
  obtain ⟨hgre, htmu, htables⟩ := tenantReset_stands target s
  have htqm := fun j => tenantReset_tqm target s j
  rw [tenantCleared_tqm] at htqm
  refine ⟨henabled, hattention, fun j hj => ?_, ?_, hgre, htmu, htables, tenantReset_link, fun r hr => ?_, tenantReset_noOrder⟩
  · obtain ⟨he, hp⟩ := hevents j hj
    have hqueues := htqm j
    rw [PerSlot.get_set_ne _ hj] at hqueues
    exact ⟨he, hp, hqueues⟩
  · have hqueues := htqm target
    rw [PerSlot.get_set_same] at hqueues
    exact hqueues.elim id And.right
  · obtain ⟨hrunning, hloop, -, hlkc, hemitted, -⟩ := resetQueued_running target s
    refine ⟨fun hown hno => ?_, fun hown hsubject => ?_, fun p hown hp hheld hd => ?_, fun p hown hp hheld => ?_, fun hown hsubject hb => ?_⟩
    · exact tenantReset_ends hr (tenantResetRunning_ends (hrunning.trans hr) (.inl ⟨hown, hno⟩))
    · exact tenantReset_ends hr (tenantResetRunning_ends (hrunning.trans hr) (.inr ⟨hown, hloop.trans hsubject⟩))
    · obtain ⟨x, q⟩ := r
      cases hp
      have hend : tenantResetRunning target (resetQueued target s) = endRunning (.aborted .tenantReset) (resetQueued target s) := by
        rw [tenantResetRunning_loop (hrunning.trans hr) hown, abortLoop_early (hrunning.trans hr) hheld, hd]
        rfl
      have hreset : tenantReset target s = settle (endRunning (.aborted .tenantReset) (resetQueued target s)) := by
        rw [← hend]
        rfl
      exact ⟨tenantReset_ends hr hend, by rw [hreset]; simpa using hlkc, by rw [hreset]; simpa using hemitted⟩
    · obtain ⟨x, q⟩ := r
      cases hp
      exact tenantReset_loop hr hown hheld
    · exact tenantReset_other hr hown hsubject hb

end Sys2Proof.Machine

/-! The local nanosecond (chapters 2, 7, 8, 9 and 11): what it counts and what it queues. -/

namespace Sys2Proof.Machine

open Sys2Proof

/-! ## The commands a nanosecond queues -/

/-- A command, where a condition holds. -/
def dueIf (b : Bool) (c : Instr) : List Instr := if b then [c] else []

@[simp] theorem mem_dueIf (b : Bool) (c x : Instr) : x ∈ dueIf b c ↔ b = true ∧ x = c := by
  cases b <;> simp [dueIf]

theorem count_dueIf_ne {c x : Instr} (h : c ≠ x) (b : Bool) : (dueIf b c).count x = 0 := by
  cases b <;> simp [dueIf, h]

/-- Commands at the tail of the waiting ones. -/
def State.queueing (s : State) (l : List Instr) : State := { s with pending := s.pending ++ l }

theorem queueing_queueing (s : State) (l m : List Instr) : (s.queueing l).queueing m = s.queueing (l ++ m) := by
  simp [State.queueing]

theorem enqueueIf_queueing (s : State) (b : Bool) (c : Instr) : s.enqueueIf b c = s.queueing (dueIf b c) := by
  cases b <;> simp [State.enqueueIf, State.enqueue, State.queueing, dueIf]

/-- Slot `k`'s PPS timers that have run out: its width, and one for each pulse that has waited its delay. -/
def State.ppsExpiries (s : State) (k : Slot) : List Instr :=
  dueIf (s.tmu.pps.get k).widthDue (.ppsPulseEnd k)
    ++ List.replicate ((s.tmu.pps.get k).delayed.countP fun n => decide (Config.ppsDelay ≤ n)) (.ppsDelayedEmission k)

theorem enqueue_each {α : Type} (c : Instr) (l : List α) (s : State) :
    l.foldl (fun t _ => t.enqueue c) s = s.queueing (List.replicate l.length c) := by
  induction l generalizing s with
  | nil => simp [State.queueing]
  | cons a l ih =>
    rw [List.foldl_cons, ih]
    exact queueing_queueing s [c] _

theorem ppsTimersDue_queueing (s : State) (k : Slot) : ppsTimersDue s k = s.queueing (s.ppsExpiries k) := by
  unfold ppsTimersDue
  rw [enqueue_each, enqueueIf_queueing, queueing_queueing, State.ppsExpiries, List.countP_eq_length_filter]

theorem ppsTimersDue_each (l : List Slot) (s : State) : l.foldl ppsTimersDue s = s.queueing (l.flatMap s.ppsExpiries) := by
  induction l generalizing s with
  | nil => simp [State.queueing]
  | cons k l ih =>
    have hsame : (s.queueing (s.ppsExpiries k)).ppsExpiries = s.ppsExpiries := rfl
    rw [List.foldl_cons, ih, ppsTimersDue_queueing, queueing_queueing, hsame, List.flatMap_cons]

/-- The expiries of a local millisecond, and a PORT_LOOP's next packet. -/
def State.expiries (s : State) : List Instr :=
  dueIf (s.commandDue .identify) .identifyReplyLimit ++ dueIf (s.commandDue .readPage) .readPageReplyLimit
    ++ dueIf s.lkc.state.backoffDue .backoffExpiry ++ dueIf s.tmu.pulseDue .pulseTimerExpiry ++ dueIf s.tmu.replyDue .replyTimerExpiry
    ++ allSlots.flatMap s.ppsExpiries
    ++ dueIf s.tsu.packetDue .portLoopPacketSend ++ dueIf s.tsu.loopTimerDue .loopTimerExpiry ++ dueIf s.dsu.saveDue .saveTimerExpiry

theorem expiriesDue_queueing (s : State) : expiriesDue s = s.queueing s.expiries := by
  unfold expiriesDue
  simp only [enqueueIf_queueing, ppsTimersDue_each, queueing_queueing]
  rfl

/-- The nanosecond's advance, its crossings not queued yet. -/
def advanced (s : State) : State := s.updTmu fun t => { t.advance with crossed := s.nextCrossings }

/-- A local millisecond passes with the nanosecond. -/
def State.msPasses (s : State) : Bool := decide (1000000 ≤ s.subMs + 1)

/-- The nanosecond counted, nothing queued yet. -/
def ticked (s : State) : State :=
  if s.msPasses then countMs { advanced s with subMs := 0 } else { advanced s with subMs := s.subMs + 1 }

/-- The commands that the nanosecond queues. -/
def State.tickCommands (s : State) : List Instr :=
  s.nextCrossings.commands ++ ((if s.msPasses then (ticked s).expiries else [])
    ++ (dueIf ((ticked s).commandDue .loopOn) .loopOnLimit ++ dueIf ((ticked s).commandDue .loopOff) .loopOffLimit))

theorem ticked_ms {s : State} (h : 1000000 ≤ s.subMs + 1) : ticked s = countMs { advanced s with subMs := 0 } := if_pos (decide_eq_true h)

theorem ticked_ns {s : State} (h : ¬1000000 ≤ s.subMs + 1) : ticked s = { advanced s with subMs := s.subMs + 1 } :=
  if_neg (by simpa [State.msPasses] using h)

/-- What the nanosecond has queued before LOOP_ON and LOOP_OFF are looked at. -/
theorem tickWaits_queueing (s : State) :
    (if Config.nsPerMs ≤ s.subMs + 1 then expiriesDue (countMs { advanceTime s with subMs := 0 }) else { advanceTime s with subMs := s.subMs + 1 })
      = (ticked s).queueing (s.nextCrossings.commands ++ if s.msPasses then (ticked s).expiries else []) := by
  by_cases h : Config.nsPerMs ≤ s.subMs + 1
  · have hms : s.msPasses = true := decide_eq_true h
    have hcount : countMs { advanceTime s with subMs := 0 } = (ticked s).queueing s.nextCrossings.commands := by
      rw [ticked_ms h]
      rfl
    rw [if_pos h, if_pos hms, hcount, expiriesDue_queueing, queueing_queueing]
    rfl
  · have hms : ¬s.msPasses = true := fun hd => h (of_decide_eq_true hd)
    rw [if_neg h, if_neg hms, ticked_ns h, List.append_nil]
    rfl

theorem tick_queueing (s : State) : tick s = (ticked s).queueing s.tickCommands := by
  have hloops : ∀ u : State, (u.enqueueIf (u.commandDue .loopOn) .loopOnLimit).enqueueIf (u.commandDue .loopOff) .loopOffLimit
      = u.queueing (dueIf (u.commandDue .loopOn) .loopOnLimit ++ dueIf (u.commandDue .loopOff) .loopOffLimit) := fun u => by
    rw [enqueueIf_queueing, enqueueIf_queueing, queueing_queueing]
  have htick : tick s = _ := hloops
    (if Config.nsPerMs ≤ s.subMs + 1 then expiriesDue (countMs { advanceTime s with subMs := 0 }) else { advanceTime s with subMs := s.subMs + 1 })
  rw [htick, tickWaits_queueing, queueing_queueing, List.append_assoc]
  rfl

theorem step_empty {s : State} (h : s.pending = []) : step s = .next (tick s) := by
  simp only [step, h]

/-! ### Which commands these are -/

theorem mem_crossings (x : Crossings) (c : Instr) :
    c ∈ x.commands ↔ (∃ n, x.second = some n ∧ c = .siteSecondBoundary n) ∨ ∃ k n, x.pulses.get k = some n ∧ c = .ppsEmission k n := by
  simp [Crossings.commands, mem_allSlots, eq_comm]

theorem mem_ppsExpiries (s : State) (k : Slot) (c : Instr) :
    c ∈ s.ppsExpiries k ↔ ((s.tmu.pps.get k).widthDue = true ∧ c = .ppsPulseEnd k)
      ∨ ((∃ n ∈ (s.tmu.pps.get k).delayed, Config.ppsDelay ≤ n) ∧ c = .ppsDelayedEmission k) := by
  simp [State.ppsExpiries, List.mem_replicate, List.countP_eq_zero]

theorem mem_expiries (s : State) (c : Instr) :
    c ∈ s.expiries ↔ (s.commandDue .identify = true ∧ c = .identifyReplyLimit) ∨ (s.commandDue .readPage = true ∧ c = .readPageReplyLimit)
      ∨ (s.lkc.state.backoffDue = true ∧ c = .backoffExpiry) ∨ (s.tmu.pulseDue = true ∧ c = .pulseTimerExpiry)
      ∨ (s.tmu.replyDue = true ∧ c = .replyTimerExpiry) ∨ (∃ k, c ∈ s.ppsExpiries k) ∨ (s.tsu.packetDue = true ∧ c = .portLoopPacketSend)
      ∨ (s.tsu.loopTimerDue = true ∧ c = .loopTimerExpiry) ∨ (s.dsu.saveDue = true ∧ c = .saveTimerExpiry) := by
  simp [State.expiries, mem_allSlots]

theorem mem_tickCommands (s : State) (c : Instr) :
    c ∈ s.tickCommands ↔ c ∈ s.nextCrossings.commands ∨ (1000000 ≤ s.subMs + 1 ∧ c ∈ (ticked s).expiries)
      ∨ ((ticked s).commandDue .loopOn = true ∧ c = .loopOnLimit) ∨ ((ticked s).commandDue .loopOff = true ∧ c = .loopOffLimit) := by
  have hms : s.msPasses = true ↔ 1000000 ≤ s.subMs + 1 := decide_eq_true_iff
  by_cases h : 1000000 ≤ s.subMs + 1
  · simp [State.tickCommands, hms.mpr h, h]
  · simp [State.tickCommands, mt hms.mp h, h]

theorem tick_pending {s : State} (h : s.pending = []) : (tick s).pending = s.tickCommands := by
  have hticked : (ticked s).pending = [] := by
    unfold ticked
    split
    · exact h
    · exact h
  rw [tick_queueing, State.queueing, hticked, List.nil_append]

/-- The timers' expiries are no crossings and no end of a hold's wait. -/
theorem mem_tick_expiry {s : State} (h : s.pending = []) {c : Instr}
    (hc : (∀ n, c ≠ .siteSecondBoundary n) ∧ (∀ k n, c ≠ .ppsEmission k n) ∧ c ≠ .loopOnLimit ∧ c ≠ .loopOffLimit) :
    c ∈ (tick s).pending ↔ 1000000 ≤ s.subMs + 1 ∧ c ∈ (ticked s).expiries := by
  obtain ⟨hsecond, hpulse, hon, hoff⟩ := hc
  rw [tick_pending h, mem_tickCommands, mem_crossings]
  simp [hsecond, hpulse, hon, hoff]

end Sys2Proof.Machine

namespace Sys2Proof.Machine

open Sys2Proof

/-! ## What a nanosecond counts (R22, R39, R125, R139, R141, R168, R213) -/

/-- The advance leaves the timers of TMU. -/
theorem advance_timers (t : Tmu) :
    t.advance.pulseTimer = t.pulseTimer ∧ t.advance.exchange = t.exchange
      ∧ ∀ k, (t.advance.pps.get k).timer = (t.pps.get k).timer ∧ (t.advance.pps.get k).delayed = (t.pps.get k).delayed := by
  refine ⟨by simp [Tmu.advance], by simp [Tmu.advance], fun k => ?_⟩
  unfold Tmu.advance Tmu.carryTo
  dsimp only
  split
  · simp [Tmu.wrapSeconds]
  · exact ⟨rfl, rfl⟩

/-- What the nanosecond leaves where no local millisecond passes. -/
theorem ticked_ns_stands {s : State} (h : ¬1000000 ≤ s.subMs + 1) :
    (ticked s).subMs = s.subMs + 1 ∧ (ticked s).lkc = s.lkc ∧ (ticked s).tsu = s.tsu ∧ (ticked s).dsu = s.dsu
      ∧ (ticked s).tmu.pulseTimer = s.tmu.pulseTimer ∧ (ticked s).tmu.exchange = s.tmu.exchange
      ∧ ∀ k, ((ticked s).tmu.pps.get k).timer = (s.tmu.pps.get k).timer ∧ ((ticked s).tmu.pps.get k).delayed = (s.tmu.pps.get k).delayed := by
  obtain ⟨hpulse, hexchange, hpps⟩ := advance_timers s.tmu
  rw [ticked_ns h]
  exact ⟨rfl, rfl, rfl, rfl, hpulse, hexchange, hpps⟩

/-- What it counts where one does. -/
theorem ticked_ms_counts {s : State} (h : 1000000 ≤ s.subMs + 1) :
    (ticked s).subMs = 0 ∧ (ticked s).lkc = s.lkc.tickCommand.tickBackoff ∧ (ticked s).tsu = s.tsu.tickMs ∧ (ticked s).dsu = s.dsu.tickMs
      ∧ (ticked s).tmu.pulseTimer = s.tmu.pulseTimer.map (fun n => min 1100 (n + 1))
      ∧ (ticked s).tmu.exchange = s.tmu.exchange.map (fun x =>
          { x with sent := x.sent.map fun e => { e with timer := min 50 (e.timer + 1) } })
      ∧ ∀ k, ((ticked s).tmu.pps.get k).timer = (s.tmu.pps.get k).timer.map (fun n => min 100 (n + 1))
          ∧ ((ticked s).tmu.pps.get k).delayed = (s.tmu.pps.get k).delayed.map (fun n => min 1 (n + 1)) := by
  obtain ⟨hpulse, hexchange, hpps⟩ := advance_timers s.tmu
  rw [ticked_ms h]
  refine ⟨rfl, rfl, rfl, rfl, ?_, ?_, fun k => ?_⟩
  · change s.tmu.advance.pulseTimer.map _ = _
    rw [hpulse]
    rfl
  · change s.tmu.advance.exchange.map _ = _
    rw [hexchange]
    rfl
  · change ((s.tmu.advance.pps.map PpsGen.tick).get k).timer = _ ∧ ((s.tmu.advance.pps.map PpsGen.tick).get k).delayed = _
    rw [PerSlot.get_map, PpsGen.tick, (hpps k).1, (hpps k).2]
    exact ⟨rfl, rfl⟩

theorem tickCommand_outstanding (l : Lkc) :
    (l.tickCommand.tickBackoff).outstanding
      = l.outstanding.map fun o => if o.cmd = .identify ∨ o.cmd = .readPage then { o with elapsed := min o.limit (o.elapsed + 1) } else o := by
  unfold Lkc.tickBackoff
  split <;> rfl

theorem tickBackoff_lost {l : Lkc} {n : Nat} (h : l.state = .lost n) : l.tickCommand.tickBackoff.state = .lost (min 1000 (n + 1)) := by
  have hstate : l.tickCommand.state = .lost n := h
  simp only [Lkc.tickBackoff, hstate, Config.backoffLimit]

theorem tickBackoff_other {l : Lkc} (h : ∀ n, l.state ≠ .lost n) : l.tickCommand.tickBackoff.state = l.state := by
  unfold Lkc.tickBackoff
  split
  · next n hn => exact absurd hn (h n)
  · rfl

/-! ## The timers that run out -/

theorem commandDue_iff (s : State) (c : OduCommand) :
    s.commandDue c = true ↔ ∃ o, s.lkc.outstanding = some o ∧ o.cmd = c ∧ o.limit ≤ o.elapsed := by
  cases ho : s.lkc.outstanding with
  | none => simp [State.commandDue, ho]
  | some o => simp [State.commandDue, ho]

/-- A discovery command waits by local milliseconds (R22). -/
theorem discoveryDue_ticked {s : State} (h : 1000000 ≤ s.subMs + 1) {c : OduCommand} (hc : c = .identify ∨ c = .readPage) :
    (ticked s).commandDue c = true ↔ ∃ o, s.lkc.outstanding = some o ∧ o.cmd = c ∧ o.limit ≤ o.elapsed + 1 := by
  obtain ⟨-, hlkc, -⟩ := ticked_ms_counts h
  rw [commandDue_iff, hlkc, tickCommand_outstanding]
  cases ho : s.lkc.outstanding with
  | none => simp
  | some o =>
    by_cases hdisc : o.cmd = .identify ∨ o.cmd = .readPage
    · simp only [Option.map_some, if_pos hdisc, Option.some.injEq, exists_eq_left']
      refine and_congr_right fun _ => ?_
      omega
    · have hne : o.cmd ≠ c := fun h => hdisc (h ▸ hc)
      simp [hdisc, hne]

/-- LOOP_ON and LOOP_OFF wait by air frames. -/
theorem holdDue_ticked (s : State) {c : OduCommand} (hc : c = .loopOn ∨ c = .loopOff) :
    (ticked s).commandDue c = true ↔ ∃ o, s.lkc.outstanding = some o ∧ o.cmd = c ∧ o.limit ≤ o.elapsed := by
  rw [commandDue_iff]
  by_cases h : 1000000 ≤ s.subMs + 1
  · obtain ⟨-, hlkc, -⟩ := ticked_ms_counts h
    rw [hlkc, tickCommand_outstanding]
    cases ho : s.lkc.outstanding with
    | none => simp
    | some o =>
      by_cases hdisc : o.cmd = .identify ∨ o.cmd = .readPage
      · have hne : o.cmd ≠ c := by
          rintro rfl
          obtain h | h := hdisc <;> rw [h] at hc <;> simp at hc
        simp [hdisc, hne]
      · simp [hdisc]
  · obtain ⟨-, hlkc, -⟩ := ticked_ns_stands h
    rw [hlkc]

theorem backoffDue_ticked {s : State} (h : 1000000 ≤ s.subMs + 1) :
    (ticked s).lkc.state.backoffDue = true ↔ ∃ n, s.lkc.state = .lost n ∧ 1000 ≤ n + 1 := by
  obtain ⟨-, hlkc, -⟩ := ticked_ms_counts h
  rw [hlkc, backoffDue_iff]
  by_cases hl : ∃ n, s.lkc.state = .lost n
  · obtain ⟨n, hn⟩ := hl
    rw [tickBackoff_lost hn, hn]
    simp only [LinkState.lost.injEq, exists_eq_left']
    omega
  · rw [tickBackoff_other fun n hn => hl ⟨n, hn⟩]
    exact ⟨fun ⟨n, hn, _⟩ => absurd ⟨n, hn⟩ hl, fun ⟨n, hn, _⟩ => absurd ⟨n, hn⟩ hl⟩

theorem pulseDue_ticked {s : State} (h : 1000000 ≤ s.subMs + 1) :
    (ticked s).tmu.pulseDue = true ↔ ∃ n, s.tmu.pulseTimer = some n ∧ 1100 ≤ n + 1 := by
  obtain ⟨-, -, -, -, hpulse, -⟩ := ticked_ms_counts h
  rw [Tmu.pulseDue, hpulse]
  cases s.tmu.pulseTimer <;> simp [Config.pulseLimit]

theorem replyDue_ticked {s : State} (h : 1000000 ≤ s.subMs + 1) :
    (ticked s).tmu.replyDue = true ↔ ∃ x e, s.tmu.exchange = some x ∧ x.sent = some e ∧ 50 ≤ e.timer + 1 := by
  obtain ⟨-, -, -, -, -, hexchange, -⟩ := ticked_ms_counts h
  rw [Tmu.replyDue, hexchange]
  cases s.tmu.exchange with
  | none => simp
  | some x => cases hx : x.sent <;> simp [hx, Config.replyLimit]

theorem ppsDue_ticked {s : State} (h : 1000000 ≤ s.subMs + 1) (k : Slot) :
    (((ticked s).tmu.pps.get k).widthDue = true ↔ ∃ w, (s.tmu.pps.get k).timer = some w ∧ 100 ≤ w + 1)
      ∧ ((∃ n ∈ ((ticked s).tmu.pps.get k).delayed, Config.ppsDelay ≤ n) ↔ (s.tmu.pps.get k).delayed ≠ [])
      ∧ ((ticked s).tmu.pps.get k).delayed.countP (fun n => decide (Config.ppsDelay ≤ n)) = (s.tmu.pps.get k).delayed.length := by
  obtain ⟨-, -, -, -, -, -, hpps⟩ := ticked_ms_counts h
  obtain ⟨htimer, hdelayed⟩ := hpps k
  refine ⟨?_, ?_, ?_⟩
  · rw [PpsGen.widthDue, htimer]
    cases (s.tmu.pps.get k).timer <;> simp [Config.ppsWidth]
  · rw [hdelayed]
    cases (s.tmu.pps.get k).delayed <;> simp [Config.ppsDelay]
  · rw [hdelayed, List.countP_map, List.countP_eq_length.mpr]
    simp [Config.ppsDelay]

theorem tickMs_port {t : Tsu} {o : Order} {p : PortLoopProgress} (h : t.running = some ⟨o, .portLoop p⟩) :
    t.tickMs.running = some ⟨o, .portLoop { p with timer := min 2000 (p.timer + 1) }⟩ := by
  simp only [Tsu.tickMs, h, Config.portLoopLimit]

theorem tickMs_other {t : Tsu} (h : ∀ o p, t.running ≠ some ⟨o, .portLoop p⟩) : t.tickMs = t := by
  unfold Tsu.tickMs
  split
  · next o p hr => exact absurd hr (h o p)
  · rfl

theorem packetDue_iff (t : Tsu) :
    t.packetDue = true
      ↔ ∃ id who k n len p, t.running = some ⟨⟨id, who, .portLoop k n len⟩, .portLoop p⟩ ∧ p.sent < n ∧ p.sent < p.timer := by
  constructor
  · intro h
    unfold Tsu.packetDue at h
    split at h
    · next id who k n len p hr => exact ⟨id, who, k, n, len, p, hr, of_decide_eq_true h⟩
    · cases h
  · rintro ⟨id, who, k, n, len, p, hr, hdue⟩
    simp only [Tsu.packetDue, hr]
    exact decide_eq_true hdue

theorem loopTimerDue_iff (t : Tsu) : t.loopTimerDue = true ↔ ∃ o p, t.running = some ⟨o, .portLoop p⟩ ∧ 2000 ≤ p.timer := by
  constructor
  · intro h
    unfold Tsu.loopTimerDue at h
    split at h
    · next o p hr => exact ⟨o, p, hr, of_decide_eq_true h⟩
    · cases h
  · rintro ⟨o, p, hr, hdue⟩
    simp only [Tsu.loopTimerDue, hr]
    exact decide_eq_true hdue

theorem packetDue_ticked {s : State} (h : 1000000 ≤ s.subMs + 1) :
    (ticked s).tsu.packetDue = true
      ↔ ∃ id who k n len p, s.tsu.running = some ⟨⟨id, who, .portLoop k n len⟩, .portLoop p⟩ ∧ p.sent < n ∧ p.sent < min 2000 (p.timer + 1) := by
  obtain ⟨-, -, htsu, -⟩ := ticked_ms_counts h
  rw [htsu, packetDue_iff]
  by_cases hp : ∃ o p, s.tsu.running = some ⟨o, .portLoop p⟩
  · obtain ⟨⟨id, who, test⟩, p, hr⟩ := hp
    rw [tickMs_port hr, hr]
    cases test with
    | portLoop k n len => simp
    | airPattern | linkLoop | timeCompare => simp
  · rw [tickMs_other fun o p hr => hp ⟨o, p, hr⟩]
    exact ⟨fun ⟨_, _, _, _, _, p, hr, _⟩ => absurd ⟨_, p, hr⟩ hp, fun ⟨_, _, _, _, _, p, hr, _⟩ => absurd ⟨_, p, hr⟩ hp⟩

theorem loopTimerDue_ticked {s : State} (h : 1000000 ≤ s.subMs + 1) :
    (ticked s).tsu.loopTimerDue = true ↔ ∃ o p, s.tsu.running = some ⟨o, .portLoop p⟩ ∧ 2000 ≤ p.timer + 1 := by
  obtain ⟨-, -, htsu, -⟩ := ticked_ms_counts h
  rw [htsu, loopTimerDue_iff]
  by_cases hp : ∃ o p, s.tsu.running = some ⟨o, .portLoop p⟩
  · obtain ⟨o, p, hr⟩ := hp
    rw [tickMs_port hr, hr]
    refine ⟨fun ⟨_, _, hr', hdue⟩ => ?_, fun ⟨_, _, hr', hdue⟩ => ⟨o, _, rfl, ?_⟩⟩
    · cases hr'
      exact ⟨o, p, rfl, le_trans hdue (min_le_right _ _)⟩
    · cases hr'
      exact le_min (le_refl _) hdue
  · rw [tickMs_other fun o p hr => hp ⟨o, p, hr⟩]
    exact ⟨fun ⟨_, p, hr, _⟩ => absurd ⟨_, p, hr⟩ hp, fun ⟨_, p, hr, _⟩ => absurd ⟨_, p, hr⟩ hp⟩

theorem saveDue_ticked {s : State} (h : 1000000 ≤ s.subMs + 1) :
    (ticked s).dsu.saveDue = true ↔ ∃ v, s.dsu.save = some v ∧ 3000 ≤ v.timer + 1 := by
  obtain ⟨-, -, -, hdsu, -⟩ := ticked_ms_counts h
  rw [hdsu, Dsu.saveDue, Dsu.tickMs]
  cases s.dsu.save <;> simp [Config.saveLimit]

end Sys2Proof.Machine

namespace Sys2Proof.Machine

open Sys2Proof

/-! ## The crossings of the advance (R121, R122, R125) -/

theorem ticked_time (s : State) :
    (ticked s).tmu.crossed = s.nextCrossings ∧ (ticked s).tmu.site = s.tmu.advance.site ∧ (ticked s).scu = s.scu := by
  unfold ticked
  split
  · exact ⟨rfl, rfl, rfl⟩
  · exact ⟨rfl, rfl, rfl⟩

/-- The second that site time enters. -/
theorem ticked_second (s : State) (n : Nat) :
    (ticked s).tmu.crossed.second = some n ↔ (ticked s).tmu.site.sec = n ∧ s.tmu.site.sec ≠ n := by
  obtain ⟨hcrossed, hsite, -⟩ := ticked_time s
  have hsecond : s.nextCrossings.second = if s.tmu.advance.site.sec = s.tmu.site.sec then none else some s.tmu.advance.site.sec := rfl
  rw [hcrossed, hsite, hsecond]
  split
  · next h =>
    rw [h]
    simp
  · next h =>
    rw [Option.some.injEq]
    exact ⟨fun hn => ⟨hn, fun hs => h (hn.trans hs.symm)⟩, And.left⟩

/-- Site time goes on by 0, 1 or 2 ns (R121). -/
theorem nextNs_range {t : Tmu} (hb : t.ratesBounded) (hr : t.residue.natAbs < 256000000000) : 0 ≤ t.nextNs.1 ∧ t.nextNs.1 ≤ 2 := by
  obtain ⟨hlow, hhigh, -⟩ := hb
  have hgain : t.nextNs.1 = 1 - (t.residue + t.y).tdiv 256000000000 := rfl
  have habs : ((t.residue + t.y).tdiv 256000000000).natAbs = (t.residue + t.y).natAbs / 256000000000 := Int.natAbs_tdiv _ _
  rw [hgain]
  omega

theorem timeNs_timeOfNs {n : Int} (h0 : 0 ≤ n) (hn : n < 281474976710656 * 1000000000) : timeNs (timeOfNs n) = n := by
  have hmod : n % ((Config.secondsModulus * Config.nsPerSecond : Nat) : Int) = n :=
    Int.emod_eq_of_lt h0 (by simpa [Config.secondsModulus, Config.nsPerSecond] using hn)
  have htime : timeOfNs n = ⟨n.toNat / 1000000000, n.toNat % 1000000000⟩ := by
    rw [timeOfNs, hmod]
    rfl
  rw [htime]
  change ((n.toNat / 1000000000 : Nat) : Int) * 1000000000 + ((n.toNat % 1000000000 : Nat) : Int) = n
  omega

/-- Short of the wrap site time goes on by the gain. -/
theorem advance_timeNs {t : Tmu} (hb : t.ratesBounded) (hr : t.residue.natAbs < 256000000000)
    (hn : timeNs t.site + 2 < 281474976710656 * 1000000000) : timeNs t.advance.site = timeNs t.site + t.nextNs.1 := by
  obtain ⟨h0, h2⟩ := nextNs_range hb hr
  have hpos : 0 ≤ timeNs t.site := by
    unfold timeNs
    omega
  have hsite : t.advance.site = timeOfNs (timeNs t.site + t.nextNs.1) := by
    unfold Tmu.advance Tmu.carryTo
    dsimp only
    split <;> rfl
  rw [hsite, timeNs_timeOfNs (by omega) (by omega)]

/-- The second that a slot's shifted time enters, short of the wrap. -/
theorem ticked_pulse {s : State} (hb : s.ratesBounded) (hr : s.tmu.residue.natAbs < 256000000000)
    (hn : timeNs s.tmu.site + 2 < 281474976710656 * 1000000000) (k : Slot) (n : Int) :
    (ticked s).tmu.crossed.pulses.get k = some n
      ↔ s.scu.tenants.isSome = true ∧ (ticked s).shiftedSecond k = n ∧ s.shiftedSecond k < n := by
  obtain ⟨hcrossed, hsite, hscu⟩ := ticked_time s
  have htime := advance_timeNs hb hr hn
  have hshifted : (ticked s).shiftedSecond k = (timeNs s.tmu.advance.site + s.ppsOffset k) / 1000000000 := by
    rw [State.shiftedSecond, hsite, State.ppsOffset, State.tenant, hscu]
    rfl
  have hpulse : s.nextCrossings.pulses.get k = if s.pulseCrosses k then some ((ticked s).shiftedSecond k) else none := by
    rw [hshifted]
    exact PerSlot.get_ofFn _ k
  have htenant : (s.tenant k).isSome = s.scu.tenants.isSome := by simp [State.tenant]
  rw [hcrossed, hpulse, hshifted, State.pulseCrosses, htenant, ← htime]
  split
  · next h =>
    rw [Bool.and_eq_true, decide_eq_true_iff] at h
    rw [Option.some.injEq]
    exact ⟨fun hn => ⟨h.1, hn, hn ▸ h.2⟩, fun hn => hn.2.1⟩
  · next h =>
    rw [Bool.and_eq_true, decide_eq_true_iff] at h
    exact ⟨fun hn => (nomatch hn), fun ⟨hsome, hn, hlt⟩ => absurd ⟨hsome, hn ▸ hlt⟩ h⟩

/-! ## The pulses that have waited their delay (R125) -/

theorem count_ppsExpiries (s : State) (j k : Slot) :
    (s.ppsExpiries j).count (.ppsDelayedEmission k)
      = if j = k then (s.tmu.pps.get k).delayed.countP (fun n => decide (Config.ppsDelay ≤ n)) else 0 := by
  rw [State.ppsExpiries, List.count_append, count_dueIf_ne (by simp), Nat.zero_add, List.count_replicate]
  by_cases h : j = k
  · simp [h]
  · simp [h]

/-- One expiry for each pulse that waits its delay. -/
theorem count_delayed {s : State} (h : 1000000 ≤ s.subMs + 1) (k : Slot) :
    s.tickCommands.count (.ppsDelayedEmission k) = (s.tmu.pps.get k).delayed.length := by
  have hcrossings : s.nextCrossings.commands.count (.ppsDelayedEmission k) = 0 := List.count_eq_zero.mpr (by simp [mem_crossings])
  have hms : s.msPasses = true := decide_eq_true h
  have hslots : (allSlots.flatMap (ticked s).ppsExpiries).count (.ppsDelayedEmission k) = (s.tmu.pps.get k).delayed.length := by
    obtain ⟨-, -, hall⟩ := ppsDue_ticked h k
    rw [List.count_flatMap, ← hall]
    simp only [Function.comp_def, count_ppsExpiries]
    fin_cases k <;> simp [allSlots]
  simp only [State.tickCommands, if_pos hms, State.expiries, List.count_append, hcrossings, hslots]
  simp [count_dueIf_ne]

/-! ## The obligation -/

/-- Settles O3: each timer and each crossing by its place among the commands the nanosecond queues. -/
theorem localTimersRunOut : Obligations.LocalTimersRunOut := by
  unfold Obligations.LocalTimersRunOut
  intro s hempty
  have htick := tick_queueing s
  have hexpiry : ∀ {c : Instr} {due : Prop},
      (∀ n, c ≠ .siteSecondBoundary n) ∧ (∀ k n, c ≠ .ppsEmission k n) ∧ c ≠ .loopOnLimit ∧ c ≠ .loopOffLimit →
        (1000000 ≤ s.subMs + 1 → (c ∈ (ticked s).expiries ↔ due)) → (c ∈ (tick s).pending ↔ 1000000 ≤ s.subMs + 1 ∧ due) := fun hc hdue => by
    rw [mem_tick_expiry hempty hc]
    exact and_congr_right hdue
  refine ⟨tick s, step_empty hempty, ⟨fun hms => ?_, fun hms => ?_, ?_, ?_, ?_, ?_, ?_, fun k => ⟨?_, ?_, fun hms => ?_⟩, ?_, ?_, ?_⟩, ?_, ?_,
    fun n => ?_, fun n => ?_, fun k n => ?_, fun hb hwf hr hn k n => ?_⟩
  · rw [htick]
    exact ticked_ns_stands hms
  · obtain ⟨hsub, hlkc, htsu, hdsu, hpulse, hexchange, hpps⟩ := ticked_ms_counts hms
    rw [htick]
    refine ⟨hsub, fun o ho hc => ?_, fun o ho hc => ?_, fun n hl => ?_, hpulse, fun x e hx he => ?_, fun o p hrun => ?_, ?_, hpps⟩
    · change (ticked s).lkc.outstanding = _
      rw [hlkc, tickCommand_outstanding, ho, Option.map_some, if_pos hc]
    · change (ticked s).lkc.outstanding = _
      rw [hlkc, tickCommand_outstanding, ho, Option.map_some, if_neg]
      obtain hc | hc := hc <;> simp [hc]
    · change (ticked s).lkc.state = _
      rw [hlkc, tickBackoff_lost hl]
    · change (ticked s).tmu.exchange = _
      rw [hexchange, hx, Option.map_some, he, Option.map_some]
    · change (ticked s).tsu.running = _
      rw [htsu, tickMs_port hrun]
    · change (ticked s).dsu.save = _
      rw [hdsu]
      rfl
  · exact hexpiry (by simp) fun hms => by simp [mem_expiries, mem_ppsExpiries, discoveryDue_ticked hms]
  · exact hexpiry (by simp) fun hms => by simp [mem_expiries, mem_ppsExpiries, discoveryDue_ticked hms]
  · exact hexpiry (by simp) fun hms => by simp [mem_expiries, mem_ppsExpiries, backoffDue_ticked hms]
  · exact hexpiry (by simp) fun hms => by simp [mem_expiries, mem_ppsExpiries, pulseDue_ticked hms]
  · exact hexpiry (by simp) fun hms => by simp [mem_expiries, mem_ppsExpiries, replyDue_ticked hms]
  · exact hexpiry (by simp) fun hms => by simp [mem_expiries, mem_ppsExpiries, (ppsDue_ticked hms k).1]
  · exact hexpiry (by simp) fun hms => by simp [mem_expiries, mem_ppsExpiries, (ppsDue_ticked hms k).2.1]
  · rw [tick_pending hempty, count_delayed hms]
  · exact hexpiry (by simp) fun hms => by simp [mem_expiries, mem_ppsExpiries, packetDue_ticked hms]
  · exact hexpiry (by simp) fun hms => by simp [mem_expiries, mem_ppsExpiries, loopTimerDue_ticked hms]
  · exact hexpiry (by simp) fun hms => by simp [mem_expiries, mem_ppsExpiries, saveDue_ticked hms]
  · rw [tick_pending hempty, mem_tickCommands]
    simp [mem_crossings, mem_expiries, mem_ppsExpiries, holdDue_ticked]
  · rw [tick_pending hempty, mem_tickCommands]
    simp [mem_crossings, mem_expiries, mem_ppsExpiries, holdDue_ticked]
  · rw [tick_pending hempty, mem_tickCommands, htick]
    change _ ↔ (ticked s).tmu.crossed.second = some n
    simp [mem_crossings, mem_expiries, mem_ppsExpiries, (ticked_time s).1]
  · rw [htick]
    exact ticked_second s n
  · rw [tick_pending hempty, mem_tickCommands, htick]
    change _ ↔ (ticked s).tmu.crossed.pulses.get k = some n
    simp [mem_crossings, mem_expiries, mem_ppsExpiries, (ticked_time s).1]
  · rw [htick]
    exact ticked_pulse hb hr hn k n

end Sys2Proof.Machine

namespace Sys2Proof.Machine

open Sys2Proof

/-! ## The rungs of the ladder in force -/

theorem rungs_of_ladder {s : State} {l : Ladder} (h : s.lkc.ladder = some l) : s.rungs = l.rungs := by
  simp [State.rungs, h]

theorem ceilingInForce_of_ladder {s : State} {l : Ladder} (h : s.lkc.ladder = some l) :
    s.ceilingInForce = some (min s.lkc.ceiling (l.rungs.length - 1)) := by
  simp [State.ceilingInForce, h]

theorem aboveCeiling_iff {s : State} {l : Ladder} (h : s.lkc.ladder = some l) (r : Nat) :
    s.aboveCeiling r = true ↔ min s.lkc.ceiling (l.rungs.length - 1) < r := by
  rw [State.aboveCeiling, ceilingInForce_of_ladder h]
  exact decide_eq_true_iff

/-! ## The target of a down decision (R52) -/

theorem downTarget_le (s : State) (m : Int) (r : Nat) : s.downTarget m r ≤ r - 1 := by
  induction r with
  | zero => exact Nat.le_refl 0
  | succ r ih =>
    rw [State.downTarget]
    split <;> omega

/-- A target above rung 0 is at or above its down threshold. -/
theorem not_belowDown_downTarget {s : State} {m : Int} {r : Nat} (hpos : 0 < s.downTarget m r) :
    ¬s.belowDown (s.downTarget m r) m = true := by
  induction r with
  | zero => exact absurd hpos (Nat.lt_irrefl 0)
  | succ r ih =>
    rw [State.downTarget] at hpos ⊢
    split at hpos
    · next hbelow =>
      rw [if_pos hbelow]
      exact ih hpos
    · next hbelow =>
      rw [if_neg hbelow]
      exact hbelow

/-- Every rung passed over on the way down to the target is one whose down threshold the margin is below. -/
theorem belowDown_above_downTarget {s : State} {m : Int} {r i : Nat} (hi : s.downTarget m r < i) (hr : i < r) :
    s.belowDown i m = true := by
  induction r with
  | zero => exact absurd hr (Nat.not_lt_zero i)
  | succ r ih =>
    rw [State.downTarget] at hi
    split at hi
    · next hbelow =>
      obtain rfl | hlt : i = r ∨ i < r := by omega
      · exact hbelow
      · exact ih hi hlt
    · omega

/-- A report that asks for a step down: below the down threshold of a rung above 0 (R52). -/
def State.asksDown (s : State) (m : Int) : Prop := s.belowDown s.lkc.rung m = true ∧ 0 < s.lkc.rung

theorem asksDown_iff {s : State} {l : Ladder} (h : s.lkc.ladder = some l) (m : Int) :
    s.asksDown m ↔ (∃ r, l.rungs[s.lkc.rung]? = some r ∧ m < r.down) ∧ 0 < s.lkc.rung := by
  rw [State.asksDown, belowDown_iff, rungs_of_ladder h]

theorem asksDown_test (s : State) (m : Int) : (s.belowDown s.lkc.rung m && decide (0 < s.lkc.rung)) = true ↔ s.asksDown m := by
  simp [State.asksDown]

theorem marginRung_down {s : State} {m : Int} (h : s.asksDown m) : s.marginRung m = s.downTarget m s.lkc.rung :=
  if_pos ((asksDown_test s m).mpr h)

theorem marginRung_stays {s : State} {m : Int} (h : ¬s.asksDown m) : s.marginRung m = s.lkc.rung :=
  if_neg fun htest => h ((asksDown_test s m).mp htest)

theorem marginRung_lt {s : State} {m : Int} (h : s.asksDown m) : s.marginRung m < s.lkc.rung := by
  have hle := downTarget_le s m s.lkc.rung
  have hpos := h.2
  rw [marginRung_down h]
  omega

theorem marginRung_le (s : State) (m : Int) : s.marginRung m ≤ s.lkc.rung := by
  by_cases h : s.asksDown m
  · exact (marginRung_lt h).le
  · exact (marginRung_stays h).le

theorem marginRung_held {s : State} {l : Ladder} {m : Int} (hl : s.lkc.ladder = some l) (hrung : s.lkc.rung < l.rungs.length)
    (h : s.asksDown m) (hpos : 0 < s.marginRung m) : ∃ r, l.rungs[s.marginRung m]? = some r ∧ r.down ≤ m := by
  have hlt : s.marginRung m < l.rungs.length := (marginRung_lt h).trans hrung
  have hheld : ¬s.belowDown (s.marginRung m) m = true := by
    rw [marginRung_down h] at hpos ⊢
    exact not_belowDown_downTarget hpos
  rw [belowDown_iff, rungs_of_ladder hl] at hheld
  have hrow := List.getElem?_eq_getElem hlt
  exact ⟨_, hrow, Int.not_lt.mp fun hm => hheld ⟨_, hrow, hm⟩⟩

theorem marginRung_passed {s : State} {l : Ladder} {m : Int} {i : Nat} {r : Rung} (hl : s.lkc.ladder = some l) (h : s.asksDown m)
    (hi : s.marginRung m < i) (hlt : i < s.lkc.rung) (hrow : l.rungs[i]? = some r) : m < r.down := by
  rw [marginRung_down h] at hi
  obtain ⟨q, hq, hm⟩ := (belowDown_iff s i m).mp (belowDown_above_downTarget hi hlt)
  rw [rungs_of_ladder hl, hrow, Option.some.injEq] at hq
  rwa [hq]

/-! ## What a decision does to the link record (R54, R57) -/

/-- A rung decision writes the pending notice, the voided notice and the up-count alone. -/
def Lkc.onlyNotices (l t : Lkc) : Prop := t = { l with notice := t.notice, voided := t.voided, upCount := t.upCount }

theorem decideDown_onlyNotices (l : Lkc) (target : Nat) (cause : NoticeCause) : l.onlyNotices (l.decideDown target cause) := by
  unfold Lkc.decideDown
  repeat' split
  all_goals rfl

theorem stepUp_onlyNotices (l : Lkc) : l.onlyNotices l.stepUp := by
  unfold Lkc.stepUp
  split <;> rfl

theorem stepUp_atLimit {l : Lkc} (h : l.upLimit ≤ l.upCount + 1) :
    l.stepUp = { l with notice := some ⟨l.rung + 1, .marginUp, .decided⟩, upCount := 0 } := if_pos h

theorem stepUp_counts {l : Lkc} (h : l.upCount + 1 < l.upLimit) : l.stepUp = { l with upCount := l.upCount + 1 } :=
  if_neg (Nat.not_le.mpr h)

@[simp] theorem decideDown_upCount (l : Lkc) (target : Nat) (cause : NoticeCause) : (l.decideDown target cause).upCount = 0 := by
  unfold Lkc.decideDown
  repeat' split
  all_goals rfl

theorem decideDown_creates {l : Lkc} (h : l.notice = none) (target : Nat) (cause : NoticeCause) :
    (l.decideDown target cause).notice = some ⟨target, cause, .decided⟩ := by
  simp [Lkc.decideDown, h]

theorem decideDown_replaces {l : Lkc} {n : Notice} {target : Nat} (h : l.notice = some n) (hlt : target < n.target) (cause : NoticeCause) :
    (l.decideDown target cause).notice = some ⟨target, cause, .decided⟩
      ∧ (n.stage ≠ .decided → (l.decideDown target cause).voided = some n) := by
  cases hstage : n.stage <;> simp [Lkc.decideDown, h, hlt, hstage]

theorem decideDown_notTaken {l : Lkc} {n : Notice} {target : Nat} (h : l.notice = some n) (hle : n.target ≤ target) (cause : NoticeCause) :
    (l.decideDown target cause).notice = some n := by
  simp [Lkc.decideDown, h, Nat.not_lt.mpr hle]

/-- The rows of a down decision of a target and a cause, from the record before it to the record after it (R56, R57). -/
theorem decideDown_rows (l : Lkc) (target : Nat) (cause : NoticeCause) :
    (l.decideDown target cause).upCount = 0
      ∧ (l.notice = none → (l.decideDown target cause).notice = some ⟨target, cause, .decided⟩)
      ∧ ∀ n, l.notice = some n →
          (target < n.target → (l.decideDown target cause).notice = some ⟨target, cause, .decided⟩
            ∧ (n.stage ≠ .decided → (l.decideDown target cause).voided = some n))
          ∧ (n.target ≤ target → (l.decideDown target cause).notice = some n) :=
  ⟨decideDown_upCount l target cause, fun h => decideDown_creates h target cause,
    fun _ hn => ⟨fun hlt => decideDown_replaces hn hlt cause, fun hle => decideDown_notTaken hn hle cause⟩⟩

/-! ## The branches of the rung decision (R51 to R54) -/

theorem rungDecision_ceiling {s : State} {l : Ladder} {m : Int} (hl : s.lkc.ladder = some l)
    (h : min s.lkc.ceiling (l.rungs.length - 1) < s.lkc.headedFor) :
    rungDecision m s = s.updLkc fun r => r.decideDown (min (min s.lkc.ceiling (l.rungs.length - 1)) (s.marginRung m)) .ceiling := by
  rw [rungDecision, if_pos ((aboveCeiling_iff hl _).mpr h), ceilingInForce_of_ladder hl, Option.getD_some]

section underCeiling
variable {s : State} {l : Ladder} {m : Int} (hl : s.lkc.ladder = some l)
  (hunder : s.lkc.headedFor ≤ min s.lkc.ceiling (l.rungs.length - 1))
include hl hunder

theorem not_aboveCeiling_headedFor : ¬s.aboveCeiling s.lkc.headedFor = true := by
  rw [aboveCeiling_iff hl]
  exact Nat.not_lt.mpr hunder

theorem rungDecision_marginDown (h : s.asksDown m) : rungDecision m s = s.updLkc fun r => r.decideDown (s.marginRung m) .marginDown := by
  rw [rungDecision, if_neg (not_aboveCeiling_headedFor hl hunder), if_pos ((asksDown_test s m).mpr h), marginRung_down h]

theorem rungDecision_passes (h : ¬s.asksDown m) (hpass : s.upStepPasses m = true) : rungDecision m s = s.updLkc Lkc.stepUp := by
  rw [rungDecision, if_neg (not_aboveCeiling_headedFor hl hunder), if_neg (mt (asksDown_test s m).mp h), if_pos hpass]

theorem rungDecision_noPass (h : ¬s.asksDown m) (hpass : ¬s.upStepPasses m = true) :
    rungDecision m s = s.updLkc fun r => { r with upCount := 0 } := by
  rw [rungDecision, if_neg (not_aboveCeiling_headedFor hl hunder), if_neg (mt (asksDown_test s m).mp h), if_neg hpass]

end underCeiling

theorem upStepPasses_iff {s : State} {l : Ladder} (hl : s.lkc.ladder = some l) (m : Int) :
    s.upStepPasses m = true ↔ s.lkc.notice = none ∧ s.lkc.farFresh = true
      ∧ s.lkc.rung + 1 ≤ min s.lkc.ceiling (l.rungs.length - 1) ∧ ∃ r, l.rungs[s.lkc.rung + 1]? = some r ∧ r.up ≤ m := by
  have hceiling : (!s.aboveCeiling (s.lkc.rung + 1)) = true ↔ s.lkc.rung + 1 ≤ min s.lkc.ceiling (l.rungs.length - 1) := by
    rw [Bool.not_eq_true', ← Bool.not_eq_true, aboveCeiling_iff hl, Nat.not_lt]
  rw [State.upStepPasses, State.upThreshold, rungs_of_ladder hl]
  simp only [Bool.and_eq_true, Option.isNone_iff_eq_none, hceiling, and_assoc]
  cases l.rungs[s.lkc.rung + 1]? with
  | none => simp
  | some r => simp

theorem rungDecision_onlyNotices (m : Int) (s : State) :
    rungDecision m s = { s with lkc := (rungDecision m s).lkc } ∧ s.lkc.onlyNotices (rungDecision m s).lkc := by
  unfold rungDecision
  split
  · exact ⟨rfl, decideDown_onlyNotices ..⟩
  split
  · exact ⟨rfl, decideDown_onlyNotices ..⟩
  split
  · exact ⟨rfl, stepUp_onlyNotices _⟩
  · exact ⟨rfl, rfl⟩

/-! ## The obligation -/

/-- Settles O37, branch by branch of the decision; the target of both down decisions is the margin rung. -/
theorem rungDecisionRows : Obligations.RungDecisionRows := by
  unfold Obligations.RungDecisionRows
  intro m l s hl hrung ceiling headed below decided after
  have hbelow : s.asksDown m ↔ below := asksDown_iff hl m
  have hdecided : ∀ {target cause}, rungDecision m s = s.updLkc (fun r => r.decideDown target cause) → decided target cause := by
    intro target cause h
    have hlkc : (rungDecision m s).lkc = s.lkc.decideDown target cause := by rw [h, State.updLkc_lkc]
    simpa only [decided, hlkc] using decideDown_rows s.lkc target cause
  refine ⟨?_, ⟨s.marginRung m, marginRung_le s m, fun h => marginRung_lt (hbelow.mpr h),
    fun h hpos => marginRung_held hl hrung (hbelow.mpr h) hpos, fun h _ _ hi hlt hrow => marginRung_passed hl (hbelow.mpr h) hi hlt hrow,
    fun h => marginRung_stays (mt hbelow.mp h), fun h => hdecided (rungDecision_ceiling hl h),
    fun hunder h => hdecided (rungDecision_marginDown hl hunder (hbelow.mpr h))⟩, fun hunder h => ?_⟩
  · obtain ⟨hlkc, honly⟩ := rungDecision_onlyNotices m s
    rw [Lkc.onlyNotices] at honly
    exact hlkc.trans (congrArg (fun r => { s with lkc := r }) honly)
  · have hstays := mt hbelow.mp h
    have hpasses := upStepPasses_iff hl m
    refine ⟨fun hpass hlimit => ?_, fun hpass hlimit => ?_, fun hpass => rungDecision_noPass hl hunder hstays (mt hpasses.mp hpass)⟩
    · rw [rungDecision_passes hl hunder hstays (hpasses.mpr hpass), State.updLkc, stepUp_atLimit hlimit]
    · rw [rungDecision_passes hl hunder hstays (hpasses.mpr hpass), State.updLkc, stepUp_counts hlimit]

end Sys2Proof.Machine

/-! Ingress queues and egress delivery (chapter 4). -/

namespace Sys2Proof.Machine

open Sys2Proof

/-! ## Draining a grant (R69, R71) -/

/-- Without grant PB nothing is cut. -/
theorem drainQueue_zero (k : Slot) (q : List Packet) : drainQueue k q 0 = ⟨[], q, 0⟩ := by cases q <;> simp [drainQueue]

theorem drainQueue_left (k : Slot) (q : List Packet) (grant : Nat) : (drainQueue k q grant).left = grant - queuedPB q := by
  induction q generalizing grant with
  | nil => simp [drainQueue, queuedPB]
  | cons p rest ih =>
    rw [queuedPB_cons]
    unfold drainQueue
    split
    · next h => simp [h]
    · split
      · rw [ih]; omega
      · dsimp only; omega

theorem drainQueue_queued (k : Slot) (q : List Packet) (grant : Nat) :
    queuedPB (drainQueue k q grant).queue = queuedPB q - grant := by
  induction q generalizing grant with
  | nil => simp [drainQueue, queuedPB]
  | cons p rest ih =>
    unfold drainQueue
    split
    · next h => simp [h]
    · split
      · simp only [ih, queuedPB_cons]; omega
      · simp only [queuedPB_cons]; omega

/-- BULK is served from what EXPRESS leaves of the grant. -/
theorem drain_bulk (t : Traffic) (k : Slot) (grant : Nat) :
    (t.drain k grant).2.bulk = (drainQueue k t.bulk (grant - queuedPB t.express)).queue := by
  simp [Traffic.drain, drainQueue_left]

theorem drain_express_queued (t : Traffic) (k : Slot) (grant : Nat) :
    queuedPB (t.drain k grant).2.express = queuedPB t.express - grant := drainQueue_queued k t.express grant

theorem drain_backlog (t : Traffic) (k : Slot) (grant : Nat) : (t.drain k grant).2.backlog = t.backlog - grant := by
  rw [Traffic.backlog, drain_express_queued, drain_bulk, drainQueue_queued, Traffic.backlog]
  omega

theorem drain_bulk_of_short (t : Traffic) (k : Slot) {grant : Nat} (h : grant < queuedPB t.express) : (t.drain k grant).2.bulk = t.bulk := by
  rw [drain_bulk, Nat.sub_eq_zero_of_le h.le, drainQueue_zero]

/-- The segments cut are the grant's PB, or the whole backlog where that is less. -/
theorem drain_segments (t : Traffic) (k : Slot) (grant : Nat) : segmentPB (t.drain k grant).1 = min grant t.backlog := by
  have hexpress := drainQueue_segments k t.express grant
  have hbulk := drainQueue_segments k t.bulk (drainQueue k t.express grant).left
  have hleft := drainQueue_left k t.express grant
  have hend := drainQueue_left k t.bulk (drainQueue k t.express grant).left
  simp only [Traffic.drain, segmentPB_append, Traffic.backlog]
  omega

/-! ## The bytes of a packet's PB (R70) -/

/-- The PB of a packet byte by byte: zero past the packet's end. -/
theorem packetPB_eq_map (bytes : List Byte) (offset n : Nat) :
    packetPB bytes offset n = (List.range (64 * n)).map fun i => bytes.getD (64 * offset + i) 0 := by
  refine List.ext_getElem ?_ fun i _ hi => ?_
  · simp only [packetPB, Config.pbBytes, List.length_append, List.length_take, List.length_drop, List.length_replicate, List.length_map,
      List.length_range]
    omega
  · simp only [packetPB, Config.pbBytes, List.getElem_append, List.getElem_take, List.getElem_drop, List.getElem_replicate, List.getElem_map,
      List.getElem_range, List.length_take, List.length_drop]
    split
    · rw [List.getD_eq_getElem]
    · next h =>
      have hpast : bytes.length ≤ 64 * offset + i := by
        rw [List.length_map, List.length_range] at hi
        omega
      rw [List.getD_eq_default _ _ hpast]

/-- The PB of two cuts in a row are the PB of the one cut they make together. -/
theorem packetPB_add (bytes : List Byte) (offset m n : Nat) :
    packetPB bytes offset (m + n) = packetPB bytes offset m ++ packetPB bytes (offset + m) n := by
  simp only [packetPB_eq_map, Nat.mul_add, List.range_add, List.map_append, List.map_map, Function.comp_def, Nat.add_assoc]

/-- A packet's PB without the pad are the packet. -/
theorem packetPB_take {bytes : List Byte} {n : Nat} (h : bytes.length ≤ 64 * n) : (packetPB bytes 0 n).take bytes.length = bytes := by
  simp [packetPB, Config.pbBytes, List.take_of_length_le h]

/-! ## Segments judged (R73, R74) -/

/-- The record with its partial discarded and the discard counted. -/
def Traffic.dropPartial (t : Traffic) : Traffic := { t with egress := none }.countEgress

theorem dropPartial_eq (t : Traffic) :
    t.dropPartial = { t with egress := none, egressDiscarded := min (t.egressDiscarded + 1) 4294967295 } := rfl

/-- A stray segment discards nothing but itself. -/
theorem countEgress_of_none {t : Traffic} (h : t.egress = none) : t.countEgress = t.dropPartial := by
  cases t
  cases h
  rfl

theorem discardEgress_of_some {t : Traffic} {q : EgressPartial} (h : t.egress = some q) : t.discardEgress = t.dropPartial := by
  rw [Traffic.discardEgress, h]
  rfl

section
variable {t : Traffic} {p : EgressPartial} {pad : Nat}

theorem conclude_over (h : 144 < p.held) (last : Bool) : t.conclude p last pad = (t.dropPartial, none) := if_pos h

theorem conclude_kept (h : p.held ≤ 144) : t.conclude p false pad = ({ t with egress := some p }, none) := if_neg h.not_gt

theorem conclude_short (h : p.held ≤ 144) (hsize : 64 * p.held - pad < 64) : t.conclude p true pad = (t.dropPartial, none) :=
  (if_neg h.not_gt).trans (if_pos hsize)

theorem conclude_delivers (h : p.held ≤ 144) (hsize : 64 ≤ 64 * p.held - pad) :
    t.conclude p true pad = ({ t with egress := none }, some (p.bytes.take (64 * p.held - pad))) :=
  (if_neg h.not_gt).trans (if_neg hsize.not_gt)

end

section
variable {t : Traffic} {g : EgressSegment}

theorem take_stray (h : t.egress = none) (hoffset : 0 < g.offset) : t.take g = (t.dropPartial, none) := by
  simp [Traffic.take, h, Traffic.begin, hoffset.ne', countEgress_of_none h]

theorem take_begins (h : t.egress = none) (hoffset : g.offset = 0) : t.take g = t.conclude ⟨g.seq, g.length, g.data⟩ g.last g.pad := by
  simp [Traffic.take, h, Traffic.begin, hoffset]

theorem take_continues {q : EgressPartial} (h : t.egress = some q) (hseq : g.seq = q.seq) (hoffset : g.offset = q.held) :
    t.take g = t.conclude ⟨g.seq, q.held + g.length, q.bytes ++ g.data⟩ g.last g.pad := by
  simp [Traffic.take, h, hseq, hoffset]

/-- A segment that does not continue the partial is judged as with none, once the partial is discarded. -/
theorem take_breaks {q : EgressPartial} (h : t.egress = some q) (hother : g.seq ≠ q.seq ∨ g.offset ≠ q.held) :
    t.take g = t.dropPartial.take g := by
  have hnot : ¬(g.seq = q.seq ∧ g.offset = q.held) := fun hsame => hother.elim (· hsame.1) (· hsame.2)
  simp [Traffic.take, h, hnot, discardEgress_of_some h, dropPartial_eq]

theorem takeAll_single : t.takeAll [g] = ((t.take g).1, (t.take g).2.toList) := by simp [Traffic.takeAll]

theorem takeAll_cons (rest : List EgressSegment) :
    t.takeAll (g :: rest) = (((t.takeAll [g]).1.takeAll rest).1, (t.takeAll [g]).2 ++ ((t.takeAll [g]).1.takeAll rest).2) := by
  rw [takeAll_single]
  rfl

/-- R73 and R74 for a segment that leaves the slot a partial: the rows by the PB it holds, the last flag and the size less the pad. -/
theorem takeAll_concludes {held : Nat} {bytes : List Byte} (h : t.take g = t.conclude ⟨g.seq, held, bytes⟩ g.last g.pad) :
    (144 < held → t.takeAll [g] = (t.dropPartial, []))
      ∧ (held ≤ 144 → g.last = false → t.takeAll [g] = ({ t with egress := some ⟨g.seq, held, bytes⟩ }, []))
      ∧ (held ≤ 144 → g.last = true → 64 * held - g.pad < 64 → t.takeAll [g] = (t.dropPartial, []))
      ∧ (held ≤ 144 → g.last = true → 64 ≤ 64 * held - g.pad →
          t.takeAll [g] = ({ t with egress := none }, [bytes.take (64 * held - g.pad)])) := by
  rw [takeAll_single, h]
  refine ⟨fun hover => ?_, fun hfits hlast => ?_, fun hfits hlast hsize => ?_, fun hfits hlast hsize => ?_⟩
  · rw [conclude_over hover]; rfl
  · rw [hlast, conclude_kept hfits]; rfl
  · rw [hlast, conclude_short hfits hsize]; rfl
  · rw [hlast, conclude_delivers hfits hsize]; rfl

end

/-! ## A packet cut and reassembled (R70, R73, R74) -/

/-- A packet record that holds a packet of the port's form, none or some of it sent (R64, R65, R68). -/
structure Packet.Carries (p : Packet) : Prop where
  length_eq : p.length = p.bytes.length
  minLength : 64 ≤ p.length
  inPB : p.length ≤ 64 * p.total
  totalPB : p.total ≤ 144
  sent : p.remaining ≤ p.total

theorem newPacket_carries (seq : Nat) (c : IngressClass) {bytes : List Byte} (hmin : 64 ≤ bytes.length) (hmax : bytes.length ≤ 9216) :
    (newPacket seq c bytes).Carries := by
  refine ⟨rfl, hmin, ?_, ?_, le_refl _⟩ <;> simp only [newPacket, ceilPB, Config.pbBytes] <;> omega

/-- What the far end holds of a packet whose cut segments it has received. -/
def Packet.heldFar (p : Packet) : Option EgressPartial :=
  if p.total - p.remaining = 0 then none else some ⟨p.seq, p.total - p.remaining, packetPB p.bytes 0 (p.total - p.remaining)⟩

/-- The next cut of a packet grows what the far end holds of it. -/
theorem take_cutSegment {p : Packet} {t : Traffic} (he : t.egress = p.heldFar) (k : Slot) (n : Nat) :
    t.take (cutSegment k p n).received
      = t.conclude ⟨p.seq, p.total - p.remaining + n, packetPB p.bytes 0 (p.total - p.remaining + n)⟩
          (decide (n = p.remaining)) (if n = p.remaining then 64 * p.total - p.length else 0) := by
  have hpad : (cutSegment k p n).received.pad = if n = p.remaining then 64 * p.total - p.length else 0 := by
    simp only [Segment.received, cutSegment]
    split <;> rfl
  rw [Packet.heldFar] at he
  rw [← hpad]
  split at he
  · next hfirst =>
    rw [take_begins he hfirst]
    simp [Segment.received, cutSegment, hfirst]
  · rw [take_continues he rfl rfl, packetPB_add, Nat.zero_add]
    rfl

/-- The rest of a packet, cut into any segments and received in order, completes the packet. -/
theorem takeAll_cutInto (k : Slot) {cuts : List Nat} {p : Packet} {t : Traffic} (hp : p.Carries) (hrest : 0 < p.remaining)
    (hpos : ∀ n ∈ cuts, 0 < n) (hsum : cuts.sum = p.remaining) (he : t.egress = p.heldFar) :
    t.takeAll ((cutInto k p cuts).map Segment.received) = ({ t with egress := none }, [p.bytes]) := by
  induction cuts generalizing p t with
  | nil => exact absurd hsum hrest.ne
  | cons n rest ih =>
    obtain ⟨hlength, hmin, hinPB, htotal, hsent⟩ := hp
    rw [List.sum_cons] at hsum
    rw [cutInto, List.map_cons, takeAll_cons, takeAll_single, take_cutSegment he]
    by_cases hlast : n = p.remaining
    · have hnil : rest = [] := List.eq_nil_iff_forall_not_mem.mpr fun m hm => by
        have hm0 := hpos m (List.mem_cons_of_mem n hm)
        have hmsum := List.single_le_sum (fun _ _ => Nat.zero_le _) m hm
        omega
      have hall : p.total - p.remaining + n = p.total := by omega
      have hsize : 64 * p.total - (64 * p.total - p.length) = p.bytes.length := by omega
      rw [hall, if_pos hlast, decide_eq_true hlast, conclude_delivers htotal (show 64 ≤ 64 * p.total - (64 * p.total - p.length) by omega), hnil]
      simp only [hsize, packetPB_take (hlength ▸ hinPB)]
      rfl
    · have hn := hpos n List.mem_cons_self
      have hheld : p.total - (p.remaining - n) = p.total - p.remaining + n := by omega
      rw [decide_eq_false hlast, conclude_kept (show p.total - p.remaining + n ≤ 144 by omega)]
      dsimp only
      rw [ih (p := { p with remaining := p.remaining - n }) ⟨hlength, hmin, hinPB, htotal, (Nat.sub_le _ _).trans hsent⟩
        (show 0 < p.remaining - n by omega) (fun m hm => hpos m (List.mem_cons_of_mem n hm)) (show rest.sum = p.remaining - n by omega)
        (by rw [Packet.heldFar, if_neg (show p.total - (p.remaining - n) ≠ 0 by omega), hheld])]
      rfl

/-- A packet newly admitted, cut into any segments and received in order, is delivered once. -/
theorem takeAll_newPacket (k : Slot) (seq : Nat) (c : IngressClass) {bytes : List Byte} {cuts : List Nat} {t : Traffic}
    (hmin : 64 ≤ bytes.length) (hmax : bytes.length ≤ 9216) (hpos : ∀ n ∈ cuts, 0 < n) (hsum : cuts.sum = (bytes.length + 63) / 64)
    (he : t.egress = none) : t.takeAll ((cutInto k (newPacket seq c bytes) cuts).map Segment.received) = (t, [bytes]) := by
  have hrest : 0 < (newPacket seq c bytes).remaining := by simp only [newPacket, ceilPB, Config.pbBytes]; omega
  have hheld : t.egress = (newPacket seq c bytes).heldFar := by simpa [Packet.heldFar, newPacket] using he
  rw [takeAll_cutInto k (newPacket_carries seq c hmin hmax) hrest hpos hsum hheld, ← he]
  rfl

/-- Settles O47: the drain sums, the induction over the cuts, and R73's table row by row. -/
theorem packetsAreCutAndReassembled : Obligations.PacketsAreCutAndReassembled := by
  unfold Obligations.PacketsAreCutAndReassembled
  refine ⟨fun k t grant => ⟨drain_segments t k grant, ?_, ?_, drain_bulk_of_short t k, rfl, rfl, rfl⟩,
    fun k seq c bytes cuts t hmin hmax hpos hsum he => takeAll_newPacket k seq c hmin hmax hpos hsum he,
    fun t g rest => ⟨takeAll_cons rest, fun he hoffset => ?_, fun he hoffset => takeAll_concludes (take_begins he hoffset),
      fun q he => ⟨fun hseq hoffset => takeAll_concludes (take_continues he hseq hoffset), fun hother => ?_⟩⟩⟩
  · rw [drain_backlog]; omega
  · rw [drain_express_queued]; omega
  · rw [takeAll_single, take_stray he hoffset]; rfl
  · rw [takeAll_single, takeAll_single, take_breaks he hother]; rfl

end Sys2Proof.Machine

namespace Sys2Proof

/-- A value changed is the changed value put in its place. -/
theorem PerSlot.modify_eq_set {α : Type} (p : PerSlot α) (k : Slot) (f : α → α) : p.modify k f = p.set k (f (p.get k)) := by
  fin_cases k <;> rfl

end Sys2Proof

namespace Sys2Proof.Machine

open Sys2Proof

/-! ## A packet arrives (R65 to R68) -/

/-- R65's form of a packet. -/
theorem wellFormedPacket_iff (bytes : List Byte) (cut : Bool) :
    wellFormedPacket bytes cut = true ↔ 64 ≤ bytes.length ∧ bytes.length ≤ 9216 ∧ fcsOk bytes = true ∧ cut = false := by
  rw [wellFormedPacket, Bool.and_eq_true, Bool.and_eq_true, decide_eq_true_iff, Bool.not_eq_true', and_assoc, and_assoc]
  rfl

/-- R65's priority tag: its upper three bits are the priority. -/
theorem classify_eq (bytes : List Byte) :
    classify bytes
      = if bytes.getD 12 0 = 0x81 ∧ bytes.getD 13 0 = 0x00 ∧ 5 * 32 ≤ (bytes.getD 14 0).toNat then .express else .bulk := by
  simp only [classify, Nat.le_div_iff_mul_le (show 0 < 32 by decide)]

theorem fits_iff (t : Traffic) (c : IngressClass) (n : Nat) :
    t.fits c n = true ↔ queuedPB (t.queue c) + (n + 63) / 64 ≤ classLimit c := decide_eq_true_iff

theorem exec_packetArrival (k : Slot) (bytes : List Byte) (cut : Bool) (s : State) :
    exec (.packetArrival k bytes cut) s = .next (arrive k bytes cut s) := rfl

section
variable {k : Slot} {bytes : List Byte} {cut : Bool} {s : State}

theorem arrive_loading (h : s.scu.site = .loading) : arrive k bytes cut s = s := if_pos h

theorem dropMalformed_eq (k : Slot) (s : State) :
    dropMalformed k s = { s with tqm := s.tqm.set k { s.tqm.get k with malformed := satInc (s.tqm.get k).malformed } } := by
  rw [dropMalformed, State.updTqm, PerSlot.modify_eq_set]

/-- A packet of the wrong form, or on a port that is closed, is dropped (R65, R66). -/
theorem arrive_refused (hsite : s.scu.site ≠ .loading)
    (h : ¬wellFormedPacket bytes cut = true ∨ (s.slotVacant k = true ∨ s.loopSubject = some k)) :
    arrive k bytes cut s = dropMalformed k s := by
  rw [arrive, if_neg hsite]
  by_cases hform : wellFormedPacket bytes cut = true
  · have hclosed := h.resolve_left (not_not_intro hform)
    rw [if_neg (by simp [hform]), if_pos (by simpa using hclosed)]
  · rw [if_pos (by simpa using hform)]

/-- Any other is offered to its class queue (R67). -/
theorem arrive_offered (hsite : s.scu.site ≠ .loading) (hform : wellFormedPacket bytes cut = true)
    (hopen : ¬(s.slotVacant k = true ∨ s.loopSubject = some k)) : arrive k bytes cut s = offer k bytes s := by
  rw [arrive, if_neg hsite, if_neg (by simp [hform]), if_neg (by simpa using hopen)]

theorem offer_admitted {c : IngressClass} (hc : classify bytes = c) (h : (s.tqm.get k).fits c bytes.length = true) :
    offer k bytes s = { s with tqm := s.tqm.set k ((s.tqm.get k).addPacket c bytes) } := by
  rw [offer, hc, if_pos h, State.updTqm, PerSlot.modify_eq_set]

theorem offer_droppedFull {c : IngressClass} (hc : classify bytes = c) (h : ¬(s.tqm.get k).fits c bytes.length = true) :
    offer k bytes s
      = raiseIn .queueDrop k { s with tqm := s.tqm.set k { s.tqm.get k with droppedFull := satInc (s.tqm.get k).droppedFull } } := by
  rw [offer, hc, if_neg h, State.updTqm, PerSlot.modify_eq_set]

end

/-- Settles O46, one branch of the arrival after another. -/
theorem packetsAreAdmittedOrDropped : Obligations.PacketsAreAdmittedOrDropped := by
  unfold Obligations.PacketsAreAdmittedOrDropped
  intro k bytes cut s form closed express r pb packet admitted
  have hform : wellFormedPacket bytes cut = true ↔ form := wellFormedPacket_iff bytes cut
  have hexpress : express → classify bytes = .express := fun h => (classify_eq bytes).trans (if_pos h)
  have hbulk : ¬express → classify bytes = .bulk := fun h => (classify_eq bytes).trans (if_neg h)
  simp only [exec_packetArrival, Host.Outcome.next.injEq]
  refine ⟨arrive_loading, fun hsite h => ?_, fun hsite hf hopen hx hfits => ?_, fun hsite hf hopen hx hfits => ?_,
    fun hsite hf hopen hfull => ?_⟩
  · rw [arrive_refused hsite (h.imp_left (mt hform.mp)), dropMalformed_eq]
  · rw [arrive_offered hsite (hform.mpr hf) hopen, offer_admitted (hexpress hx) ((fits_iff r .express _).mpr hfits)]
    rfl
  · rw [arrive_offered hsite (hform.mpr hf) hopen, offer_admitted (hbulk hx) ((fits_iff r .bulk _).mpr hfits)]
    rfl
  · rw [arrive_offered hsite (hform.mpr hf) hopen]
    obtain ⟨hx, hover⟩ | ⟨hx, hover⟩ := hfull
    · exact offer_droppedFull (hexpress hx) (mt (fits_iff r .express _).mp hover.not_ge)
    · exact offer_droppedFull (hbulk hx) (mt (fits_iff r .bulk _).mp hover.not_ge)

end Sys2Proof.Machine

namespace Sys2Proof.Machine

open Sys2Proof

/-! ## SET_SLOT_STATE judged (R84, R85) -/

theorem exec_setSlotState {k : Slot} {ps : List Byte} {s : State} (h : s.mayAsk k (s.slotStateClass ps)) (tag : Byte) :
    exec (.setSlotState k tag ps) s = .next (conclude k tag (judgeSetSlotState k ps s) s) :=
  congrArg Host.Outcome.next (serve_mayAsk h tag _ (.inl rfl))

/-- The judgement with the list read and the records installed: slot 0, the state as it stands, the ceiling passed, and the change. -/
theorem judgeSetSlotState_eq {ps : List Byte} {j : Slot} {new : SlotState} {ts : PerSlot TenantRec} {s : State}
    (hps : slotStateParams ps = some (j.val, new)) (hts : s.scu.tenants = some ts) (k : Slot) :
    judgeSetSlotState k ps s
      = if j = 0 then refuse .badValue
        else if (ts.get j).state = new then taken [] (recordChanged k j s)
        else if (ts.get j).state = .vacant ∧ s.scu.ceiling < commitSum (ts.modify j fun r => { r with state := new }) then
          refuse .overcommit
        else taken [] (recordChanged k j (changeSlotState j (ts.get j).state new s)) := by
  have hold : s.slotState j = some (ts.get j).state := by simp [State.slotState, State.tenant, hts]
  rw [judgeSetSlotState, hps, withParams_some, slotOf_val, withParams_some, hold, withParams_some]
  simp only [State.withinCeiling, hts, decide_eq_false_iff_not, not_le]

/-- RECORD_CHANGED touches the events alone. -/
theorem recordChanged_blocks (k j : Slot) (s : State) :
    (recordChanged k j s).scu = s.scu ∧ (recordChanged k j s).lkc = s.lkc ∧ (recordChanged k j s).tqm = s.tqm
      ∧ (recordChanged k j s).gre = s.gre ∧ (recordChanged k j s).tmu = s.tmu ∧ (recordChanged k j s).tsu = s.tsu
      ∧ (recordChanged k j s).dsu = s.dsu := by
  unfold recordChanged
  split <;> simp

theorem pends_recordChanged {k j : Slot} (h : k ≠ j) (s : State) : (recordChanged k j s).pends j .recordChanged = true := by
  rw [recordChanged, if_neg h, pends_raiseIn]
  simp

/-! ## The change of slot state (R77, R85, R90, R127) -/

theorem mayEmit_iff {s : State} {ts : PerSlot TenantRec} (h : s.scu.tenants = some ts) (k : Slot) :
    s.mayEmit k = true ↔ (ts.get k).state = .enabled ∧ (ts.get k).ppsOn = true := by
  simp [State.mayEmit, State.slotEnabled, State.slotState, State.tenant, h]

/-- The pulses waiting their delay stay only where the slot may emit (R127). -/
theorem ppsFollow_tmu (k : Slot) (s : State) :
    (ppsFollow k s).tmu
      = { s.tmu with pps := if s.mayEmit k = true then s.tmu.pps else s.tmu.pps.modify k (fun g => { g with delayed := [] }) } := by
  unfold ppsFollow
  split
  · rfl
  · simp

/-- The state of the records, the queues and the fitness, before the lines and the PPS output follow it. -/
def stateWritten (j : Slot) (old new : SlotState) (s : State) : State :=
  let s1 := tqmSlotState j new (s.updTenant j fun r => { r with state := new })
  if new = .vacant then s1.updScu fun c => { c with fit := c.fit.set j true }
  else if old = .vacant then judgeFitness s1 j
  else s1

theorem changeSlotState_eq (j : Slot) (old new : SlotState) (s : State) :
    changeSlotState j old new s = ppsFollow j (recomputeInhibit (stateWritten j old new s)) := rfl

/-- The records and the queues written, the fitness judged; every other block stands. -/
theorem stateWritten_blocks (j : Slot) (old new : SlotState) (s : State) :
    (stateWritten j old new s).scu.tenants = s.scu.tenants.map (fun ts => ts.modify j fun r => { r with state := new })
      ∧ (stateWritten j old new s).scu.site = s.scu.site ∧ (stateWritten j old new s).tqm = (tqmSlotState j new s).tqm
      ∧ (stateWritten j old new s).tmu = s.tmu ∧ (stateWritten j old new s).gre = s.gre ∧ (stateWritten j old new s).lkc = s.lkc
      ∧ (stateWritten j old new s).tsu = s.tsu ∧ (stateWritten j old new s).dsu = s.dsu := by
  unfold stateWritten
  dsimp only
  (repeat' split) <;> simp [State.updTenant, tqmSlotState]

/-- The whole change leaves those blocks as the write did; the lines and the PPS output follow it. -/
theorem changeSlotState_blocks (j : Slot) (old new : SlotState) (s : State) :
    (changeSlotState j old new s).scu.tenants = s.scu.tenants.map (fun ts => ts.modify j fun r => { r with state := new })
      ∧ (changeSlotState j old new s).scu.site = s.scu.site ∧ (changeSlotState j old new s).tqm = (tqmSlotState j new s).tqm
      ∧ (changeSlotState j old new s).gre = s.gre ∧ (changeSlotState j old new s).lkc = s.lkc
      ∧ (changeSlotState j old new s).tsu = s.tsu ∧ (changeSlotState j old new s).dsu = s.dsu := by
  obtain ⟨htenants, hsite, htqm, -, hgre, hlkc, htsu, hdsu⟩ := stateWritten_blocks j old new s
  simp [changeSlotState_eq, htenants, hsite, htqm, hgre, hlkc, htsu, hdsu]

theorem changeSlotState_inhibit (j : Slot) (old new : SlotState) (s : State) : (changeSlotState j old new s).inhibitsRight := by
  rw [changeSlotState_eq]
  exact inhibitsRight_congr (by simp) (by simp) (by simp) (by simp) (recomputeInhibit_right (stateWritten j old new s))

/-- R90: a slot made VACANT is fit, one that leaves VACANT is judged, another keeps its fitness. -/
theorem changeSlotState_fit {ts : PerSlot TenantRec} {s : State} (hts : s.scu.tenants = some ts) (j : Slot) (old new : SlotState) :
    (changeSlotState j old new s).scu.fit.get j
      = if new = .vacant then true else if old = .vacant then s.tmu.cls.meets (ts.get j).required else s.scu.fit.get j := by
  simp only [changeSlotState_eq, ppsFollow_frame, recomputeInhibit_frame]
  unfold stateWritten
  dsimp only
  split
  · simp
  · next hnew =>
    split
    · have hwritten : (tqmSlotState j new (s.updTenant j fun r => { r with state := new })).scu.tenants
          = some (ts.modify j fun r => { r with state := new }) := by simp [State.updTenant, hts]
      rw [judgeFitness_fit, if_pos rfl, judged_of_record hwritten, PerSlot.get_modify_same, if_neg hnew]
      simp
    · simp

theorem tqmSlotState_tqm (j : Slot) (s : State) :
    (tqmSlotState j .enabled s).tqm = s.tqm ∧ (tqmSlotState j .suspended s).tqm = s.tqm.modify j Traffic.discardEgress
      ∧ (tqmSlotState j .vacant s).tqm = s.tqm.modify j (fun r => { r with express := [], bulk := [] }.discardEgress) := by
  refine ⟨?_, rfl, rfl⟩
  rw [tqmSlotState, State.updTqm_tqm, PerSlot.modify_eq_set]
  exact PerSlot.eq_of_get fun i => by rw [PerSlot.get_set]; split <;> simp [*]

/-- The change of one record's state leaves its PPS enable, so the pulses stay where the slot is ENABLED with it on. -/
theorem changeSlotState_tmu {ts : PerSlot TenantRec} {s : State} (hts : s.scu.tenants = some ts) (j : Slot) (old new : SlotState) :
    (changeSlotState j old new s).tmu
      = { s.tmu with pps :=
          if new = .enabled ∧ (ts.get j).ppsOn = true then s.tmu.pps else s.tmu.pps.modify j (fun g => { g with delayed := [] }) } := by
  obtain ⟨htenants, -, -, htmu, -⟩ := stateWritten_blocks j old new s
  have hrecords : (recomputeInhibit (stateWritten j old new s)).scu.tenants = some (ts.modify j fun r => { r with state := new }) := by
    simp [htenants, hts]
  have hstands : (recomputeInhibit (stateWritten j old new s)).tmu = s.tmu := by simp [htmu]
  have hemits := mayEmit_iff hrecords j
  rw [PerSlot.get_modify_same] at hemits
  rw [changeSlotState_eq, ppsFollow_tmu, hstands]
  simp only [hemits]

/-! ## The obligation -/

/-- Settles O28, by the judgement's four outcomes and, for the change, block by block. -/
theorem slotStateIsSet : Obligations.SlotStateIsSet := by
  unfold Obligations.SlotStateIsSet
  intro k j tag new ts ps s hps hts hask
  rw [exec_setSlotState hask, judgeSetSlotState_eq hps hts]
  refine ⟨fun hj => by rw [if_pos hj]; rfl, fun hj hsame => by rw [if_neg hj, if_pos hsame]; rfl,
    fun hj hvacant hnew hover => ?_, fun hj hchange hroom => ?_⟩
  · have hchange : (ts.get j).state ≠ new := fun h => hnew (h ▸ hvacant)
    rw [if_neg hj, if_neg hchange, if_pos ⟨hvacant, hover⟩]
    rfl
  · have hfits : ¬((ts.get j).state = .vacant ∧ s.scu.ceiling < commitSum (ts.modify j fun r => { r with state := new })) :=
      fun ⟨hvacant, hover⟩ => absurd hover (hroom hvacant).not_gt
    obtain ⟨htenants, hsite, htqm, hgre, hlkc, htsu, hdsu⟩ := changeSlotState_blocks j (ts.get j).state new s
    obtain ⟨henabled, hsuspended, hvacant⟩ := tqmSlotState_tqm j s
    obtain ⟨rscu, rlkc, rtqm, rgre, rtmu, rtsu, rdsu⟩ := recordChanged_blocks k j (changeSlotState j (ts.get j).state new s)
    have hright : (recordChanged k j (changeSlotState j (ts.get j).state new s)).inhibitsRight :=
      inhibitsRight_congr (by rw [rscu]) (by rw [rscu]) (by rw [rscu]) (by rw [rscu]) (changeSlotState_inhibit j _ new s)
    rw [if_neg hj, if_neg hchange, if_neg hfits]
    refine ⟨_, rfl, ?_⟩
    rw [rscu, rlkc, rtqm, rgre, rtmu, rtsu, rdsu, htqm]
    exact ⟨by rw [htenants, hts, Option.map_some], hright, changeSlotState_fit hts j _ new, fun h => h ▸ henabled, fun h => h ▸ hsuspended,
      fun h => h ▸ hvacant, fun h => pends_recordChanged h _, changeSlotState_tmu hts j _ new, hgre, hlkc, htsu, hdsu, hsite⟩

end Sys2Proof.Machine

namespace Sys2Proof.Machine

open Sys2Proof

/-! ## SET_COMMIT_CEILING judged (R83) -/

theorem exec_setCommitCeiling (k : Slot) (tag : Byte) (ps : List Byte) (s : State) :
    exec (.setCommitCeiling k tag ps) s = .next (serve k tag (s.holds k .siteControl) true (judgeSetCommitCeiling ps s) s) := rfl

/-- The judgement with the value read and the records installed. -/
theorem judgeSetCommitCeiling_eq {n : Nat} {ts : PerSlot TenantRec} {s : State} (hn : n < 65536) (hts : s.scu.tenants = some ts) :
    judgeSetCommitCeiling (toBE 2 n) s
      = if 4095 < n then refuse .badValue else if n < commitSum ts then refuse .overcommit
        else taken [] (s.updScu fun c => { c with ceiling := n }) := by
  have hsum : s.committedSum = commitSum ts := by simp [State.committedSum, hts]
  rw [judgeSetCommitCeiling, numParam_toBE hn, withParams_some, hsum]

/-- Settles O23, the refusals of the service first and then the three branches of the judgement. -/
theorem commitCeilingReplaced : Obligations.CommitCeilingReplaced := by
  unfold Obligations.CommitCeilingReplaced
  intro k tag n ts s hstanding hts hn taken
  rw [exec_setCommitCeiling]
  refine ⟨fun hlacks => ?_, fun hholds hlock => ?_, fun hholds hlock => ?_, rfl⟩
  · rw [serve_lacking hstanding hlacks]
  · rw [hholds, serve_locked _ _ hstanding hlock]
  · rw [serve_mayAsk ⟨hstanding, hholds⟩ tag _ (.inr hlock), judgeSetCommitCeiling_eq hn hts]
    refine ⟨fun habove => ?_, fun hin hbelow => ?_, fun hin hroom => ?_⟩
    · rw [if_pos habove, conclude_refuse]
    · rw [if_neg hin.not_gt, if_pos hbelow, conclude_refuse]
    · rw [if_neg hin.not_gt, if_neg hroom.not_gt, conclude_taken]
      rfl

end Sys2Proof.Machine

/-! The tables in force and the contracts (R80, R82, R210): what every operation leaves of them, one rule per operation. -/

namespace Sys2Proof.Machine

open Sys2Proof

/-! ## What the tables in force hang on (R80, R82, R210) -/

/-- The tables in force, the records installed, and whether the part is LOADING. -/
def State.inForce (s : State) : Tables × Option (PerSlot TenantRec) × Bool := (s.tables, s.scu.tenants, decide (s.scu.site = .loading))

/-- The same parts of every block that the tables are read from. -/
theorem inForce_congr {s t : State}
    (hscu : t.scu.ceiling = s.scu.ceiling ∧ t.scu.siteClass = s.scu.siteClass ∧ t.scu.acceptanceSet = s.scu.acceptanceSet
      ∧ t.scu.tenants = s.scu.tenants) (hsite : t.scu.site = .loading ↔ s.scu.site = .loading)
    (hlkc : t.lkc.settings = s.lkc.settings) (hgre : t.gre.metLimit = s.gre.metLimit ∧ t.gre.agingLimit = s.gre.agingLimit)
    (haccess : t.sli.access = s.sli.access) (hparams : t.tmu.params = s.tmu.params) : t.inForce = s.inForce := by
  simp only [Lkc.settings, Prod.mk.injEq] at hlkc
  simp [State.inForce, State.tables, hscu, hsite, hlkc, hgre, haccess, hparams]

/-! ### Updates of one block -/

@[simp] theorem inForce_updTsu (s : State) (f : Tsu → Tsu) : (s.updTsu f).inForce = s.inForce := rfl

@[simp] theorem inForce_updDsu (s : State) (f : Dsu → Dsu) : (s.updDsu f).inForce = s.inForce := rfl

theorem inForce_updLkc (s : State) (f : Lkc → Lkc) (h : (f s.lkc).settings = s.lkc.settings) :
    (s.updLkc f).inForce = s.inForce :=
  inForce_congr ⟨rfl, rfl, rfl, rfl⟩ Iff.rfl h ⟨rfl, rfl⟩ rfl rfl

theorem inForce_updTmu (s : State) (f : Tmu → Tmu) (h : (f s.tmu).params = s.tmu.params) : (s.updTmu f).inForce = s.inForce :=
  inForce_congr ⟨rfl, rfl, rfl, rfl⟩ Iff.rfl rfl ⟨rfl, rfl⟩ rfl h

/-- What leaves the site, the records, the limits and the link alone. -/
theorem inForce_of_frame {s t : State} (hscu : t.scu = s.scu) (hlkc : t.lkc = s.lkc) (hgre : t.gre = s.gre)
    (haccess : t.sli.access = s.sli.access) (hparams : t.tmu.params = s.tmu.params) : t.inForce = s.inForce :=
  inForce_congr (by simp [hscu]) (by rw [hscu]) (by rw [hlkc]) (by simp [hgre]) haccess hparams

theorem inForce_ite {c : Prop} [Decidable c] {s t u : State} (h1 : t.inForce = s.inForce) (h2 : u.inForce = s.inForce) :
    (if c then t else u).inForce = s.inForce := by
  split
  · exact h1
  · exact h2

section

variable (s : State)

@[simp] theorem inForce_raiseIn (e : EventKind) (k : Slot) : (raiseIn e k s).inForce = s.inForce :=
  inForce_of_frame (by simp) (by simp) (by simp) (by simp) (by simp)

@[simp] theorem inForce_raiseAll (e : EventKind) : (raiseAll e s).inForce = s.inForce :=
  inForce_of_frame (by simp) (by simp) (by simp) (by simp) (by simp)

@[simp] theorem inForce_answer (k : Slot) (tag : Byte) (st : Status) (data : List Field) : (answer k tag st data s).inForce = s.inForce :=
  inForce_of_frame (by simp) (by simp) (by simp) (by simp) (by simp)

@[simp] theorem inForce_setProgress (p : Progress) : (setProgress p s).inForce = s.inForce := rfl

@[simp] theorem inForce_updLoop (f : LoopProgress → LoopProgress) : (updLoop f s).inForce = s.inForce := by
  unfold updLoop; split <;> simp

@[simp] theorem inForce_decideLoop (out : TestOutcome) : (decideLoop out s).inForce = s.inForce := inForce_updLoop s _

@[simp] theorem inForce_countLooped (n : Nat) : (countLooped n s).inForce = s.inForce := inForce_updLoop s _

@[simp] theorem inForce_airFill (frame t : Nat) : (airFill frame t s).inForce = s.inForce :=
  inForce_of_frame (by simp) (by simp) (by simp) (by simp) (by simp)

@[simp] theorem inForce_sendTestPacket : (sendTestPacket s).inForce = s.inForce :=
  inForce_of_frame (by simp) (by simp) (by simp) (by simp) (by simp)

/-! ### Orders, and the site they move -/

/-- Away from LOADING, what leaves the tables and does not lead back leaves all of it. -/
theorem inForce_of_stands {s t : State} (hl : s.scu.site ≠ .loading) (htl : t.scu.site ≠ .loading) (ht : t.tables = s.tables)
    (hr : t.scu.tenants = s.scu.tenants) : t.inForce = s.inForce := by
  simp [State.inForce, hl, htl, ht, hr]

@[simp] theorem inForce_bringupStep : (bringupStep s).inForce = s.inForce := by
  by_cases hb : s.scu.site = .bringup
  · have hl : s.scu.site ≠ .loading := by simp [hb]
    exact inForce_of_stands hl ((bringupStep_moves s).loaded hl) (by simp [State.tables]) (by simp)
  · rw [bringupStep_of_ne hb]

@[simp] theorem inForce_reportCompletion (o : Order) (out : TestOutcome) : (reportCompletion o out s).inForce = s.inForce := by
  by_cases ha : s.scu.site = .acceptance
  · have hl : s.scu.site ≠ .loading := by simp [ha]
    exact inForce_of_stands hl ((reportCompletion_moves o out s).loaded hl) (by simp [State.tables]) (by simp)
  · simp [reportCompletion, ha]

@[simp] theorem inForce_completeOrder (o : Order) (out : TestOutcome) (m : Measures) : (completeOrder o out m s).inForce = s.inForce := by
  have hlogged : (raiseTestDone o.requester (writeEntry o out m s)).inForce = s.inForce :=
    inForce_of_frame (by simp) (by simp) (by simp) (by simp) (by simp)
  rw [completeOrder, inForce_reportCompletion, hlogged]

@[simp] theorem inForce_considerStart (n : Nat) : (considerStart n s).inForce = s.inForce := by
  induction n generalizing s with
  | zero => rfl
  | succ n ih =>
    unfold considerStart
    split
    · dsimp only
      split
      · unfold startOrder
        split <;> rfl
      · rw [ih, inForce_completeOrder, inForce_updTsu]
    · rfl

@[simp] theorem inForce_settle : (settle s).inForce = s.inForce := inForce_considerStart s _

@[simp] theorem inForce_bringup : (bringup s).inForce = s.inForce := (inForce_settle _).trans (inForce_bringupStep s)

@[simp] theorem inForce_endRunning (out : TestOutcome) : (endRunning out s).inForce = s.inForce := by
  unfold endRunning
  split
  · rfl
  · rw [inForce_settle, inForce_completeOrder, inForce_updTsu]

@[simp] theorem inForce_returnTestPacket (q : TestPacket) : (returnTestPacket q s).inForce = s.inForce := by
  unfold returnTestPacket; dsimp only; (repeat' split) <;> simp

@[simp] theorem inForce_expireLoopTimer : (expireLoopTimer s).inForce = s.inForce := by
  unfold expireLoopTimer; split <;> simp

@[simp] theorem inForce_judgeAir : (judgeAir s).inForce = s.inForce := by
  unfold judgeAir; (repeat' split) <;> simp

@[simp] theorem inForce_airReport (r : PatternReport) : (airReport r s).inForce = s.inForce := by
  unfold airReport; (repeat' split) <;> simp

@[simp] theorem inForce_tsuDepart (out : TestOutcome) : (tsuDepart out s).inForce = s.inForce := by
  unfold tsuDepart; split <;> simp

@[simp] theorem inForce_tsuSample (src : Source) (x : Sample) : (tsuSample src x s).inForce = s.inForce := by
  unfold tsuSample; dsimp only; (repeat' split) <;> simp

@[simp] theorem inForce_tsuBoundary : (tsuBoundary s).inForce = s.inForce := by
  unfold tsuBoundary; dsimp only; (repeat' split) <;> simp

@[simp] theorem inForce_tsuSourceLeft : (tsuSourceLeft s).inForce = s.inForce := by
  unfold tsuSourceLeft; split <;> simp

/-! ### Site time -/

@[simp] theorem inForce_recomputeInhibit : (recomputeInhibit s).inForce = s.inForce :=
  inForce_congr (by simp) (by simp) (by simp) (by simp) (by simp) (by simp)

@[simp] theorem inForce_judgeFitness (k : Slot) : (judgeFitness s k).inForce = s.inForce :=
  inForce_congr (by simp) (by simp) (by simp) (by simp) (by simp) (by simp)

@[simp] theorem inForce_classPublished : (classPublished s).inForce = s.inForce := by
  rw [classPublished, inForce_recomputeInhibit, judgeFitnessAll_keeps (bringup s) State.inForce inForce_judgeFitness, inForce_bringup]

@[simp] theorem inForce_deriveClass : (deriveClass s).inForce = s.inForce := by
  unfold deriveClass
  split
  · rfl
  · exact (inForce_classPublished _).trans (inForce_raiseAll _ _)

@[simp] theorem inForce_judgeSelection : (judgeSelection s).inForce = s.inForce := by
  unfold judgeSelection
  split
  · rfl
  · rw [inForce_deriveClass, inForce_raiseAll, inForce_updTmu s _ (by simp)]

@[simp] theorem inForce_qualificationChanged (b : Qualification) (src : Source) : (qualificationChanged b src s).inForce = s.inForce := by
  unfold qualificationChanged; (repeat' split) <;> simp

@[simp] theorem inForce_takeOutcome (src : Source) (v : Bool) : (takeOutcome src v s).inForce = s.inForce := by
  unfold takeOutcome
  split
  · rfl
  · rw [inForce_qualificationChanged, inForce_updTmu s _ (by simp)]

@[simp] theorem inForce_exchangeMissing : (exchangeMissing s).inForce = s.inForce := by
  unfold exchangeMissing
  split
  · rfl
  · exact inForce_takeOutcome _ _ _

@[simp] theorem inForce_tmuRungChange (n : Nat) : (tmuRungChange n s).inForce = s.inForce := by
  unfold tmuRungChange; (repeat' split) <;> simp

@[simp] theorem inForce_stepTime (new : SiteTime) : (stepTime new s).inForce = s.inForce := inForce_exchangeMissing _

@[simp] theorem inForce_screenSample (x : Sample) : (screenSample x s).inForce = s.inForce := by
  unfold screenSample
  split
  · split
    · exact inForce_stepTime _ _
    · rw [inForce_deriveClass, inForce_updTmu s _ (by simp [Tmu.putMark])]
  · split <;> rw [inForce_deriveClass, inForce_updTmu s _ (by simp [Tmu.putMark])]
  · rfl

@[simp] theorem inForce_takeSample (src : Source) (x : Sample) : (takeSample src x s).inForce = s.inForce := by
  have hlast : (s.updTmu fun t => t.updSource src fun r => { r with last := some x }).inForce = s.inForce := inForce_updTmu s _ (by simp)
  unfold takeSample; dsimp only; (repeat' split) <;> simp [hlast]

@[simp] theorem inForce_gnssPulse : (gnssPulse s).inForce = s.inForce := by
  unfold gnssPulse
  dsimp only
  split
  · rfl
  · split
    · exact inForce_takeSample _ _ _
    · exact inForce_takeOutcome _ _ _

@[simp] theorem inForce_pulseTimerExpiry : (pulseTimerExpiry s).inForce = s.inForce := by
  unfold pulseTimerExpiry
  split
  · exact inForce_takeOutcome _ _ _
  · rfl

@[simp] theorem inForce_takeReply (r : TimeReply) : (takeReply r s).inForce = s.inForce := by
  unfold takeReply
  split
  · split
    · dsimp only
      split
      · split <;> exact inForce_takeSample _ _ _
      · exact inForce_takeOutcome _ _ _
    · rfl
  · rfl

@[simp] theorem inForce_replyTimerExpiry : (replyTimerExpiry s).inForce = s.inForce := by
  unfold replyTimerExpiry; split <;> simp

@[simp] theorem inForce_boundaryExchange (n : Nat) : (boundaryExchange n s).inForce = s.inForce := by
  unfold boundaryExchange
  split
  · exact inForce_exchangeMissing s
  · exact inForce_takeOutcome s _ _

@[simp] theorem inForce_siteSecond (n : Nat) : (siteSecond n s).inForce = s.inForce := by
  have hraise : ∀ t, (raiseBoundary n t).inForce = t.inForce := fun t => by
    unfold raiseBoundary
    dsimp only
    split
    · rfl
    · rw [inForce_boundaryExchange, inForce_tsuBoundary, inForce_deriveClass, inForce_updTmu _ _ (by simp)]
      rfl
  obtain ⟨-, h⟩ | ⟨-, h⟩ := siteSecond_cases n s
  · rw [h]
  · rw [h, enterSecond]
    split
    · exact hraise _
    · rfl

/-! ### The link -/

@[simp] theorem inForce_linkStateEvent : (linkStateEvent s).inForce = s.inForce := inForce_raiseAll s _

@[simp] theorem inForce_sendOdu (c : OduCommand) (n : Nat) : (sendOdu c n s).inForce = s.inForce := rfl

@[simp] theorem inForce_endCommand : (endCommand s).inForce = s.inForce := rfl

@[simp] theorem inForce_judgeLooped : (judgeLooped s).inForce = s.inForce := inForce_countLooped s _

@[simp] theorem abandon_settings (l : Lkc) : l.abandon.settings = l.settings := by rw [abandon_apart]; rfl

@[simp] theorem inForce_departQueues (w : LinkState) : (departQueues w s).inForce = s.inForce := by
  unfold departQueues
  split
  · exact inForce_exchangeMissing _
  · rfl

@[simp] theorem inForce_depart (w : LinkState) (out : TestOutcome) : (depart w out s).inForce = s.inForce := by
  unfold depart; split <;> simp

@[simp] theorem inForce_enterLost (x : LossCause) : (enterLost x s).inForce = s.inForce :=
  (inForce_depart _ _ _).trans (inForce_linkStateEvent _)

@[simp] theorem inForce_enterAcquiring : (enterAcquiring s).inForce = s.inForce := (inForce_bringup _).trans (inForce_linkStateEvent _)

@[simp] theorem inForce_enterUp : (enterUp s).inForce = s.inForce := (inForce_bringup _).trans (inForce_linkStateEvent _)

@[simp] theorem inForce_failDiscovery (r : OffReason) : (failDiscovery r s).inForce = s.inForce :=
  (inForce_bringup _).trans (inForce_linkStateEvent _)

@[simp] theorem inForce_buildLadder (p : Option CapabilityPage) : (buildLadder p s).inForce = s.inForce := by
  have hinstall : ∀ b, (installLadder b s).inForce = s.inForce := fun b => by
    unfold installLadder
    split
    · split
      · exact inForce_enterAcquiring _
      · exact inForce_failDiscovery s _
    · exact inForce_failDiscovery s _
  unfold buildLadder; dsimp only; (repeat' split) <;> exact hinstall _

theorem decideDown_settings (l : Lkc) (n : Nat) (c : NoticeCause) : (l.decideDown n c).settings = l.settings := by
  unfold Lkc.decideDown; (repeat' split) <;> rfl

theorem stepUp_settings (l : Lkc) : l.stepUp.settings = l.settings := by
  unfold Lkc.stepUp; split <;> rfl

@[simp] theorem inForce_rungDecision (m : Int) : (rungDecision m s).inForce = s.inForce := by
  unfold rungDecision
  split
  · exact inForce_updLkc s _ (decideDown_settings _ _ _)
  · split
    · exact inForce_updLkc s _ (decideDown_settings _ _ _)
    · split
      · exact inForce_updLkc s _ (stepUp_settings _)
      · rfl

@[simp] theorem inForce_takeReport (m : Int) : (takeReport m s).inForce = s.inForce := by
  unfold takeReport
  split
  · exact inForce_ite (inForce_enterLost _ _) (inForce_rungDecision _ _)
  · rfl

@[simp] theorem inForce_missFrame : (missFrame s).inForce = s.inForce := by
  unfold missFrame
  dsimp only
  split
  · exact inForce_enterLost _ _
  · rfl

@[simp] theorem inForce_takeSegments (gs : List EgressSegment) : (takeSegments gs s).inForce = s.inForce :=
  inForce_of_frame (by simp) (by simp) (by simp) (by simp) (by simp)

@[simp] theorem inForce_handOn (f : FarFrame) : (handOn f s).inForce = s.inForce := by
  have hsegments : ∀ l, (takeSegments f.segments (s.updLkc fun k => { k with syncMiss := 0, far := l, farPattern := f.pattern })).inForce
      = s.inForce := fun l => inForce_takeSegments _ _
  unfold handOn; dsimp only; (repeat' split) <;> simp [hsegments]

@[simp] theorem inForce_takeFarFrame (f : FarFrame) : (takeFarFrame f s).inForce = s.inForce := by
  unfold takeFarFrame; (repeat' split) <;> simp

/-! ### The hold -/

@[simp] theorem inForce_enterLoopExit : (enterLoopExit s).inForce = s.inForce := by
  refine inForce_congr (by simp) (by simp) ?_ (by simp) (by simp) (by simp)
  rw [enterLoopExit_lkc]
  rfl

@[simp] theorem inForce_leavePending (b : Bool) : (leavePending b s).inForce = s.inForce := by
  unfold leavePending
  split
  · exact inForce_enterLoopExit s
  · rfl

@[simp] theorem inForce_abortLoop (r : AbortReason) : (abortLoop r s).inForce = s.inForce := by
  unfold abortLoop
  split
  · rfl
  · split
    · split
      · rfl
      · have hask : ∀ u : State, (askLoopEnd u).inForce = u.inForce := fun u => by
          unfold askLoopEnd
          split
          · rfl
          · exact inForce_enterLoopExit u
          · exact inForce_enterLoopExit u
          · rfl
        rw [hask, inForce_decideLoop]
    · exact inForce_endRunning s _

@[simp] theorem inForce_enterHold : (enterHold s).inForce = s.inForce := by
  have hheld : ∀ l : Lkc, l.settings = s.lkc.settings →
      (bringup (departQueues .up (linkStateEvent (updLoop (fun p => { p with held := true }) (s.updLkc fun _ => l))))).inForce
        = s.inForce := fun l hl => by simp [inForce_updLkc s (fun _ => l) hl]
  unfold enterHold
  dsimp only
  split
  · exact (inForce_leavePending _ _).trans (hheld { s.lkc with
      state := .held (.holdPending s.lkc.unsent.length false), upCount := 0, syncMiss := 0, lowRun := 0 } rfl)
  · exact hheld { s.lkc with
      state := .held (.holdPending s.lkc.unsent.length false), upCount := 0, syncMiss := 0, lowRun := 0 } rfl

@[simp] theorem inForce_endHold : (endHold s).inForce = s.inForce := by
  have hup : ∀ l : Lkc, l.settings = (judgeLooped (endCommand s)).lkc.settings →
      (linkStateEvent ((judgeLooped (endCommand s)).updLkc fun _ => l)).inForce = s.inForce := fun l hl => by
    rw [inForce_linkStateEvent, inForce_updLkc _ _ hl, inForce_judgeLooped, inForce_endCommand]
  unfold endHold
  dsimp only
  rw [inForce_bringup]
  split
  · rw [inForce_endRunning]; exact hup _ rfl
  · exact hup _ rfl

@[simp] theorem inForce_returnLooped (n e : Nat) : (returnLooped n e s).inForce = s.inForce := by
  unfold returnLooped
  split
  · exact inForce_countLooped s _
  · rfl

/-! ### Frame fills -/

@[simp] theorem inForce_fixRung : (fixRung s).inForce = s.inForce := by
  unfold fixRung
  split
  · unfold takeEffect
    dsimp only
    split
    · rfl
    · exact inForce_raiseAll _ _
  · rfl

@[simp] theorem inForce_reportRung (n : Nat) : (reportRung n s).inForce = s.inForce := by
  unfold reportRung; split <;> simp

@[simp] theorem inForce_pushFrame (b : Bool) (p : Nat) (g : List Segment) : (pushFrame b p g s).inForce = s.inForce := rfl

@[simp] theorem inForce_ageLooped : (ageLooped s).inForce = s.inForce := by
  unfold ageLooped
  dsimp only
  split
  · rfl
  · exact inForce_countLooped s _

@[simp] theorem inForce_fillHeld : (fillHeld s).inForce = s.inForce := by
  unfold fillHeld
  split
  · dsimp only
    split
    · exact (inForce_enterLoopExit _).trans (inForce_updLoop s _)
    · exact inForce_updLoop s _
  · rfl

@[simp] theorem inForce_passAndDrain : (passAndDrain s).2.2.inForce = s.inForce :=
  inForce_congr (by simp) (by simp) (by simp) (by simp) (by simp) (by simp)

@[simp] theorem inForce_placeRequest (n : Nat) : (placeRequest n s).2.inForce = s.inForce :=
  inForce_congr (by simp) (by simp) (by simp) (by simp) (by simp) (by simp)

theorem announce_settings (l : Lkc) : l.announce.settings = l.settings := by
  unfold Lkc.announce; split <;> rfl

@[simp] theorem inForce_fillUp : (fillUp s).inForce = s.inForce := by
  unfold fillUp
  simp [inForce_updLkc s _ (announce_settings _)]

@[simp] theorem inForce_fillFrame : (fillFrame s).inForce = s.inForce := by
  unfold fillFrame
  split
  · dsimp only
    split
    · exact inForce_endRunning _ _
    · rfl
  · dsimp only
    rw [inForce_reportRung]
    split
    · rw [inForce_fillHeld, inForce_fixRung, inForce_enterHold]; rfl
    · rw [inForce_fillUp, inForce_fixRung]; rfl
  · rw [inForce_reportRung, inForce_fillHeld, inForce_fixRung, inForce_ageLooped]; rfl
  · rfl

@[simp] theorem inForce_sendFrame : (sendFrame s).inForce = s.inForce := by
  have hsent : ∀ f rest, (frameSent f rest s).inForce = s.inForce := fun f rest => by
    unfold frameSent
    dsimp only
    split <;> rfl
  obtain ⟨-, h⟩ | ⟨f, rest, -, ⟨u, asked, -, -, h⟩ | ⟨u, asked, -, -, h⟩ | ⟨-, h⟩⟩ := sendFrame_cases s <;> rw [h]
  · rw [inForce_leavePending, hsent]
  · exact hsent f rest
  · exact hsent f rest

end

end Sys2Proof.Machine

namespace Sys2Proof.Machine

open Sys2Proof

/-! ### The passing of a nanosecond -/

theorem tick_inForce (s : State) : (tick s).inForce = s.inForce := by
  have henqueue : ∀ (u : State) (b : Bool) (c : Instr), (u.enqueueIf b c).inForce = u.inForce := fun _ _ _ => inForce_ite rfl rfl
  have hpps : ∀ u k, (ppsTimersDue u k).inForce = u.inForce := fun u k =>
    (foldl_keeps State.inForce (fun t _ => t.enqueue (.ppsDelayedEmission k)) (fun _ _ => rfl) _ _).trans (henqueue _ _ _)
  have hdue : ∀ u, (expiriesDue u).inForce = u.inForce := fun u => by
    unfold expiriesDue
    dsimp only
    rw [henqueue, henqueue, henqueue, foldl_keeps State.inForce _ hpps]
    simp only [henqueue]
  have hadvance : (advanceTime s).inForce = s.inForce := inForce_updTmu s _ (by simp [Tmu.advance])
  have hbackoff : ∀ l : Lkc, l.tickBackoff.settings = l.settings := fun l => by unfold Lkc.tickBackoff; split <;> rfl
  have hcount : ∀ u, (countMs u).inForce = u.inForce := fun u =>
    inForce_updLkc u (fun l => l.tickCommand.tickBackoff) (hbackoff _)
  unfold tick
  dsimp only
  rw [henqueue, henqueue]
  split
  · rw [hdue, hcount]; exact hadvance
  · exact hadvance

/-! ## What a step must keep (R80, R82, R210) -/

/-- Between two states the tables in force stay in range and the contracts stay kept. -/
structure TablesKept (s t : State) : Prop where
  right : s.tablesRight → t.tablesRight
  contracts : s.contractsKept → t.contractsKept

theorem TablesKept.refl (s : State) : TablesKept s s := ⟨id, id⟩

theorem TablesKept.trans {s t u : State} (h1 : TablesKept s t) (h2 : TablesKept t u) : TablesKept s u :=
  ⟨h2.right ∘ h1.right, h2.contracts ∘ h1.contracts⟩

/-- With all of it standing, both stand. -/
theorem TablesKept.of_inForce {s t : State} (h : t.inForce = s.inForce) : TablesKept s t := by
  simp only [State.inForce, Prod.mk.injEq, decide_eq_decide] at h
  obtain ⟨htables, htenants, hsite⟩ := h
  have hceiling : t.scu.ceiling = s.scu.ceiling := congrArg Tables.ceiling htables
  exact ⟨fun hs hl => by rw [htables, htenants]; exact hs (mt hsite.mpr hl),
    fun hs ts hts => by rw [hceiling]; exact hs ts (htenants ▸ hts)⟩

/-- Away from LOADING it is enough that the tables and the records stand. -/
theorem TablesKept.of_stands {s t : State} (hl : s.scu.site ≠ .loading) (h : t.tables = s.tables) (hr : t.scu.tenants = s.scu.tenants) :
    TablesKept s t := by
  have hceiling : t.scu.ceiling = s.scu.ceiling := congrArg Tables.ceiling h
  exact ⟨fun hs _ => by rw [h, hr]; exact hs hl, fun hs ts hts => by rw [hceiling]; exact hs ts (hr ▸ hts)⟩

/-- What follows a write and leaves all of it. -/
theorem TablesKept.through {s t u : State} (h : u.inForce = t.inForce) (ht : TablesKept s t) : TablesKept s u := ht.trans (.of_inForce h)

/-- A request is taken away from LOADING alone (R193), so its owner's effect is looked at there. -/
theorem serve_tablesKept {k : Slot} {tag : Byte} {p f : Bool} {v : Verdict} {s : State}
    (h : s.scu.site ≠ .loading → Takes v (TablesKept s)) : TablesKept s (serve k tag p f v s) := by
  have hanswer : ∀ t st data, TablesKept t (answer k tag st data t) := fun t st data => .of_inForce (inForce_answer t k tag st data)
  by_cases hl : s.scu.site = .loading
  · rw [serve_wrongState tag v (by simp [State.standing, hl])]
    exact hanswer _ _ _
  · exact serve_ends (fun _ _ => hanswer _ _ _) fun data t hv _ => (h hl data t hv).trans (hanswer _ _ _)

end Sys2Proof.Machine

/-! What the writes leave of the tables in force: each field in its range, the contracts within the ceiling (R80 to R91). -/

namespace Sys2Proof.Machine

open Sys2Proof

/-! ## The ranges of a descriptor (R210, R212) -/

/-- A key in two bytes for each part, as a descriptor holds it (R217). -/
def keyRanged (key : OduId) : Prop := key.maker < 65536 ∧ key.model < 65536

/-- An entry of the PROFILE section as the tables hold it. -/
def Profile.Ranged (p : Profile) : Prop := p.inRange = true ∧ p.ladder.consistent = true ∧ keyRanged p.key

/-- The tables in the ranges a descriptor holds, one field of this for each thing a request can write. -/
structure Tables.Ranged (t : Tables) : Prop where
  ceiling : t.ceiling ≤ 4095
  rungCeiling : t.rungCeiling ≤ 7
  upLimit : 1 ≤ t.upLimit ∧ t.upLimit ≤ 255
  lossLimit : 1 ≤ t.lossLimit ∧ t.lossLimit ≤ 1000
  confirmLimit : 1 ≤ t.confirmLimit ∧ t.confirmLimit ≤ 255
  metLimit : 1 ≤ t.metLimit ∧ t.metLimit ≤ 8
  agingLimit : 1 ≤ t.agingLimit ∧ t.agingLimit ≤ 255
  templates : t.acceptanceSet.length ≤ 6
  tests : ∀ x ∈ t.acceptanceSet, x.inRange = true
  slot0 : t.tenants.s0.state = .enabled
  sum : commitSum t.tenants ≤ t.ceiling
  records : ∀ k, (t.tenants.get k).inRange = true
  access : t.access.s0.siteControl = true
  time : t.time.inRange = true
  entries : t.profiles.length ≤ 8
  keys : (t.profiles.map Profile.key).Nodup
  profiles : ∀ p ∈ t.profiles, p.Ranged

theorem PerSlot.forall_mem_toList {α : Type} (p : PerSlot α) (P : α → Prop) : (∀ a ∈ p.toList, P a) ↔ ∀ k, P (p.get k) := by
  simp only [PerSlot.toList, List.forall_mem_cons, List.not_mem_nil, false_implies, implies_true, and_true]
  exact ⟨fun ⟨h0, h1, h2, h3⟩ => forall_slot h0 h1 h2 h3, fun h => ⟨h 0, h 1, h 2, h 3⟩⟩

theorem Tables.inRange_iff (t : Tables) : t.inRange = true ↔ t.Ranged := by
  simp only [Tables.inRange, Bool.and_eq_true, decide_eq_true_eq, List.all_eq_true, PerSlot.forall_mem_toList, and_assoc]
  constructor
  · rintro ⟨hceiling, hrung, hup, hup', hloss, hloss', hconfirm, hconfirm', hmet, hmet', haging, haging', htemplates, hslot0, hsum,
      hentries, hkeys, htests, hrecords, haccess, htime, hprofiles⟩
    exact ⟨hceiling, hrung, ⟨hup, hup'⟩, ⟨hloss, hloss'⟩, ⟨hconfirm, hconfirm'⟩, ⟨hmet, hmet'⟩, ⟨haging, haging'⟩, htemplates, htests, hslot0,
      hsum, hrecords, haccess, htime, hentries, hkeys, hprofiles⟩
  · rintro ⟨hceiling, hrung, ⟨hup, hup'⟩, ⟨hloss, hloss'⟩, ⟨hconfirm, hconfirm'⟩, ⟨hmet, hmet'⟩, ⟨haging, haging'⟩, htemplates, htests, hslot0,
      hsum, hrecords, haccess, htime, hentries, hkeys, hprofiles⟩
    exact ⟨hceiling, hrung, hup, hup', hloss, hloss', hconfirm, hconfirm', hmet, hmet', haging, haging', htemplates, hslot0, hsum, hentries,
      hkeys, htests, hrecords, haccess, htime, hprofiles⟩

/-! ### What a request writes -/

/-- A write that leaves the records and the ceiling alone. -/
theorem TablesKept.of_ranged {s t : State} (hl : s.scu.site ≠ .loading) (hr : t.scu.tenants = s.scu.tenants)
    (hc : t.scu.ceiling = s.scu.ceiling) (h : s.tables.Ranged → t.tables.Ranged) : TablesKept s t where
  right hs _ := by
    obtain ⟨hsome, hrange⟩ := hs hl
    exact ⟨hr ▸ hsome, (Tables.inRange_iff _).mpr (h ((Tables.inRange_iff _).mp hrange))⟩
  contracts hs ts hts := by
    rw [hc]
    exact hs ts (hr ▸ hts)

/-! ### The records (R80, R82) -/

theorem commitSum_eq (ts : PerSlot TenantRec) :
    commitSum ts = (ts.get 0).share + (ts.get 1).share + (ts.get 2).share + (ts.get 3).share := rfl

/-- A record that adds no more than it did leaves no more in the sum. -/
theorem commitSum_modify_le {ts : PerSlot TenantRec} {k : Slot} {f : TenantRec → TenantRec}
    (h : (f (ts.get k)).share ≤ (ts.get k).share) : commitSum (ts.modify k f) ≤ commitSum ts := by
  have hle : ∀ j, ((ts.modify k f).get j).share ≤ (ts.get j).share := fun j => by
    rw [PerSlot.get_modify]
    split
    · next hj => exact hj ▸ h
    · exact le_refl _
  rw [commitSum_eq, commitSum_eq]
  exact Nat.add_le_add (Nat.add_le_add (Nat.add_le_add (hle 0) (hle 1)) (hle 2)) (hle 3)

theorem TenantRec.inRange_iff (r : TenantRec) :
    r.inRange = true ↔ (r.committed ≤ r.peak ∧ r.peak ≤ 4095 ∧ 1 ≤ r.weight ∧ r.weight ≤ 15 ∧ r.priority ≤ 3
      ∧ -1000 ≤ r.ppsOffset ∧ r.ppsOffset ≤ 1000) ∧ ∀ t, r.label = some t → labelOk t = true := by
  simp [TenantRec.inRange, Option.all_eq_true]

/-- The write of one record: in range where it was, its committed value within its peak, slot 0 left ENABLED, and the sum within the
ceiling (R80, R82). -/
structure GoodWrite (s : State) (k : Slot) (f : TenantRec → TenantRec) : Prop where
  range : ∀ r, s.tenant k = some r → r.inRange = true → (f r).inRange = true
  peak : ∀ r, s.tenant k = some r → r.committed ≤ r.peak → (f r).committed ≤ (f r).peak
  slot0 : ∀ r, k = 0 → (f r).state = r.state
  sum : ∀ ts, s.scu.tenants = some ts → commitSum ts ≤ s.scu.ceiling → commitSum (ts.modify k f) ≤ s.scu.ceiling

/-- Contracts kept before the write are kept after it. -/
theorem GoodWrite.contractsHold {s : State} {k : Slot} {f : TenantRec → TenantRec} {ts : PerSlot TenantRec} (h : GoodWrite s k f)
    (hts : s.scu.tenants = some ts) (hc : contractsHold s.scu.ceiling ts) : contractsHold s.scu.ceiling (ts.modify k f) := by
  obtain ⟨h0, hsum, hpeak⟩ := hc
  refine ⟨?_, h.sum ts hts hsum, fun j => ?_⟩
  · show ((ts.modify k f).get 0).state = .enabled
    rw [PerSlot.get_modify]
    split
    · next hk => exact (h.slot0 _ hk.symm).trans h0
    · exact h0
  · rw [PerSlot.get_modify]
    split
    · next hj => exact h.peak _ (by simp [State.tenant, hts, hj]) (hpeak j)
    · exact hpeak j

theorem GoodWrite.tablesKept {s : State} {k : Slot} {f : TenantRec → TenantRec} (h : GoodWrite s k f) (hl : s.scu.site ≠ .loading) :
    TablesKept s (s.updTenant k f) where
  right hs _ := by
    obtain ⟨hsome, hrange⟩ := hs hl
    obtain ⟨ts, hts⟩ := Option.isSome_iff_exists.mp hsome
    have hold := (Tables.inRange_iff _).mp hrange
    have hinstalled : s.tables.tenants = ts := by simp [State.tables, hts]
    have hwritten : (s.updTenant k f).tables = { s.tables with tenants := ts.modify k f } := by simp [State.tables, State.updTenant, hts]
    have hrecords := hold.records
    rw [hinstalled] at hrecords
    obtain ⟨h0, hsum, -⟩ := h.contractsHold hts ⟨hinstalled ▸ hold.slot0, hinstalled ▸ hold.sum, fun j =>
      ((TenantRec.inRange_iff _).mp (hrecords j)).1.1⟩
    refine ⟨by simp [State.updTenant, hts], (Tables.inRange_iff _).mpr ?_⟩
    rw [hwritten]
    refine { hold with slot0 := h0, sum := hsum, records := fun j => ?_ }
    rw [PerSlot.get_modify]
    split
    · next hj => exact h.range _ (by simp [State.tenant, hts, hj]) (hrecords j)
    · exact hrecords j
  contracts hs ts' hts' := by
    obtain ⟨ts, hts, rfl⟩ := Option.map_eq_some_iff.mp (show s.scu.tenants.map (fun t => t.modify k f) = some ts' from hts')
    exact h.contractsHold hts (hs ts hts)

/-! ### SET_SLOT_STATE, WRITE_SHARE and WRITE_TUNING -/

theorem recordChanged_inForce (k j : Slot) (s : State) : (recordChanged k j s).inForce = s.inForce :=
  inForce_ite rfl (inForce_raiseIn s _ _)

/-- A change of state leaves the fields of the record, and the ceiling was looked at where the slot leaves VACANT (R85). -/
theorem GoodWrite.slotState {s : State} {k : Slot} {old new : SlotState} (hk : k ≠ 0) (hold : s.slotState k = some old)
    (hfits : ¬(old = .vacant ∧ s.withinCeiling k (fun r => { r with state := new }) = false)) :
    GoodWrite s k fun r => { r with state := new } where
  range _ _ h := h
  peak _ _ h := h
  slot0 _ h := absurd h hk
  sum ts hts hsum := by
    have hstate : (ts.get k).state = old := by simpa [State.slotState, State.tenant, hts] using hold
    by_cases hvacant : old = .vacant
    · simpa [hvacant, State.withinCeiling, hts] using hfits
    · have hstanding : (ts.get k).state ≠ .vacant := hstate ▸ hvacant
      refine (commitSum_modify_le ?_).trans hsum
      simp only [TenantRec.share, if_neg hstanding]
      split
      · exact Nat.zero_le _
      · exact le_refl _

theorem changeSlotState_tables (k : Slot) (old new : SlotState) (s : State) :
    (changeSlotState k old new s).inForce = (s.updTenant k fun r => { r with state := new }).inForce := by
  have hwritten : (stateWritten k old new s).inForce = (s.updTenant k fun r => { r with state := new }).inForce := by
    unfold stateWritten
    exact inForce_ite rfl (inForce_ite (inForce_judgeFitness _ _) rfl)
  have hpps : ∀ u, (ppsFollow k u).inForce = u.inForce := fun u => inForce_of_frame (by simp) (by simp) (by simp) (by simp) (by simp)
  rw [changeSlotState_eq, hpps, inForce_recomputeInhibit, hwritten]

theorem judgeSetSlotState_tables (k : Slot) (ps : List Byte) {s : State} (hl : s.scu.site ≠ .loading) :
    Takes (judgeSetSlotState k ps s) (TablesKept s) :=
  .withParams _ fun p => .withParams _ fun j => .ite (fun _ => .refuse _) fun hj => .withParams_eq _ fun old hold =>
    .ite (fun _ => .taken _ (.of_inForce (recordChanged_inForce k j s))) fun _ => .ite (fun _ => .refuse _) fun hfits =>
      .taken _ (.through ((recordChanged_inForce k j _).trans (changeSlotState_tables j old p.2 s))
        ((GoodWrite.slotState hj hold hfits).tablesKept hl))

/-- What a WRITE_SHARE in range leaves of the record (R86). -/
theorem ShareWrite.valid_iff (w : ShareWrite) (r : TenantRec) :
    w.valid r = true ↔ (w.q.isSome = true ∨ w.p.isSome = true ∨ w.w.isSome = true ∨ w.prio.isSome = true) ∧ (∀ q, w.q = some q → q ≤ 4095)
      ∧ (∀ p, w.p = some p → p ≤ 4095) ∧ (∀ x, w.w = some x → 1 ≤ x ∧ x ≤ 15) ∧ (∀ x, w.prio = some x → x ≤ 3)
      ∧ (w.into r).committed ≤ (w.into r).peak := by
  simp only [ShareWrite.valid, Bool.and_eq_true, Bool.or_eq_true, Option.all_eq_true, decide_eq_true_eq, and_assoc, or_assoc]

theorem getD_of {α : Type} {P : α → Prop} (o : Option α) {a : α} (ho : ∀ x, o = some x → P x) (ha : P a) : P (o.getD a) := by
  cases o with
  | none => exact ha
  | some x => exact ho x rfl

theorem GoodWrite.share {s : State} {k : Slot} {w : ShareWrite} {r : TenantRec} (hr : s.tenant k = some r) (hv : w.valid r = true)
    (hfits : ¬(r.state ≠ .vacant ∧ s.withinCeiling k w.into = false)) : GoodWrite s k w.into := by
  obtain ⟨-, -, hp, hw, hprio, hpeak⟩ := (w.valid_iff r).mp hv
  refine ⟨fun r' hr' h => ?_, fun r' hr' _ => ?_, fun _ _ => rfl, fun ts hts hsum => ?_⟩
  · cases hr.symm.trans hr'
    obtain ⟨⟨-, hpeak', hw1, hw15, hprio', hoffset⟩, hlabel⟩ := (TenantRec.inRange_iff r).mp h
    obtain ⟨hlow, hhigh⟩ := getD_of (P := fun x => 1 ≤ x ∧ x ≤ 15) w.w hw ⟨hw1, hw15⟩
    exact (TenantRec.inRange_iff _).mpr
      ⟨⟨hpeak, getD_of (P := (· ≤ 4095)) w.p hp hpeak', hlow, hhigh, getD_of (P := (· ≤ 3)) w.prio hprio hprio', hoffset⟩, hlabel⟩
  · cases hr.symm.trans hr'
    exact hpeak
  · have hrecord : ts.get k = r := by simpa [State.tenant, hts] using hr
    by_cases hvacant : r.state = .vacant
    · refine (commitSum_modify_le ?_).trans hsum
      simp [TenantRec.share, ShareWrite.into, hrecord, hvacant]
    · simpa [hvacant, State.withinCeiling, hts] using hfits

theorem judgeWriteShare_tables (k : Slot) (ps : List Byte) {s : State} (hl : s.scu.site ≠ .loading) :
    Takes (judgeWriteShare k ps s) (TablesKept s) :=
  .withParams _ fun w => .withParams _ fun j => .withParams_eq _ fun r hr => .ite (fun _ => .refuse _) fun hv =>
    .ite (fun _ => .refuse _) fun hfits => .taken _
      (.through (recordChanged_inForce k j _) ((GoodWrite.share hr (by simpa using hv) hfits).tablesKept hl))

end Sys2Proof.Machine

/-! What a reader can give: the ranges it judges, section by section of a descriptor (R212, R217). -/

namespace Sys2Proof.Machine

open Sys2Proof

/-! ## What the readers give (R212, R217, R219) -/

/-- What a reader gives, whatever the bytes. -/
def Reads {α : Type} (f : List Byte → Option (α × List Byte)) (P : α → Prop) : Prop := ∀ bs a rest, f bs = some (a, rest) → P a

section

variable {α β : Type} {f : List Byte → Option (α × List Byte)} {P : α → Prop} {Q : β → Prop}

/-- A field read, and what follows it. -/
theorem Reads.field {g : α × List Byte → Option (β × List Byte)} (hf : Reads f P) (hg : ∀ a, P a → Reads (fun bs => g (a, bs)) Q) :
    Reads (fun bs => f bs >>= g) Q := by
  intro bs b rest h
  obtain ⟨⟨a, bs1⟩, ha, h⟩ := Option.bind_eq_some_iff.mp h
  exact hg a (hf _ _ _ ha) _ _ _ h

/-- A field nothing is said of. -/
theorem Reads.skip {g : α × List Byte → Option (β × List Byte)} (hg : ∀ a, Reads (fun bs => g (a, bs)) Q) :
    Reads (fun bs => f bs >>= g) Q := .field (P := fun _ => True) (fun _ _ _ _ => trivial) fun a _ => hg a

/-- A code that stands for a value. -/
theorem Reads.value {o : Option α} {g : α → List Byte → Option (β × List Byte)} (hg : ∀ a, Reads (g a) Q) :
    Reads (fun bs => o >>= fun a => g a bs) Q := by
  intro bs b rest h
  obtain ⟨a, -, h⟩ := Option.bind_eq_some_iff.mp h
  exact hg a _ _ _ h

theorem Reads.judged {c : Prop} [Decidable c] (h : c → Reads f P) : Reads (fun bs => if c then f bs else none) P := fun _ _ _ ha => by
  obtain ⟨hc, ha⟩ := Option.ite_none_right_eq_some.mp ha
  exact h hc _ _ _ ha

theorem Reads.done {a : α} (h : P a) : Reads (fun bs => some (a, bs)) P := fun _ _ _ ha => by
  cases ha
  exact h

theorem whole_some {ps : List Byte} {a : α} (h : whole f ps = some a) : f ps = some (a, []) := by
  obtain ⟨⟨b, rest⟩, hread, hend⟩ := Option.bind_eq_some_iff.mp h
  obtain ⟨hrest, hend⟩ := Option.ite_none_right_eq_some.mp hend
  rw [hread, Option.some.inj hend, hrest]

theorem Reads.whole {ps : List Byte} {a : α} (hf : Reads f P) (h : whole f ps = some a) : P a := hf _ _ _ (whole_some h)

/-! ### Numbers, texts, optional fields and lists -/

theorem beNat_lt (bs : List Byte) : beNat bs < 256 ^ bs.length := by
  induction bs with
  | nil => simp [beNat]
  | cons b bs ih =>
    rw [beNat_cons, List.length_cons, pow_succ]
    nlinarith [b.isLt]

theorem takeNat_reads (w : Nat) : Reads (takeNat w) (· < 256 ^ w) := by
  intro bs n rest h
  obtain ⟨hlen, h⟩ := Option.ite_none_left_eq_some.mp h
  cases h
  simpa [Nat.min_eq_left (not_lt.mp hlen)] using beNat_lt (bs.take w)

theorem takeText_reads : Reads takeText fun t => t.all printable = true :=
  .skip fun _ => .skip fun _ => .judged fun hall => .done hall

theorem takeOpt_reads (hf : Reads f P) : Reads (takeOpt f) fun o => ∀ a, o = some a → P a := by
  rintro bs o rest h a rfl
  obtain ⟨⟨n, bs1⟩, -, h⟩ := Option.bind_eq_some_iff.mp h
  dsimp only at h
  split at h
  · cases h
  · obtain ⟨⟨b, bs2⟩, hread, heq⟩ := Option.map_eq_some_iff.mp h
    cases heq
    exact hf _ _ _ hread
  · cases h

theorem takeMany_reads (hf : Reads f P) (n : Nat) : Reads (takeMany f n) fun l => ∀ a ∈ l, P a := by
  induction n with
  | zero => exact .done (by simp)
  | succ n ih => exact .field hf fun a ha => .field ih fun l hl => .done (List.forall_mem_cons.mpr ⟨ha, hl⟩)

theorem takeList_reads (hf : Reads f P) : Reads (takeList f) fun l => ∀ a ∈ l, P a := .skip fun n => takeMany_reads hf n

end

/-! ### The lists of the requests (R9, R31, R87) -/

theorem takeTestParams_reads (kind : Nat) : Reads (takeTestParams kind) fun t => t.inRange = true := by
  match kind with
  | 0 => exact .skip fun _ => .skip fun _ => .skip fun _ => .value fun _ => .judged fun hrange => .done hrange
  | 1 => exact .skip fun _ => .skip fun _ => .skip fun _ => .skip fun _ => .judged fun hrange => .done hrange
  | 2 => exact .skip fun _ => .judged fun hrange => .done hrange
  | 3 => exact .skip fun _ => .skip fun _ => .judged fun hrange => .done hrange
  | _ + 4 => rintro _ _ _ ⟨⟩

theorem templateParams_inRange {ps : List Byte} {ts : List Test} (h : templateParams ps = some ts) : ∀ t ∈ ts, t.inRange = true :=
  (takeList_reads (.skip fun kind => takeTestParams_reads kind)).whole h

theorem tuningParams_label {ps : List Byte} {w : TuningWrite} (h : tuningParams ps = some w) :
    ∀ t, w.label = some t → t.all printable = true := by
  refine Reads.whole (P := fun w : TuningWrite => ∀ t, w.label = some t → t.all printable = true) ?_ h
  iterate 6 refine .skip fun _ => ?_
  exact .field (takeOpt_reads takeText_reads) fun label hlabel => .done hlabel

theorem profileParams_key {ps : List Byte} {w : OduId × Option Ladder} (h : profileParams ps = some w) : keyRanged w.1 := by
  refine Reads.whole (P := fun w : OduId × Option Ladder => keyRanged w.1) ?_ h
  refine .field (takeNat_reads 2) fun maker hmaker => .field (takeNat_reads 2) fun model hmodel => .skip fun r => ?_
  cases r with
  | zero => exact .done ⟨hmaker, hmodel⟩
  | succ r => exact .skip fun _ => .skip fun _ => .skip fun _ => .done ⟨hmaker, hmodel⟩

/-! ### The sections of a descriptor (R212) -/

theorem takeTemplates_reads (n : Nat) : Reads (takeTemplates n) fun ts => ts.length = n ∧ ∀ t ∈ ts, t.inRange = true := by
  have htemplate : Reads takeTemplate fun t => t.inRange = true := by
    rintro bs t rest h
    obtain ⟨⟨bytes, bs1⟩, -, h⟩ := Option.bind_eq_some_iff.mp h
    obtain ⟨⟨kind, ps⟩, -, h⟩ := Option.bind_eq_some_iff.mp h
    obtain ⟨⟨test, bs2⟩, htest, h⟩ := Option.bind_eq_some_iff.mp h
    cases h
    exact takeTestParams_reads kind _ _ _ htest
  induction n with
  | zero => exact .done (by simp)
  | succ n ih =>
    exact .field htemplate fun t ht => .field ih fun ts hts => .done ⟨by simp [hts.1], List.forall_mem_cons.mpr ⟨ht, hts.2⟩⟩

/-- The site record in the ranges R212 gives it. -/
structure SitePart.Ranged (p : SitePart) : Prop where
  ceiling : p.ceiling ≤ 4095
  rungCeiling : p.rungCeiling ≤ 7
  upLimit : 1 ≤ p.upLimit ∧ p.upLimit ≤ 255
  lossLimit : 1 ≤ p.lossLimit ∧ p.lossLimit ≤ 1000
  confirmLimit : 1 ≤ p.confirmLimit ∧ p.confirmLimit ≤ 255
  metLimit : 1 ≤ p.metLimit ∧ p.metLimit ≤ 8
  agingLimit : 1 ≤ p.agingLimit ∧ p.agingLimit ≤ 255
  templates : p.acceptanceSet.length ≤ 6
  tests : ∀ x ∈ p.acceptanceSet, x.inRange = true

theorem takeSite_reads : Reads takeSite SitePart.Ranged := by
  unfold takeSite
  iterate 8 refine .skip fun _ => ?_
  refine .skip fun n => .value fun cls => .judged ?_
  rintro ⟨hceiling, hrung, hu, hu', hl, hl', hc, hc', hm, hm', hk, hk', hn⟩
  exact .field (takeTemplates_reads n) fun ts hts =>
    .done ⟨hceiling, hrung, ⟨hu, hu'⟩, ⟨hl, hl'⟩, ⟨hc, hc'⟩, ⟨hm, hm'⟩, ⟨hk, hk'⟩, hts.1.trans_le hn, hts.2⟩

theorem takeTenant_reads : Reads takeTenant fun r => r.inRange = true := by
  unfold takeTenant
  iterate 10 refine .skip fun _ => ?_
  exact .value fun st => .value fun cls => .value fun on => .judged fun hrange => .done hrange.2

theorem takeTenants_reads (ceiling : Nat) : Reads (takeTenants ceiling) fun ts =>
    ts.s0.state = .enabled ∧ commitSum ts ≤ ceiling ∧ ∀ k, (ts.get k).inRange = true :=
  .field takeTenant_reads fun _ h0 => .field takeTenant_reads fun _ h1 => .field takeTenant_reads fun _ h2 =>
    .field takeTenant_reads fun _ h3 => .judged fun hjudged => .done ⟨hjudged.1, hjudged.2, forall_slot h0 h1 h2 h3⟩

theorem takeAccess_reads : Reads takeAccess fun a => a.s0.siteControl = true :=
  .skip fun _ => .skip fun _ => .skip fun _ => .skip fun _ => .judged fun hrow => .done hrow

theorem takeTime_reads : Reads takeTime fun p => p.inRange = true := by
  unfold takeTime
  iterate 12 refine .skip fun _ => ?_
  exact .value fun rm => .judged fun hrange => .done hrange

theorem takeProfile_reads : Reads takeProfile Profile.Ranged :=
  .field (takeNat_reads 2) fun _ hmaker => .field (takeNat_reads 2) fun _ hmodel => .skip fun _ => .skip fun _ => .skip fun _ =>
    .value fun _ => .judged fun _ => .skip fun _ => .judged fun hjudged => .done ⟨hjudged.1, hjudged.2, hmaker, hmodel⟩

theorem takeProfileList_reads (n : Nat) : Reads (takeProfileList n) fun ps => ps.length = n ∧ ∀ p ∈ ps, p.Ranged := by
  induction n with
  | zero => exact .done (by simp)
  | succ n ih =>
    exact .field takeProfile_reads fun p hp => .field ih fun ps hps => .done ⟨by simp [hps.1], List.forall_mem_cons.mpr ⟨hp, hps.2⟩⟩

theorem takeProfiles_reads : Reads takeProfiles fun ps => ps.length ≤ 8 ∧ (ps.map Profile.key).Nodup ∧ ∀ p ∈ ps, p.Ranged :=
  .skip fun n => .judged fun hn => .field (takeProfileList_reads n) fun _ hps => .judged fun hkeys =>
    .done ⟨hps.1.trans_le hn, of_decide_eq_true hkeys, hps.2⟩

/-- A body that reads gives tables in range, section by section. -/
theorem readBody_ranged {body : List Byte} {t : Tables} (h : readBody body = .ok t) : t.Ranged := by
  unfold readBody at h
  split at h
  · cases h
  next site bs hsite =>
  split at h
  · cases h
  next tenants bs htenants =>
  split at h
  · cases h
  next access bs haccess =>
  split at h
  · cases h
  next time bs htime =>
  split at h
  · cases h
  next profiles rest hprofiles =>
  split at h
  · cases h
    obtain ⟨henabled, hsum, hrecords⟩ := takeTenants_reads _ _ _ _ htenants
    obtain ⟨hentries, hkeys, hall⟩ := takeProfiles_reads _ _ _ hprofiles
    exact { takeSite_reads _ _ _ hsite with
      slot0 := henabled, sum := hsum, records := hrecords, access := takeAccess_reads _ _ _ haccess, time := takeTime_reads _ _ _ htime,
      entries := hentries, keys := hkeys, profiles := hall }
  · cases h

/-- A descriptor that is judged VALID gives tables in range (R211, R212). -/
theorem judgeDescriptor_ranged {flash : List Byte} {t : Tables} (h : judgeDescriptor flash = .ok t) : t.Ranged := by
  simp only [judgeDescriptor] at h
  iterate 5 split at h; · cases h
  split at h
  · cases h
  · next hbody =>
    cases h
    exact readBody_ranged hbody

end Sys2Proof.Machine

/-! The writes of the tuning, the site record, the link, the matrix and the time parameters, each judged before it is taken. -/

namespace Sys2Proof.Machine

open Sys2Proof

/-! ## WRITE_TUNING (R87) -/

/-- A WRITE_TUNING's fields in range. -/
theorem TuningWrite.valid_iff (w : TuningWrite) :
    w.valid = true ↔ (w.w.isSome = true ∨ w.prio.isSome = true ∨ w.cls.isSome = true ∨ w.on.isSome = true ∨ w.offset.isSome = true
        ∨ w.label.isSome = true)
      ∧ (∀ x, w.w = some x → 1 ≤ x ∧ x ≤ 15) ∧ (∀ x, w.prio = some x → x ≤ 3) ∧ (∀ x, w.offset = some x → -1000 ≤ x ∧ x ≤ 1000)
      ∧ ∀ t, w.label = some t → t.length ≤ 16 := by
  simp only [TuningWrite.valid, Bool.and_eq_true, Bool.or_eq_true, Option.all_eq_true, decide_eq_true_eq, and_assoc, or_assoc]

/-- A label of no characters makes the label absent; any other that is written is a label. -/
theorem TuningWrite.into_label {w : TuningWrite} {r : TenantRec} (hlength : ∀ t, w.label = some t → t.length ≤ 16)
    (hprint : ∀ t, w.label = some t → t.all printable = true) (hr : ∀ t, r.label = some t → labelOk t = true) :
    ∀ t, (w.into r).label = some t → labelOk t = true := by
  intro t ht
  simp only [TuningWrite.into] at ht
  split at ht
  · exact hr t ht
  · next u hu =>
    obtain ⟨hne, ht⟩ := Option.ite_none_left_eq_some.mp ht
    cases ht
    have hpos : 1 ≤ t.length := List.length_pos_iff.mpr hne
    simp only [labelOk, Bool.and_eq_true, decide_eq_true_eq]
    exact ⟨⟨hpos, hlength t hu⟩, hprint t hu⟩

/-- The tuning fields are no part of the contract. -/
theorem GoodWrite.tuning {s : State} {k : Slot} {w : TuningWrite} (hv : w.valid = true)
    (hprint : ∀ t, w.label = some t → t.all printable = true) : GoodWrite s k w.into where
  range r _ h := by
    obtain ⟨-, hw, hprio, hoffset, hlength⟩ := w.valid_iff.mp hv
    obtain ⟨⟨hcontract, hpeak, hw1, hw15, hprio', hlow, hhigh⟩, hlabel⟩ := (TenantRec.inRange_iff r).mp h
    obtain ⟨hw1, hw15⟩ := getD_of (P := fun x => 1 ≤ x ∧ x ≤ 15) w.w hw ⟨hw1, hw15⟩
    obtain ⟨hlow, hhigh⟩ := getD_of (P := fun x => -1000 ≤ x ∧ x ≤ 1000) w.offset hoffset ⟨hlow, hhigh⟩
    exact (TenantRec.inRange_iff _).mpr ⟨⟨hcontract, hpeak, hw1, hw15, getD_of (P := (· ≤ 3)) w.prio hprio hprio', hlow, hhigh⟩,
      TuningWrite.into_label hlength hprint hlabel⟩
  peak _ _ h := h
  slot0 _ _ := rfl
  sum _ _ hsum := (commitSum_modify_le (le_refl _)).trans hsum

theorem inForce_ppsFollow (k : Slot) (s : State) : (ppsFollow k s).inForce = s.inForce :=
  inForce_of_frame (by simp) (by simp) (by simp) (by simp) (by simp)

theorem tune_inForce (k : Slot) (w : TuningWrite) (s : State) : (tune k w s).inForce = (s.updTenant k w.into).inForce := by
  have hoffset : ∀ c : Prop, ∀ _ : Decidable c, ∀ u : State, (if c then u.updTmu fun v => v.takePulse k else u).inForce = u.inForce :=
    fun c _ u => inForce_ite (inForce_updTmu u _ (by simp)) rfl
  rw [tune, inForce_ppsFollow]
  refine (inForce_ite ?_ rfl).trans (hoffset _ _ _)
  rw [inForce_recomputeInhibit, inForce_judgeFitness]

theorem judgeWriteTuning_tables (k : Slot) (ps : List Byte) {s : State} (hl : s.scu.site ≠ .loading) :
    Takes (judgeWriteTuning k ps s) (TablesKept s) :=
  .withParams_eq _ fun w hw => .withParams _ fun j => .ite (fun _ => .refuse _) fun hv => .taken _
    (.through ((recordChanged_inForce k j _).trans (tune_inForce j w s))
      ((GoodWrite.tuning (by simpa using hv) (tuningParams_label hw)).tablesKept hl))

/-! ## The site's own fields (R9, R10, R83) -/

theorem judgeSetAcceptanceSet_tables (ps : List Byte) {s : State} (hl : s.scu.site ≠ .loading) :
    Takes (judgeSetAcceptanceSet ps s) (TablesKept s) :=
  .withParams_eq _ fun _ hts => .ite (fun _ => .refuse _) fun hfew => .taken _
    (.through (inForce_bringup _) (.of_ranged hl rfl rfl fun h =>
      { h with templates := Nat.le_of_not_lt hfew, tests := templateParams_inRange hts }))

theorem setSiteClass_tables (c : TimeClass) {s : State} (hl : s.scu.site ≠ .loading) :
    TablesKept s (bringup (s.updScu fun x => { x with siteClass := c })) :=
  .through (inForce_bringup _) (.of_ranged hl rfl rfl fun h => { h with ceiling := h.ceiling })

/-- R83: a ceiling below the present sum is refused, so the sum stays within the one that replaces it. -/
theorem judgeSetCommitCeiling_tables (ps : List Byte) (s : State) : Takes (judgeSetCommitCeiling ps s) (TablesKept s) := by
  refine .withParams _ fun n => .ite (fun _ => .refuse _) fun hn => .ite (fun _ => .refuse _) fun hroom => .taken _ ⟨fun hs hl => ?_, ?_⟩
  · obtain ⟨hsome, hrange⟩ := hs hl
    obtain ⟨ts, hts⟩ := Option.isSome_iff_exists.mp hsome
    have hsum : commitSum s.tables.tenants ≤ n := by simpa [State.committedSum, State.tables, hts] using hroom
    exact ⟨hsome, (Tables.inRange_iff _).mpr { (Tables.inRange_iff _).mp hrange with ceiling := not_lt.mp hn, sum := hsum }⟩
  · intro hs ts hts
    obtain ⟨h0, -, hpeak⟩ := hs ts hts
    have hts : s.scu.tenants = some ts := hts
    exact ⟨h0, by simpa [State.committedSum, hts] using hroom, hpeak⟩

/-! ## The link's limits and profiles (R31, R61, R203) -/

theorem judgeSetRungLimits_tables (ps : List Byte) {s : State} (hl : s.scu.site ≠ .loading) :
    Takes (judgeSetRungLimits ps s) (TablesKept s) :=
  .withParams _ fun _ => .ite (fun _ => .refuse _) fun hn => .taken _
    (.of_ranged hl rfl rfl fun h => { h with rungCeiling := not_lt.mp hn })

theorem judgeSetLinkLimits_tables (ps : List Byte) {s : State} (hl : s.scu.site ≠ .loading) :
    Takes (judgeSetLinkLimits ps s) (TablesKept s) := by
  refine .withParams _ fun w => .ite (fun hw => .taken _ ?_) fun _ => .refuse _
  simp only [Bool.and_eq_true, Option.all_eq_true, decide_eq_true_eq] at hw
  obtain ⟨⟨⟨-, hup⟩, hloss⟩, hconfirm⟩ := hw
  exact .of_ranged hl rfl rfl fun h => { h with
    upLimit := getD_of (P := fun x => 1 ≤ x ∧ x ≤ 255) _ hup h.upLimit
    lossLimit := getD_of (P := fun x => 1 ≤ x ∧ x ≤ 1000) _ hloss h.lossLimit
    confirmLimit := getD_of (P := fun x => 1 ≤ x ∧ x ≤ 255) _ hconfirm h.confirmLimit }

theorem judgeSetGrantLimits_tables (ps : List Byte) {s : State} (hl : s.scu.site ≠ .loading) :
    Takes (judgeSetGrantLimits ps s) (TablesKept s) := by
  refine .withParams _ fun w => .ite (fun hw => .taken _ ?_) fun _ => .refuse _
  simp only [Bool.and_eq_true, Option.all_eq_true, decide_eq_true_eq] at hw
  obtain ⟨⟨-, hmet⟩, haging⟩ := hw
  exact .of_ranged hl rfl rfl fun h => { h with
    metLimit := getD_of (P := fun x => 1 ≤ x ∧ x ≤ 8) _ hmet h.metLimit
    agingLimit := getD_of (P := fun x => 1 ≤ x ∧ x ≤ 255) _ haging h.agingLimit }

/-- The keys after an entry takes the place of the one of its key, or is added behind the others (R31). -/
theorem putProfile_keys (l : List Profile) (p : Profile) :
    (putProfile l p).map Profile.key
      = if l.any (fun x => decide (x.key = p.key)) = true then l.map Profile.key else l.map Profile.key ++ [p.key] := by
  unfold putProfile
  split
  · rw [List.map_map]
    refine List.map_congr_left fun x _ => ?_
    simp only [Function.comp]
    split
    · next h => exact h.symm
    · rfl
  · simp

theorem mem_putProfile {l : List Profile} {p x : Profile} (h : x ∈ putProfile l p) : x = p ∨ x ∈ l := by
  unfold putProfile at h
  split at h
  · obtain ⟨y, hy, rfl⟩ := List.mem_map.mp h
    split
    · exact .inl rfl
    · exact .inr hy
  · simpa [or_comm] using h

/-- The table stays within its eight entries, each of a key of its own, where a new entry finds room. -/
theorem putProfile_fits {l : List Profile} {p : Profile} (hlength : l.length ≤ 8) (hkeys : (l.map Profile.key).Nodup)
    (hroom : l.any (fun x => decide (x.key = p.key)) = false → l.length < 8) :
    (putProfile l p).length ≤ 8 ∧ ((putProfile l p).map Profile.key).Nodup := by
  rw [← List.length_map (f := Profile.key), putProfile_keys]
  split
  · exact ⟨by rwa [List.length_map], hkeys⟩
  · next hnew =>
    have hnew := Bool.not_eq_true _ ▸ hnew
    have hfresh : p.key ∉ l.map Profile.key := by simpa using hnew
    exact ⟨by simpa using hroom hnew, List.Nodup.append hkeys (List.nodup_singleton _) (by simpa using hfresh)⟩

theorem judgeWriteProfile_tables (ps : List Byte) {s : State} (hl : s.scu.site ≠ .loading) :
    Takes (judgeWriteProfile ps s) (TablesKept s) := by
  refine .withParams_eq _ fun w hw => ?_
  have hkey := profileParams_key hw
  dsimp only
  split
  · next l _ =>
    refine .ite (fun _ => .refuse _) fun hgood => .ite (fun _ => .refuse _) fun hfits => .taken _ (.of_ranged hl rfl rfl fun h => ?_)
    have hpost : Profile.Ranged ⟨w.1, l⟩ := by
      obtain ⟨hrange, hconsistent⟩ := Bool.and_eq_true .. ▸ (Bool.not_eq_false _ ▸ hgood)
      exact ⟨hrange, hconsistent, hkey⟩
    obtain ⟨hlength, hnodup⟩ := putProfile_fits (p := ⟨w.1, l⟩) h.entries h.keys fun hnew => by
      have hnew : s.lkc.profiles.any (fun x => decide (x.key = w.1)) = false := hnew
      rw [hnew, Bool.not_false, Bool.true_and, decide_eq_true_eq] at hfits
      exact Nat.lt_of_not_le hfits
    exact { h with entries := hlength, keys := hnodup, profiles := fun x hx => (mem_putProfile hx).elim (fun e => e ▸ hpost) (h.profiles x) }
  · refine .ite (fun _ => .taken _ (.of_ranged hl rfl rfl fun h => { h with
      entries := (List.length_filter_le _ _).trans h.entries
      keys := h.keys.sublist (List.filter_sublist.map _)
      profiles := fun x hx => h.profiles x (List.mem_of_mem_filter hx) })) fun _ => .refuse _

/-! ## The access matrix (R196) -/

/-- Classes put into a row one after another. -/
theorem siteControl_foldl (l : List PermClass) (S : ClassSet) :
    (l.foldl ClassSet.put S).siteControl = true ↔ S.siteControl = true ∨ PermClass.siteControl ∈ l := by
  induction l generalizing S with
  | nil => simp
  | cons c l ih =>
    rw [List.foldl_cons, ih]
    cases c <;> simp [ClassSet.put]

theorem judgeWriteAccess_tables (ps : List Byte) {s : State} (hl : s.scu.site ≠ .loading) :
    Takes (judgeWriteAccess ps s) (TablesKept s) := by
  refine .withParams _ fun w => .withParams _ fun k => .ite (fun _ => .refuse _) fun hw => .taken _ (.of_ranged hl rfl rfl fun h => ?_)
  simp only [Bool.or_eq_true, decide_eq_true_eq, not_or, not_and, not_not] at hw
  refine { h with access := ?_ }
  show ((s.sli.access.set k (ClassSet.ofList w.2)).get 0).siteControl = true
  rw [PerSlot.get_set]
  split
  · next hk => exact (siteControl_foldl w.2 {}).mpr (.inr (hw.2 hk.symm))
  · exact h.access

/-! ## The time parameters (R146, R158, R159) -/

theorem TimeParams.inRange_iff (p : TimeParams) :
    p.inRange = true ↔ (p.gnssPriority ≤ 7 ∧ p.linkPriority ≤ 7) ∧ (p.acquire.a ≤ 15 ∧ p.acquire.b ≤ 23) ∧ (p.track.a ≤ 15 ∧ p.track.b ≤ 23)
      ∧ p.limitsOk = true := by
  simp only [TimeParams.inRange, LoopBank.inRange, Bool.and_eq_true, decide_eq_true_eq, and_assoc]

/-- A write of the time parameters that leaves them in range. -/
theorem TablesKept.of_params {s : State} (hl : s.scu.site ≠ .loading) (f : Tmu → Tmu)
    (h : s.tmu.params.inRange = true → (f s.tmu).params.inRange = true) : TablesKept s (s.updTmu f) :=
  .of_ranged hl rfl rfl fun hr => { hr with time := h hr.time }

theorem writePriority_tables (src : Source) {n : Nat} (hn : n ≤ 7) {s : State} (hl : s.scu.site ≠ .loading) :
    TablesKept s (writePriority src n s) := by
  have hleft : ∀ c : Prop, ∀ _ : Decidable c, ∀ u : State, (if c then tsuSourceLeft u else u).inForce = u.inForce :=
    fun c _ u => inForce_ite (inForce_tsuSourceLeft u) rfl
  have hwrite : TablesKept s (s.updTmu fun t => { t.updSource src (fun r => r.atPriority n) with params := t.params.setPriority src n }) := by
    refine .of_params hl _ fun h => ?_
    obtain ⟨⟨hgnss, hlink⟩, hrest⟩ := (TimeParams.inRange_iff _).mp h
    cases src with
    | gnss => exact (TimeParams.inRange_iff _).mpr ⟨⟨hn, hlink⟩, hrest⟩
    | link => exact (TimeParams.inRange_iff _).mpr ⟨⟨hgnss, hn⟩, hrest⟩
  exact .through ((inForce_judgeSelection _).trans (hleft _ _ _)) hwrite

theorem judgeSetLoopBank_tables (ps : List Byte) {s : State} (hl : s.scu.site ≠ .loading) :
    Takes (judgeSetLoopBank ps s) (TablesKept s) := by
  refine .withParams _ fun w => .ite (fun hw => .taken _ (.of_params hl _ fun h => ?_)) fun _ => .refuse _
  simp only [Bool.and_eq_true, Option.all_eq_true, decide_eq_true_eq] at hw
  obtain ⟨⟨-, ha⟩, hb⟩ := hw
  obtain ⟨hpriority, ⟨ha1, hb1⟩, ⟨ha2, hb2⟩, hlimits⟩ := (TimeParams.inRange_iff _).mp h
  have hshifts : ∀ b : LoopBank, b.a ≤ 15 → b.b ≤ 23 → (b.write w.2.1 w.2.2).a ≤ 15 ∧ (b.write w.2.1 w.2.2).b ≤ 23 := fun b h1 h2 =>
    ⟨getD_of (P := (· ≤ 15)) _ ha h1, getD_of (P := (· ≤ 23)) _ hb h2⟩
  dsimp only
  split
  · exact (TimeParams.inRange_iff _).mpr ⟨hpriority, hshifts _ ha1 hb1, ⟨ha2, hb2⟩, hlimits⟩
  · exact (TimeParams.inRange_iff _).mpr ⟨hpriority, ⟨ha1, hb1⟩, hshifts _ ha2 hb2, hlimits⟩

/-- Limits in range, each from the request or as they stood, and paired as they are left (R159). -/
theorem LimitWrite.into_limitsOk {w : LimitWrite} {p : TimeParams} (hw : w.inRange = true) (hp : (w.into p).paired = true)
    (h : p.limitsOk = true) : (w.into p).limitsOk = true := by
  simp only [LimitWrite.inRange, Bool.and_eq_true, Option.all_eq_true, decide_eq_true_eq] at hw
  simp only [TimeParams.limitsOk, TimeParams.paired, decide_eq_true_eq] at hp h ⊢
  obtain ⟨⟨⟨⟨hwindow, houtlier⟩, hstep⟩, hphase⟩, hfreq⟩ := hw
  obtain ⟨hw1, hw2, -, ho, hs1, hs2, hp1, hp2, -, hf⟩ := h
  obtain ⟨hw1, hw2⟩ := getD_of (P := fun x => 1 ≤ x ∧ x ≤ 10000) _ hwindow ⟨hw1, hw2⟩
  obtain ⟨hs1, hs2⟩ := getD_of (P := fun x => 100 ≤ x ∧ x ≤ 500000000) _ hstep ⟨hs1, hs2⟩
  obtain ⟨hp1, hp2⟩ := getD_of (P := fun x => 60 ≤ x ∧ x ≤ 86400) _ hphase ⟨hp1, hp2⟩
  exact ⟨hw1, hw2, hp.1, getD_of (P := (· ≤ 100000)) _ houtlier ho, hs1, hs2, hp1, hp2, hp.2, getD_of (P := (· ≤ 2592000)) _ hfreq hf⟩

theorem judgeSetTimeLimits_tables (ps : List Byte) {s : State} (hl : s.scu.site ≠ .loading) :
    Takes (judgeSetTimeLimits ps s) (TablesKept s) := by
  refine .withParams _ fun w => .ite (fun hw => .taken _ ?_) fun _ => .refuse _
  simp only [Bool.and_eq_true] at hw
  obtain ⟨⟨-, hrange⟩, hpaired⟩ := hw
  refine .through (inForce_ite (inForce_deriveClass _) rfl) (.of_params hl (fun t => { t with params := w.into t.params }) fun h => ?_)
  obtain ⟨hpriority, hacquire, htrack, hlimits⟩ := (TimeParams.inRange_iff _).mp h
  exact (TimeParams.inRange_iff _).mpr ⟨hpriority, hacquire, htrack, LimitWrite.into_limitsOk hrange hpaired hlimits⟩

end Sys2Proof.Machine

/-! Every command and every step: the tables in range and the contracts kept (chapters 5 and 11). -/

namespace Sys2Proof.Machine

open Sys2Proof

/-! ## The load (R91, R211) -/

/-- Tables in range installed in a state that is no longer LOADING: the records are there, in range, and the contracts kept. -/
theorem tablesKept_of_installed {t u : State} {tb : Tables} (htb : tb.Ranged) (htables : u.tables = tb)
    (htenants : u.scu.tenants = some tb.tenants) : TablesKept t u where
  right _ _ := ⟨by simp [htenants], htables ▸ (Tables.inRange_iff tb).mpr htb⟩
  contracts _ ts hts := by
    obtain rfl : tb.tenants = ts := Option.some.inj (htenants.symm.trans hts)
    have hceiling : u.scu.ceiling = tb.ceiling := congrArg Tables.ceiling htables
    exact ⟨htb.slot0, hceiling ▸ htb.sum, fun k => ((TenantRec.inRange_iff _).mp (htb.records k)).1.1⟩

theorem defaultTables_ranged : defaultTables.Ranged := (Tables.inRange_iff _).mp (by decide)

theorem completeLoad_tables (flash : List Byte) (s : State) : TablesKept s (completeLoad flash s) := by
  unfold completeLoad
  split
  · next tb hjudged =>
    have hentered := setSiteState_tablesStand .bringup (installTables tb (s.updDsu fun d => { d with load := some .valid }))
    obtain ⟨htables, htenants, -⟩ := hentered.trans (enterDiscovery_tablesStand _)
    exact tablesKept_of_installed (judgeDescriptor_ranged hjudged) htables htenants
  · next f _ =>
    obtain ⟨htables, htenants, -⟩ := setSiteState_tablesStand .unconfigured
      (installTables defaultTables (s.updDsu fun d => { d with load := some (.defaults f) }))
    exact tablesKept_of_installed defaultTables_ranged htables htenants

/-- After a power-on reset the site is LOADING and no records are installed (R91). -/
theorem tablesKept_powerOnReset (strap : Bool) (s : State) : Leaves (execPowerOnReset strap s) (TablesKept s) :=
  .next ⟨fun _ h => absurd rfl h, fun _ _ h => nomatch h⟩

/-! ## Requests that leave the tables -/

theorem TablesKept.of_tablesStand {s t : State} (hl : s.scu.site ≠ .loading) (h : s.tablesStand t) : TablesKept s t := .of_stands hl h.1 h.2.1

theorem reads_tables (ps : List Byte) (data : List Field) (s : State) : Takes (reads ps data s) (TablesKept s) :=
  .withParams _ fun _ => .taken _ (.refl s)

theorem readsSlot_tables (ps : List Byte) (data : Slot → List Field) (s : State) : Takes (readsSlot ps data s) (TablesKept s) :=
  .withParams _ fun _ => .withParams _ fun _ => .taken _ (.refl s)

theorem judgeBeginBringup_tables (ps : List Byte) {s : State} (hl : s.scu.site ≠ .loading) :
    Takes (judgeBeginBringup ps s) (TablesKept s) := by
  refine .ite (fun _ => .refuse _) fun _ => .withParams _ fun _ => ?_
  split
  · exact .error _ _
  · exact .taken _ (.of_tablesStand hl ((setSiteState_tablesStand _ s).trans (enterDiscovery_tablesStand _)))

theorem judgeRetryAcceptance_tables (ps : List Byte) {s : State} (hl : s.scu.site ≠ .loading) :
    Takes (judgeRetryAcceptance ps s) (TablesKept s) := by
  have hclear : s.tablesStand (enterService .emptySet (clearFailure s)) := by simp [clearFailure, State.tablesStand, State.tables]
  obtain ⟨-, -, -, -, hretried, -⟩ := retried_frame s
  exact .ite (fun _ => .refuse _) fun _ => .withParams _ fun _ => .ite (fun _ => .taken _ (.of_tablesStand hl hclear)) fun _ =>
    .ite (fun _ => .taken _ (.of_tablesStand hl (hretried.trans (settle_tablesStand _)))) fun _ => .refuse _

theorem judgeForceService_tables (ps : List Byte) {s : State} (hl : s.scu.site ≠ .loading) :
    Takes (judgeForceService ps s) (TablesKept s) := by
  have hforced : s.tablesStand (enterService .forced (s.updScu fun c => { c with tracking := [] })) := by
    simp [State.tablesStand, State.tables]
  exact .ite (fun _ => .refuse _) fun _ => .withParams _ fun _ => .taken _ (.of_tablesStand hl hforced)

theorem judgeLinkRestart_tables (ps : List Byte) {s : State} (hl : s.scu.site ≠ .loading) :
    Takes (judgeLinkRestart ps s) (TablesKept s) :=
  .ite (fun _ => .refuse _) fun _ => .withParams _ fun _ => .taken _ (.of_tablesStand hl (enterDiscovery_tablesStand s))

theorem cancelOrder_inForce (o : Order) (s : State) : (cancelOrder o s).inForce = s.inForce := by
  unfold cancelOrder
  split
  · split
    · exact inForce_abortLoop s _
    · exact inForce_endRunning s _
  · rw [inForce_settle, inForce_completeOrder, inForce_updTsu]

theorem judgeCancelTest_tables (k : Slot) (ps : List Byte) (s : State) : Takes (judgeCancelTest k ps s) (TablesKept s) := by
  refine .withParams _ fun _ => .ite (fun _ => .refuse _) fun _ => ?_
  split
  · exact .refuse _
  · exact .ite (fun _ => .refuse _) fun _ => .ite (fun _ => .refuse _) fun _ => .taken _ (.of_inForce (cancelOrder_inForce _ s))

theorem judgeOrderTest_tables (k : Slot) (ps : List Byte) (s : State) : Takes (judgeOrderTest k ps s) (TablesKept s) :=
  .withParams _ fun _ => .ite (fun _ => .refuse _) fun _ => .taken _ (.of_inForce ((inForce_settle _).trans (inForce_updTsu s _)))

theorem judgeSetTime_tables (ps : List Byte) (s : State) : Takes (judgeSetTime ps s) (TablesKept s) :=
  .ite (fun _ => .refuse _) fun _ => .withParams _ fun _ => .ite (fun _ => .taken _ (.of_inForce (inForce_stepTime s _))) fun _ => .refuse _

theorem preset_params (t : Tmu) (v : Int) : (t.preset v).params = t.params := by
  unfold Tmu.preset
  split <;> rfl

/-! ## Replies, limits and completions -/

theorem retryDiscovery_inForce {step : DiscoveryStep} {c : OduCommand} {last : State → State} (h : ∀ t, (last t).inForce = t.inForce)
    (s : State) : (retryDiscovery step c last s).inForce = s.inForce := by
  unfold retryDiscovery
  split
  · exact inForce_ite (inForce_sendOdu _ _ _) ((h _).trans (inForce_endCommand s))
  · rfl

theorem takeConfirm_inForce {c : OduCommand} {answered : State → State} (h : ∀ t, (answered t).inForce = t.inForce) (s : State) :
    (takeConfirm c answered s).inForce = s.inForce := by
  obtain ⟨l, hl | ⟨-, hl⟩⟩ := takeConfirm_cases s c answered <;> rw [hl]
  · rfl
  · exact (h _).trans rfl

theorem endSave_inForce (v : Save) (good : Bool) (s : State) : (endSave v good s).inForce = s.inForce :=
  (inForce_raiseIn _ _ _).trans (inForce_updDsu s _)

theorem inPhase_inForce {p : SavePhase} {s : State} {f : Save → State} (h : ∀ v, (f v).inForce = s.inForce) :
    (inPhase p s f).inForce = s.inForce := by
  unfold inPhase
  split
  · exact inForce_ite (h _) rfl
  · rfl

theorem arrive_inForce (k : Slot) (bytes : List Byte) (cut : Bool) (s : State) : (arrive k bytes cut s).inForce = s.inForce :=
  inForce_of_frame (by simp) (by simp) (by simp) (by simp) (by simp)

theorem ppsCrossing_inForce (k : Slot) (n : Int) (s : State) : (ppsCrossing k n s).inForce = s.inForce :=
  inForce_of_frame (by simp) (by simp) (by simp) (by simp) (by simp)

/-! ## Every command -/

theorem exec_tablesKept (c : Instr) (s : State) : Leaves (exec c s) (TablesKept s) := by
  have hanswer : ∀ k tag st data, TablesKept s (answer k tag st data s) := fun k tag st data => .of_inForce (inForce_answer s k tag st data)
  have hstands : ∀ {t : State}, t.inForce = s.inForce → Leaves (.next t) (TablesKept s) := fun h => .next (.of_inForce h)
  cases c with
  | powerOnReset => exact tablesKept_powerOnReset _ s
  | descriptorLoad => exact .ite (.next (completeLoad_tables _ s)) (.next (.refl s))
  | readAccess | readEvents | siteStatus | linkStatus | readProfiles | timeRead | timeStatus | testStatus | descriptorStatus =>
    exact .next (serve_tablesKept fun _ => reads_tables _ _ s)
  | readTenant | queueStatus | grantStatus => exact .next (serve_tablesKept fun _ => readsSlot_tables _ _ s)
  | readResults => exact .next (serve_tablesKept fun _ => .withParams _ fun _ => .taken _ (.refl s))
  | identify k tag ps =>
    refine .next ?_
    unfold conclude
    split
    · exact hanswer _ _ _ _
    · next hv => exact .through (inForce_answer _ _ _ _ _) (reads_tables _ _ s _ _ hv)
  | requestWriteBegin => exact hstands rfl
  | corruptFrame k frame =>
    change Leaves (execCorruptFrame k frame s) _
    unfold execCorruptFrame
    split
    · exact .next (.refl s)
    · split
      · exact .next (hanswer _ _ _ _)
      · exact .refused _
  | unknownName => exact .ite (.refused _) (.next (hanswer _ _ _ _))
  | responseRead k n =>
    change Leaves (execResponseRead k n s) _
    unfold execResponseRead
    split
    · exact hstands rfl
    · dsimp only
      split
      · exact hstands rfl
      · exact hstands rfl
  | writeAccess => exact .next (serve_tablesKept (judgeWriteAccess_tables _))
  | setAcceptanceSet => exact .next (serve_tablesKept (judgeSetAcceptanceSet_tables _))
  | setSiteClass => exact .next (serve_tablesKept fun hl => .withParams _ fun _ => .taken _ (setSiteClass_tables _ hl))
  | setCommitCeiling => exact .next (serve_tablesKept fun _ => judgeSetCommitCeiling_tables _ s)
  | setSlotState => exact .next (serve_tablesKept (judgeSetSlotState_tables _ _))
  | writeShare => exact .next (serve_tablesKept (judgeWriteShare_tables _ _))
  | writeTuning => exact .next (serve_tablesKept (judgeWriteTuning_tables _ _))
  | setRungLimits => exact .next (serve_tablesKept (judgeSetRungLimits_tables _))
  | writeProfile => exact .next (serve_tablesKept (judgeWriteProfile_tables _))
  | setLinkLimits => exact .next (serve_tablesKept (judgeSetLinkLimits_tables _))
  | setGrantLimits => exact .next (serve_tablesKept (judgeSetGrantLimits_tables _))
  | setSourcePriority => exact .next (serve_tablesKept fun hl => .withParams _ fun _ => .ite (fun _ => .refuse _) fun hn =>
      .taken _ (writePriority_tables _ (not_lt.mp hn) hl))
  | setLoopBank => exact .next (serve_tablesKept (judgeSetLoopBank_tables _))
  | setTimeLimits => exact .next (serve_tablesKept (judgeSetTimeLimits_tables _))
  | beginBringup => exact .next (serve_tablesKept (judgeBeginBringup_tables _))
  | retryAcceptance => exact .next (serve_tablesKept (judgeRetryAcceptance_tables _))
  | forceService => exact .next (serve_tablesKept (judgeForceService_tables _))
  | linkRestart => exact .next (serve_tablesKept (judgeLinkRestart_tables _))
  | siteReset =>
    obtain ⟨-, -, -, -, hstand⟩ := siteReset_frame s
    exact .next (serve_tablesKept fun hl => .withParams _ fun _ => .taken _ (.of_tablesStand hl hstand))
  | tenantReset => exact .next (serve_tablesKept fun hl => .withParams _ fun _ => .withParams _ fun k => .taken _
      (.of_tablesStand hl (tenantReset_stands k s).2.2))
  | setLock => exact .next (serve_tablesKept fun _ => .withParams _ fun _ => .taken _ (.of_inForce rfl))
  | ackEvents =>
    exact .next (serve_tablesKept fun _ => .withParams _ fun _ => .ite (fun _ => .refuse _) fun _ => .taken _ (.of_inForce rfl))
  | setEventEnables =>
    exact .next (serve_tablesKept fun _ => .withParams _ fun _ => .ite (fun _ => .taken _ (.of_inForce rfl)) fun _ => .refuse _)
  | clearCounters =>
    exact .next (serve_tablesKept fun _ => .withParams _ fun _ => .withParams _ fun _ => .taken _ (.of_inForce rfl))
  | saveDescriptor =>
    exact .next (serve_tablesKept fun _ => .withParams _ fun _ => .ite (fun _ => .refuse _) fun _ => .taken _ (.of_inForce rfl))
  | setTime => exact .next (serve_tablesKept fun _ => judgeSetTime_tables _ s)
  | presetIntegrator => exact .next (serve_tablesKept fun _ => .withParams _ fun _ => .ite (fun _ => .refuse _) fun _ =>
      .taken _ (.of_inForce (inForce_updTmu s _ (preset_params _ _))))
  | clearTimeSticky => exact .next (serve_tablesKept fun _ => .withParams _ fun _ => .ite (fun _ => .refuse _) fun _ =>
      .taken _ (.of_inForce (inForce_updTmu s _ rfl)))
  | orderTest => exact .next (serve_tablesKept fun _ => judgeOrderTest_tables _ _ s)
  | cancelTest => exact .next (serve_tablesKept fun _ => judgeCancelTest_tables _ _ s)
  | oduIdentifyReply => exact .ite (hstands (inForce_sendOdu _ _ _)) (.next (.refl s))
  | identifyReplyLimit => exact .ite (hstands (retryDiscovery_inForce (fun t => inForce_failDiscovery t _) s)) (.next (.refl s))
  | readPageReply => exact .ite (hstands ((inForce_buildLadder _ _).trans (inForce_endCommand s))) (.next (.refl s))
  | readPageReplyLimit => exact .ite (hstands (retryDiscovery_inForce (fun t => inForce_buildLadder t _) s)) (.next (.refl s))
  | loopOnConfirmed => exact hstands (takeConfirm_inForce (fun t => (inForce_updLkc _ _ rfl).trans (inForce_endCommand t)) s)
  | loopOnLimit => exact .ite (hstands ((inForce_enterLoopExit _).trans (inForce_decideLoop s _))) (.next (.refl s))
  | loopOffConfirmed => exact hstands (takeConfirm_inForce inForce_endHold s)
  | loopOffLimit =>
    have habandoned := (inForce_judgeLooped _).trans (inForce_updLkc s _ (abandon_settings _))
    exact .ite (hstands ((inForce_enterLost _ _).trans habandoned)) (.next (.refl s))
  | loopedFrameReturn => exact hstands (inForce_returnLooped s _ _)
  | statusReport | missingStatusReport => exact hstands (inForce_takeReport s _)
  | farFrame => exact hstands (inForce_takeFarFrame s _)
  | missingFarFrame => exact .ite (hstands (inForce_missFrame s)) (.next (.refl s))
  | backoffExpiry => exact .ite (hstands (inForce_enterAcquiring s)) (.next (.refl s))
  | frameFill => exact hstands (inForce_fillFrame s)
  | frameLeavesRadioPort => exact hstands (inForce_sendFrame s)
  | packetArrival => exact hstands (arrive_inForce _ _ _ s)
  | gnssTimeMessage bytes =>
    change Leaves (execGnssTimeMessage bytes s) _
    unfold execGnssTimeMessage
    split
    · exact hstands (inForce_updTmu s _ rfl)
    · exact .next (.refl s)
  | gnssPulse => exact hstands (inForce_gnssPulse s)
  | pulseTimerExpiry => exact hstands (inForce_pulseTimerExpiry s)
  | siteSecondBoundary => exact hstands (inForce_siteSecond s _)
  | replyTimerExpiry => exact hstands (inForce_replyTimerExpiry s)
  | ppsEmission => exact hstands (ppsCrossing_inForce _ _ s)
  | ppsDelayedEmission | ppsPulseEnd => exact hstands (inForce_updTmu s _ rfl)
  | portLoopPacketSend => exact hstands (inForce_sendTestPacket s)
  | portLoopReturn => exact hstands (inForce_returnTestPacket s _)
  | loopTimerExpiry => exact hstands (inForce_expireLoopTimer s)
  | eraseComplete | programComplete => exact hstands (inPhase_inForce fun _ => rfl)
  | verifyComplete => exact hstands (inPhase_inForce fun _ => inForce_ite rfl (endSave_inForce _ _ s))
  | commitComplete => exact hstands (inPhase_inForce fun _ => endSave_inForce _ _ s)
  | saveTimerExpiry =>
    change Leaves (execSaveTimerExpiry s) _
    unfold execSaveTimerExpiry
    split
    · exact .ite (hstands (endSave_inForce _ _ s)) (.next (.refl s))
    · exact .next (.refl s)

/-! ## The obligation -/

/-- Settles O17: a step is a nanosecond, which leaves the tables, or the command at the front, and neither predicate reads the queue. -/
theorem tablesStayInRange : Obligations.TablesStayInRange := by
  unfold Obligations.TablesStayInRange
  intro s t h
  have hkept : TablesKept s t := by
    obtain ⟨-, rfl⟩ | ⟨c, rest, -, hexec⟩ := step_cases h
    · exact .of_inForce (tick_inForce s)
    · have hdequeued : TablesKept s { s with pending := rest } := .of_inForce rfl
      exact hdequeued.trans (exec_tablesKept c _ t hexec)
  exact ⟨hkept.right, hkept.contracts⟩

end Sys2Proof.Machine

/-! WRITE_SHARE and WRITE_TUNING judged (R86, R87, R89, R90, R126, R127). -/

namespace Sys2Proof.Machine

open Sys2Proof

/-! ## What a WRITE_SHARE names (R86, R199) -/

theorem takeNat_one {bs rest : List Byte} {n : Nat} (h : takeNat 1 bs = some (n, rest)) : ∃ b, bs = b :: rest ∧ n = b.toNat := by
  cases bs with
  | nil => cases h
  | cons b bs =>
    obtain ⟨-, h⟩ := Option.ite_none_left_eq_some.mp h
    cases h
    exact ⟨b, rfl, by simp [beNat]⟩

/-- The presence byte says whether the field is there. -/
theorem takeOpt_presence {α : Type} {f : List Byte → Option (α × List Byte)} {bs rest : List Byte} {o : Option α}
    (h : takeOpt f bs = some (o, rest)) : (∃ tail, bs = 0x01 :: tail ∧ o.isSome = true) ∨ (bs = 0x00 :: rest ∧ o = none) := by
  obtain ⟨⟨n, bs1⟩, hn, h⟩ := Option.bind_eq_some_iff.mp h
  obtain ⟨b, rfl, rfl⟩ := takeNat_one hn
  dsimp only at h
  split at h
  · next hb =>
    cases h
    exact .inr ⟨by rw [BitVec.eq_of_toNat_eq (y := 0x00#8) hb]; rfl, rfl⟩
  · next hb =>
    obtain ⟨⟨a, bs2⟩, -, heq⟩ := Option.map_eq_some_iff.mp h
    cases heq
    exact .inl ⟨bs1, by rw [BitVec.eq_of_toNat_eq (y := 0x01#8) hb]; rfl, rfl⟩
  · cases h

/-- What the lock looks at is what the list names. -/
theorem shareNamesContract_eq {ps : List Byte} {w : ShareWrite} (h : shareParams ps = some w) :
    shareNamesContract ps = (w.q.isSome || w.p.isSome) := by
  have hread := whole_some h
  obtain ⟨⟨k, bs⟩, hk, hread⟩ := Option.bind_eq_some_iff.mp hread
  obtain ⟨⟨q, bs1⟩, hq, hread⟩ := Option.bind_eq_some_iff.mp hread
  obtain ⟨⟨p, bs2⟩, hp, hread⟩ := Option.bind_eq_some_iff.mp hread
  have hfields : w.q = q ∧ w.p = p := by
    obtain ⟨⟨x, bs3⟩, -, hread⟩ := Option.bind_eq_some_iff.mp hread
    obtain ⟨⟨prio, bs4⟩, -, hread⟩ := Option.bind_eq_some_iff.mp hread
    cases hread
    exact ⟨rfl, rfl⟩
  obtain ⟨rfl, rfl⟩ := hfields
  obtain ⟨b, rfl, -⟩ := takeNat_one hk
  obtain ⟨tail, rfl, hsome⟩ | ⟨rfl, hnone⟩ := takeOpt_presence hq
  · simp [shareNamesContract, hsome]
  · obtain ⟨tail, rfl, hsome⟩ | ⟨rfl, hnone'⟩ := takeOpt_presence hp
    · simp [shareNamesContract, hsome]
    · simp [shareNamesContract, hnone, hnone']

/-! ## WRITE_SHARE judged (R86, R89) -/

theorem exec_writeShare (k : Slot) (tag : Byte) (ps : List Byte) (s : State) :
    exec (.writeShare k tag ps) s
      = .next (serve k tag (s.holds k .shareControl) (shareNamesContract ps) (judgeWriteShare k ps s) s) := rfl

/-- The judgement with the list read and the records installed. -/
theorem judgeWriteShare_eq {ps : List Byte} {w : ShareWrite} {j : Slot} {ts : PerSlot TenantRec} {s : State} (hps : shareParams ps = some w)
    (hj : w.target = j.val) (hts : s.scu.tenants = some ts) (k : Slot) :
    judgeWriteShare k ps s
      = if w.valid (ts.get j) = false then refuse .badValue
        else if (ts.get j).state ≠ .vacant ∧ s.scu.ceiling < commitSum (ts.modify j w.into) then refuse .overcommit
        else taken [] (recordChanged k j (s.updTenant j w.into)) := by
  have hrecord : s.tenant j = some (ts.get j) := by simp [State.tenant, hts]
  rw [judgeWriteShare, hps, withParams_some, hj, slotOf_val, withParams_some, hrecord, withParams_some]
  simp only [State.withinCeiling, hts, decide_eq_false_iff_not, not_le]

theorem updTenant_eq {s : State} {ts : PerSlot TenantRec} (hts : s.scu.tenants = some ts) (j : Slot) (f : TenantRec → TenantRec) :
    s.updTenant j f = { s with scu := { s.scu with tenants := some (ts.modify j f) } } := by
  simp [State.updTenant, State.updScu, hts]

/-! ## WRITE_TUNING judged (R87, R89) -/

/-- What holds of a list whose first field reads as it does. -/
theorem whole_field {α β : Type} {f : List Byte → Option (α × List Byte)} {g : α × List Byte → Option (β × List Byte)} {ps : List Byte}
    {b : β} {Q : β → Prop} (h : whole (fun bs => f bs >>= g) ps = some b)
    (hg : ∀ a bs, f ps = some (a, bs) → Reads (fun bs => g (a, bs)) Q) : Q b := by
  obtain ⟨⟨a, bs⟩, ha, hread⟩ := Option.bind_eq_some_iff.mp (whole_some h)
  exact hg a bs ha _ _ _ hread

/-- The slot a WRITE_TUNING names stands in its first byte. -/
theorem tuningParams_target {ps : List Byte} {w : TuningWrite} (h : tuningParams ps = some w) : targetOf ps = slotOf w.target := by
  refine whole_field (Q := fun w : TuningWrite => targetOf ps = slotOf w.target) h fun k bs hk => ?_
  iterate 6 refine .skip fun _ => ?_
  obtain ⟨b, rfl, rfl⟩ := takeNat_one hk
  exact .done rfl

/-- Who may tune: SHARE_CONTROL, and OWN_TUNING for the slot itself. -/
theorem serve_mayTune {s : State} {k j : Slot} {ps : List Byte} (hstanding : s.standing k = true) (htarget : targetOf ps = some j)
    (hmay : s.holds k .shareControl = true ∨ (j = k ∧ s.holds k .ownTuning = true)) (tag : Byte) :
    exec (.writeTuning k tag ps) s = .next (conclude k tag (judgeWriteTuning k ps s) s) := by
  have hpermitted : (s.holds k .shareControl || (namesOwn k ps && s.holds k .ownTuning)) = true := by
    simpa [namesOwn, htarget] using hmay
  show Host.Outcome.next
    (serve k tag (s.holds k .shareControl || (namesOwn k ps && s.holds k .ownTuning)) false (judgeWriteTuning k ps s) s) = _
  rw [hpermitted, serve_owner tag _ hstanding (.inl rfl)]

theorem judgeWriteTuning_eq {ps : List Byte} {w : TuningWrite} {j : Slot} (hps : tuningParams ps = some w) (hj : w.target = j.val) (k : Slot)
    (s : State) :
    judgeWriteTuning k ps s = if w.valid = false then refuse .badValue else taken [] (recordChanged k j (tune j w s)) := by
  rw [judgeWriteTuning, hps, withParams_some, hj, slotOf_val, withParams_some]

/-! ## What a WRITE_TUNING leaves (R87, R90, R126, R127) -/

/-- The record written, and the crossing an offset takes away. -/
def tuningWritten (j : Slot) (w : TuningWrite) (s : State) : State :=
  if w.offset.isSome then (s.updTenant j w.into).updTmu fun u => u.takePulse j else s.updTenant j w.into

/-- With the fitness and the lines judged where a class is named. -/
def tuningJudged (j : Slot) (w : TuningWrite) (s : State) : State :=
  if w.cls.isSome then recomputeInhibit (judgeFitness (tuningWritten j w s) j) else tuningWritten j w s

theorem tune_eq (j : Slot) (w : TuningWrite) (s : State) : tune j w s = ppsFollow j (tuningJudged j w s) := rfl

theorem tuningWritten_blocks (j : Slot) (w : TuningWrite) (s : State) :
    (tuningWritten j w s).scu = (s.updTenant j w.into).scu ∧ (tuningWritten j w s).lkc = s.lkc ∧ (tuningWritten j w s).tqm = s.tqm
      ∧ (tuningWritten j w s).gre = s.gre ∧ (tuningWritten j w s).tsu = s.tsu ∧ (tuningWritten j w s).dsu = s.dsu
      ∧ (tuningWritten j w s).tmu = { s.tmu with
          crossed := { s.tmu.crossed with pulses :=
            if w.offset.isSome = true then s.tmu.crossed.pulses.set j none else s.tmu.crossed.pulses } } := by
  unfold tuningWritten
  split <;> simp [Tmu.takePulse]

theorem tuningJudged_blocks (j : Slot) (w : TuningWrite) (s : State) :
    (tuningJudged j w s).scu.tenants = s.scu.tenants.map (fun ts => ts.modify j w.into) ∧ (tuningJudged j w s).scu.ceiling = s.scu.ceiling
      ∧ (tuningJudged j w s).lkc = s.lkc ∧ (tuningJudged j w s).tqm = s.tqm ∧ (tuningJudged j w s).gre = s.gre
      ∧ (tuningJudged j w s).tsu = s.tsu ∧ (tuningJudged j w s).dsu = s.dsu ∧ (tuningJudged j w s).tmu = (tuningWritten j w s).tmu := by
  obtain ⟨hscu, hlkc, htqm, hgre, htsu, hdsu, -⟩ := tuningWritten_blocks j w s
  unfold tuningJudged
  split <;> simp [hscu, hlkc, htqm, hgre, htsu, hdsu, State.updTenant]

/-- Without a class named the fitness and the lines stand. -/
theorem tune_of_noClass {w : TuningWrite} (h : w.cls = none) (j : Slot) (s : State) :
    (tune j w s).scu.fit = s.scu.fit ∧ (tune j w s).scu.inhibit = s.scu.inhibit := by
  obtain ⟨hscu, -⟩ := tuningWritten_blocks j w s
  simp [tune_eq, tuningJudged, h, hscu]

/-- A class named is the required class at once: the slot's fitness is judged by it, and the lines follow (R90). -/
theorem tune_of_class {w : TuningWrite} {c : TimeClass} {ts : PerSlot TenantRec} {j : Slot} {s : State} (h : w.cls = some c)
    (hts : s.scu.tenants = some ts) (hv : (ts.get j).state ≠ .vacant) :
    (tune j w s).scu.fit.get j = s.tmu.cls.meets c ∧ (tune j w s).inhibitsRight := by
  obtain ⟨hscu, -, -, -, -, -, htmu⟩ := tuningWritten_blocks j w s
  have hjudged : tuningJudged j w s = recomputeInhibit (judgeFitness (tuningWritten j w s) j) := by simp [tuningJudged, h]
  have hwritten : (tuningWritten j w s).scu.tenants = some (ts.modify j w.into) := by simp [hscu, State.updTenant, hts]
  have hstate : ((ts.modify j w.into).get j).state ≠ .vacant := by rwa [PerSlot.get_modify_same]
  rw [tune_eq, hjudged]
  constructor
  · have hfit : (ppsFollow j (recomputeInhibit (judgeFitness (tuningWritten j w s) j))).scu.fit
        = (judgeFitness (tuningWritten j w s) j).scu.fit := by simp
    rw [hfit, judgeFitness_fit, if_pos rfl, judged_of_record hwritten, if_neg hstate, PerSlot.get_modify_same, htmu]
    simp [TuningWrite.into, h]
  · exact inhibitsRight_congr (by simp) (by simp) (by simp) (by simp) (recomputeInhibit_right (judgeFitness (tuningWritten j w s) j))

/-- The clock after it: the crossing an offset takes away, and the pulses of a slot that may not emit as it is left (R126, R127). -/
theorem tune_tmu {ts : PerSlot TenantRec} {s : State} (hts : s.scu.tenants = some ts) (j : Slot) (w : TuningWrite) :
    (tune j w s).tmu = { s.tmu with
      crossed := { s.tmu.crossed with pulses :=
        if w.offset.isSome = true then s.tmu.crossed.pulses.set j none else s.tmu.crossed.pulses }
      pps :=
        if (ts.get j).state = .enabled ∧ w.on.getD (ts.get j).ppsOn = true then s.tmu.pps
        else s.tmu.pps.modify j (fun g => { g with delayed := [] }) } := by
  obtain ⟨-, -, -, -, -, -, hwritten⟩ := tuningWritten_blocks j w s
  obtain ⟨htenants, -, -, -, -, -, -, htmu⟩ := tuningJudged_blocks j w s
  have hrecords : (tuningJudged j w s).scu.tenants = some (ts.modify j w.into) := by simp [htenants, hts]
  have hemits := mayEmit_iff hrecords j
  rw [PerSlot.get_modify_same] at hemits
  rw [tune_eq, ppsFollow_tmu, htmu, hwritten]
  simp only [hemits]
  rfl

/-! ## The obligation -/

/-- Settles O29: each request's judgement with its list read, and for a tuning that is taken, block by block. -/
theorem sharesAndTuningWritten : Obligations.SharesAndTuningWritten := by
  unfold Obligations.SharesAndTuningWritten
  intro k j tag ts ps s hts
  refine ⟨fun w hps hj hask hlock hnames => ?_, fun w hps hj hask hopen => ?_, fun w hps hj hstanding hmay => ?_⟩
  · have hfrozen : shareNamesContract ps = true := by simpa [shareNamesContract_eq hps] using hnames
    rw [exec_writeShare, hask.2, hfrozen, serve_locked tag _ hask.1 hlock]
  · have hserved : shareNamesContract ps = false ∨ s.sli.lock = false :=
      hopen.elim .inr fun ⟨hq, hp⟩ => .inl (by simp [shareNamesContract_eq hps, hq, hp])
    rw [exec_writeShare, serve_mayAsk hask tag _ hserved, judgeWriteShare_eq hps hj hts]
    refine ⟨fun hv => by rw [if_pos hv, conclude_refuse], fun hv hstate hover => ?_, fun hv hroom => ?_⟩
    · rw [if_neg (by simp [hv]), if_pos ⟨hstate, hover⟩, conclude_refuse]
    · have hfits : ¬((ts.get j).state ≠ .vacant ∧ s.scu.ceiling < commitSum (ts.modify j w.into)) := fun ⟨hstate, hover⟩ =>
        hroom.elim hstate fun h => absurd hover h.not_gt
      rw [if_neg (by simp [hv]), if_neg hfits, conclude_taken, updTenant_eq hts]
      rfl
  · have htarget : targetOf ps = some j := by rw [tuningParams_target hps, hj, slotOf_val]
    rw [serve_mayTune hstanding htarget hmay, judgeWriteTuning_eq hps hj]
    refine ⟨fun hv => by rw [if_pos hv, conclude_refuse], fun hv => ?_⟩
    obtain ⟨rscu, rlkc, rtqm, rgre, rtmu, rtsu, rdsu⟩ := recordChanged_blocks k j (tune j w s)
    obtain ⟨htenants, hceiling, hlkc, htqm, hgre, htsu, hdsu, -⟩ := tuningJudged_blocks j w s
    rw [if_neg (by simp [hv]), conclude_taken]
    refine ⟨recordChanged k j (tune j w s), rfl, ?_⟩
    rw [rscu, rlkc, rtqm, rgre, rtmu, rtsu, rdsu]
    refine ⟨by simp [tune_eq, htenants, hts], fun hc => tune_of_noClass hc j s, fun c hc hstate => ?_, fun hk => pends_recordChanged hk _,
      tune_tmu hts j w, ?_⟩
    · obtain ⟨hfit, hright⟩ := tune_of_class hc hts hstate
      exact ⟨hfit, inhibitsRight_congr (by rw [rscu]) (by rw [rscu]) (by rw [rscu]) (by rw [rscu]) hright⟩
    · simp [tune_eq, htqm, hgre, hlkc, htsu, hdsu, hceiling]

end Sys2Proof.Machine

/-! The grant pass (chapter 6): rankings of the slots, walks of a ranking, and the division of a frame's room. -/

namespace Sys2Proof

theorem PerSlot.sum_map_allSlots (p : PerSlot Nat) : (allSlots.map p.get).sum = p.sum := by
  simp only [allSlots, List.map_cons, List.map_nil, List.sum_cons, List.sum_nil, PerSlot.sum_eq_get]
  omega

theorem PerSlot.get_le_sum (p : PerSlot Nat) (k : Slot) : p.get k ≤ p.sum := by
  rw [PerSlot.sum_eq_get]
  fin_cases k <;> simp <;> omega

end Sys2Proof

namespace Sys2Proof.Machine

open Sys2Proof

/-! ## Rankings -/

section ranking

variable {α : Type} [LinearOrder α] {key : Slot → α} {before : Slot → Slot → Bool}

/-- Slot `j` ranks ahead of slot `k`: the larger by the key first, and of two that it leaves equal the lower slot. -/
def Ahead (key : Slot → α) (j k : Slot) : Prop := key k < key j ∨ (key j = key k ∧ j < k)

theorem Ahead.asymm {j k : Slot} (h : Ahead key j k) : ¬Ahead key k j := by
  rintro (hlt | ⟨heq, hlt⟩) <;> obtain h | ⟨h, hslot⟩ := h
  · exact lt_asymm h hlt
  · exact hlt.ne h
  · exact h.ne heq
  · exact lt_asymm hslot hlt

theorem Ahead.ne {j k : Slot} (h : Ahead key j k) : j ≠ k := by
  rintro rfl
  exact h.asymm h

theorem Ahead.total {j k : Slot} (h : j ≠ k) : Ahead key j k ∨ Ahead key k j := by
  obtain hlt | heq | hlt := lt_trichotomy (key j) (key k)
  · exact .inr (.inl hlt)
  · exact (lt_or_gt_of_ne h).imp (fun hslot => .inr ⟨heq, hslot⟩) fun hslot => .inr ⟨heq.symm, hslot⟩
  · exact .inl (.inl hlt)

theorem insertRanked_perm (before : Slot → Slot → Bool) (k : Slot) (ranked : List Slot) :
    (insertRanked before k ranked).Perm (k :: ranked) := by
  induction ranked with
  | nil => exact .refl _
  | cons j rest ih =>
    unfold insertRanked
    split
    · exact (ih.cons j).trans (.swap k j rest)
    · exact .refl _

/-- A slot put into a ranking of higher slots goes before those that the key leaves equal to it. -/
theorem insertRanked_pairwise (hb : ∀ j k, before j k = true ↔ key k < key j) {k : Slot} {ranked : List Slot}
    (h : ranked.Pairwise (Ahead key)) (hk : ∀ j ∈ ranked, k < j) : (insertRanked before k ranked).Pairwise (Ahead key) := by
  induction ranked with
  | nil => exact List.pairwise_singleton _ _
  | cons j rest ih =>
    obtain ⟨hj, hrest⟩ := List.pairwise_cons.mp h
    unfold insertRanked
    split
    · next hbefore =>
      refine List.pairwise_cons.mpr ⟨fun i hi => ?_, ih hrest fun i hi => hk i (List.mem_cons_of_mem _ hi)⟩
      obtain rfl | hi := List.mem_cons.mp ((insertRanked_perm before k rest).mem_iff.mp hi)
      · exact .inl ((hb j i).mp hbefore)
      · exact hj i hi
    · next hbefore =>
      have hle : key j ≤ key k := not_lt.mp fun hlt => hbefore ((hb j k).mpr hlt)
      have hahead : ∀ i ∈ j :: rest, key i ≤ key j := fun i hi => by
        obtain rfl | hi := List.mem_cons.mp hi
        · exact le_rfl
        · exact (hj i hi).elim le_of_lt fun heq => heq.1.ge
      refine List.pairwise_cons.mpr ⟨fun i hi => ?_, h⟩
      exact ((hahead i hi).trans hle).lt_or_eq.imp id fun heq => ⟨heq.symm, hk i hi⟩

theorem foldr_insertRanked_perm (before : Slot → Slot → Bool) (l : List Slot) : (l.foldr (insertRanked before) []).Perm l := by
  induction l with
  | nil => exact .refl _
  | cons k l ih => exact (insertRanked_perm before k _).trans (ih.cons k)

/-- The ranking holds the four slots, each once. -/
theorem rankSlots_perm (before : Slot → Slot → Bool) : (rankSlots before).Perm allSlots := foldr_insertRanked_perm before allSlots

/-- Slots put in from the highest down stand in their order. -/
theorem foldr_insertRanked_pairwise (hb : ∀ j k, before j k = true ↔ key k < key j) {l : List Slot} (hl : l.Pairwise (· < ·)) :
    (l.foldr (insertRanked before) []).Pairwise (Ahead key) := by
  induction l with
  | nil => exact .nil
  | cons k l ih =>
    obtain ⟨hk, hl⟩ := List.pairwise_cons.mp hl
    exact insertRanked_pairwise hb (ih hl) fun j hj => hk j ((foldr_insertRanked_perm before l).mem_iff.mp hj)

theorem rankSlots_pairwise (hb : ∀ j k, before j k = true ↔ key k < key j) : (rankSlots before).Pairwise (Ahead key) :=
  foldr_insertRanked_pairwise hb (by decide)

theorem mem_rankSlots (before : Slot → Slot → Bool) (k : Slot) : k ∈ rankSlots before :=
  (rankSlots_perm before).mem_iff.mpr (mem_allSlots k)

end ranking

/-- Ahead by two figures, the first of them before the second. -/
theorem ahead_lex {a b : Slot → Nat} {j k : Slot} (h : a k < a j ∨ (a j = a k ∧ (b k < b j ∨ (b j = b k ∧ j < k)))) :
    Ahead (fun i => toLex (a i, b i)) j k := by
  obtain hfirst | ⟨hfirst, hsecond | ⟨hsecond, hslot⟩⟩ := h
  · exact .inl (Prod.Lex.toLex_lt_toLex.mpr (.inl hfirst))
  · exact .inl (Prod.Lex.toLex_lt_toLex.mpr (.inr ⟨hfirst.symm, hsecond⟩))
  · exact .inr ⟨congrArg toLex (Prod.ext hfirst hsecond), hslot⟩

/-- The make-good ranking: by priority, then by what is owed (R104). -/
theorem owedRank_pairwise (prio owed : PerSlot Nat) :
    (owedRank prio owed).Pairwise (Ahead fun k => toLex (prio.get k, owed.get k)) :=
  rankSlots_pairwise fun j k => by
    rw [decide_eq_true_iff, Prod.Lex.toLex_lt_toLex]
    exact or_congr_right (and_congr_left fun _ => eq_comm)

/-- The round-2 ranking: by priority (R108). -/
theorem surplusRank_pairwise (prio : PerSlot Nat) : (surplusRank prio).Pairwise (Ahead prio.get) :=
  rankSlots_pairwise fun _ _ => decide_eq_true_iff

/-- The ranking of a shortage's leftover: by remainder (R102). -/
theorem remainderRank_pairwise (room : Nat) (q : PerSlot Nat) :
    (remainderRank room q).Pairwise (Ahead fun k => q.get k * room % q.sum) :=
  (rankSlots_pairwise fun _ _ => decide_eq_true_iff).filter _

theorem mem_remainderRank (room : Nat) (q : PerSlot Nat) (k : Slot) : k ∈ remainderRank room q ↔ 0 < q.get k := by
  simp [remainderRank, mem_rankSlots]

/-! ## Walks of a ranking -/

section walks

variable {want : PerSlot Nat} {ranked : List Slot} {room : Nat}

theorem walk_cons_ne {j k : Slot} (h : j ≠ k) :
    (walk want (k :: ranked) room).get j = (walk want ranked (room - min (want.get k) room)).get j :=
  PerSlot.get_modify_ne _ h _

theorem walk_of_notMem {k : Slot} (h : k ∉ ranked) : (walk want ranked room).get k = 0 := by
  induction ranked generalizing room with
  | nil => fin_cases k <;> rfl
  | cons j rest ih =>
    obtain ⟨hne, hrest⟩ : k ≠ j ∧ k ∉ rest := by simpa using h
    rw [walk_cons_ne hne, ih hrest]

/-- The slot at the head of a walk takes what it wants, or all that there is. -/
theorem walk_cons_head {k : Slot} (h : k ∉ ranked) : (walk want (k :: ranked) room).get k = min (want.get k) room := by
  rw [walk, PerSlot.get_modify_same, walk_of_notMem h, Nat.zero_add]

/-- A walk gives out its room, or where less, all that its slots want. -/
theorem walk_sum (want : PerSlot Nat) (ranked : List Slot) (room : Nat) :
    (walk want ranked room).sum = min room (ranked.map want.get).sum := by
  induction ranked generalizing room with
  | nil => exact (Nat.min_zero room).symm
  | cons k rest ih =>
    rw [walk, PerSlot.sum_modify_add, ih, List.map_cons, List.sum_cons]
    omega

theorem walk_rankSlots_sum (want : PerSlot Nat) (before : Slot → Slot → Bool) (room : Nat) :
    (walk want (rankSlots before) room).sum = min room want.sum := by
  rw [walk_sum, ((rankSlots_perm before).map want.get).sum_eq, PerSlot.sum_map_allSlots]

variable {α : Type} [LinearOrder α] {key : Slot → α}

theorem walk_get_le (h : ranked.Pairwise (Ahead key)) (k : Slot) : (walk want ranked room).get k ≤ want.get k := by
  induction ranked generalizing room with
  | nil => rw [walk_of_notMem List.not_mem_nil]; exact Nat.zero_le _
  | cons j rest ih =>
    obtain ⟨hj, hrest⟩ := List.pairwise_cons.mp h
    by_cases hk : k = j
    · subst hk
      rw [walk_cons_head fun hmem => (hj k hmem).ne rfl]
      exact min_le_left _ _
    · rw [walk_cons_ne hk]
      exact ih hrest

/-- No slot of a walk takes anything before those ahead of it are served in full. -/
theorem walk_serves_ahead (h : ranked.Pairwise (Ahead key)) {j k : Slot} (hmem : j ∈ ranked) (hjk : Ahead key j k)
    (hk : 0 < (walk want ranked room).get k) : (walk want ranked room).get j = want.get j := by
  induction ranked generalizing room with
  | nil => exact absurd hmem List.not_mem_nil
  | cons i rest ih =>
    obtain ⟨hi, hrest⟩ := List.pairwise_cons.mp h
    have hnot : i ∉ rest := fun hmem => (hi i hmem).ne rfl
    obtain rfl | hj := List.mem_cons.mp hmem
    · rw [walk_cons_ne hjk.ne.symm] at hk
      have hleft : 0 < room - min (want.get j) room := by
        refine lt_of_lt_of_le hk (le_trans ?_ (walk_le want rest _))
        exact PerSlot.get_le_sum _ k
      rw [walk_cons_head hnot]
      omega
    · have hki : k ≠ i := by
        rintro rfl
        exact (hi j hj).asymm hjk
      rw [walk_cons_ne hki] at hk
      rw [walk_cons_ne (hi j hj).ne.symm]
      exact ih hrest hj hk

end walks

/-! ## The entitlements (R101, R102) -/

/-- Where the commitments fit the room they are the entitlements. -/
theorem entitlements_fit {room : Nat} {q : PerSlot Nat} (h : q.sum ≤ room) : entitlements room q = q := if_pos h

/-- The leftover PB of a shortage, slot by slot. -/
def leftover (room : Nat) (q : PerSlot Nat) : PerSlot Nat :=
  walk ⟨1, 1, 1, 1⟩ (remainderRank room q) (room - (floors room q).sum)

theorem entitlements_short {room : Nat} {q : PerSlot Nat} (h : room < q.sum) :
    entitlements room q = PerSlot.ofFn fun k => (floors room q).get k + (leftover room q).get k := if_neg h.not_ge

theorem get_ones (k : Slot) : (⟨1, 1, 1, 1⟩ : PerSlot Nat).get k = 1 := by fin_cases k <;> rfl

theorem leftover_le_one (room : Nat) (q : PerSlot Nat) (k : Slot) : (leftover room q).get k ≤ 1 :=
  (walk_get_le (remainderRank_pairwise room q) k).trans_eq (get_ones k)

theorem leftover_of_zero {room : Nat} {q : PerSlot Nat} {k : Slot} (h : q.get k = 0) : (leftover room q).get k = 0 :=
  walk_of_notMem fun hmem => by
    have := (mem_remainderRank room q k).mp hmem
    omega

/-- The slots that may take a leftover PB, one each. -/
def claimants (q : PerSlot Nat) : PerSlot Nat := PerSlot.ofFn fun k => if 0 < q.get k then 1 else 0

theorem remainderRank_sum (room : Nat) (q : PerSlot Nat) :
    ((remainderRank room q).map (⟨1, 1, 1, 1⟩ : PerSlot Nat).get).sum = (claimants q).sum := by
  rw [remainderRank, (((rankSlots_perm _).filter _).map _).sum_eq]
  simp only [allSlots, claimants, PerSlot.sum_ofFn, List.filter_cons, List.filter_nil, decide_eq_true_eq]
  split <;> split <;> split <;> split <;> rfl

/-- A slot's floor and one PB more cover its share of the room. -/
theorem share_le_floor (room : Nat) (q : PerSlot Nat) (hq : 0 < q.sum) (k : Slot) :
    q.get k * room ≤ ((floors room q).get k + (claimants q).get k) * q.sum := by
  rw [floors, claimants, PerSlot.get_map, PerSlot.get_ofFn]
  split
  · rw [Nat.mul_comm _ q.sum]
    exact (Nat.lt_mul_div_succ _ hq).le
  · next h => simp [Nat.eq_zero_of_not_pos h]

/-- The leftover of a shortage goes to the slots with a commitment, one PB each at most. -/
theorem leftover_room {room : Nat} {q : PerSlot Nat} (h : room < q.sum) : room - (floors room q).sum ≤ (claimants q).sum := by
  have hshare := share_le_floor room q (by omega)
  have hsum : room * q.sum ≤ ((floors room q).sum + (claimants q).sum) * q.sum :=
    calc room * q.sum = q.get 0 * room + q.get 1 * room + q.get 2 * room + q.get 3 * room := by rw [PerSlot.sum_eq_get q]; ring
      _ ≤ _ := Nat.add_le_add (Nat.add_le_add (Nat.add_le_add (hshare 0) (hshare 1)) (hshare 2)) (hshare 3)
      _ = _ := by simp only [PerSlot.sum_eq_get (floors room q), PerSlot.sum_eq_get (claimants q)]; ring
  have hroom := Nat.le_of_mul_le_mul_right hsum (by omega)
  omega

theorem entitlements_short_sum {room : Nat} {q : PerSlot Nat} (h : room < q.sum) : (entitlements room q).sum = room := by
  have hfloors : (floors room q).sum ≤ room := shares_le room q
  have hleft := leftover_room h
  have hgain : (leftover room q).sum = min (room - (floors room q).sum) (claimants q).sum := by
    rw [leftover, walk_sum, remainderRank_sum]
  rw [entitlements_short h, PerSlot.sum_add]
  change (floors room q).sum + (leftover room q).sum = room
  omega

/-- In a shortage a slot is entitled to its share rounded down, or to one PB more (R102). -/
theorem entitlements_short_get {room : Nat} {q : PerSlot Nat} (h : room < q.sum) (k : Slot) :
    (entitlements room q).get k = q.get k * room / q.sum + (leftover room q).get k := by
  rw [entitlements_short h, PerSlot.get_ofFn, floors, PerSlot.get_map]

theorem entitlements_le_commitment (room : Nat) (q : PerSlot Nat) (k : Slot) : (entitlements room q).get k ≤ q.get k := by
  obtain h | h := Nat.lt_or_ge room q.sum
  · have hone := leftover_le_one room q k
    rw [entitlements_short_get h]
    obtain hq | hq := Nat.eq_zero_or_pos (q.get k)
    · simp [leftover_of_zero hq, hq]
    · have hfloor : q.get k * room / q.sum < q.get k := Nat.div_lt_of_lt_mul (by
        rw [Nat.mul_comm q.sum]
        exact Nat.mul_lt_mul_of_pos_left h hq)
      omega
  · rw [entitlements_fit h]

/-- Of two slots with a commitment, one with a leftover PB ranks ahead of one without (R102). -/
theorem leftover_ranked {room : Nat} {q : PerSlot Nat} {j k : Slot} (hj : (leftover room q).get j = 1) (hk : (leftover room q).get k = 0)
    (hq : 0 < q.get k) : Ahead (fun k => q.get k * room % q.sum) j k := by
  have hne : j ≠ k := by
    rintro rfl
    omega
  refine (Ahead.total hne).resolve_right fun hahead => ?_
  have hserved := walk_serves_ahead (remainderRank_pairwise room q) ((mem_remainderRank room q k).mpr hq) hahead
    (hj ▸ Nat.one_pos : 0 < (leftover room q).get j)
  rw [get_ones] at hserved
  change (leftover room q).get k = 1 at hserved
  omega

end Sys2Proof.Machine

namespace Sys2Proof.Machine

open Sys2Proof

/-! ## The figures of a pass (R103 to R109) -/

section pass

variable (room : Nat) (es : PerSlot Entrant)

theorem divide_e : (divide room es).e = entitlements room (es.map Entrant.q) := rfl

theorem divide_x :
    (divide room es).x
      = walk (PerSlot.ofFn fun k => min ((divide room es).o.get k) ((divide room es).m.get k))
          (owedRank (es.map Entrant.prio) (divide room es).o) (room - (divide room es).g.sum) := rfl

theorem divide_f :
    (divide room es).f = roundOne (room - (divide room es).g.sum - (divide room es).x.sum) (es.map Entrant.w) (divide room es).r := rfl

theorem divide_r2 :
    (divide room es).r2
      = walk (PerSlot.ofFn fun k => (divide room es).r.get k - (divide room es).f.get k) (surplusRank (es.map Entrant.prio))
          (room - (divide room es).g.sum - (divide room es).x.sum - (divide room es).f.sum) := rfl

/-- Each slot's own figures: the committed grant, the shortfall, what is owed, the rooms, the demand and the grant. -/
theorem divide_get (k : Slot) :
    (divide room es).g.get k = min ((divide room es).e.get k) (es.get k).b
      ∧ (divide room es).s.get k = min (es.get k).q (es.get k).b - (divide room es).g.get k
      ∧ (divide room es).o.get k = (es.get k).d + (divide room es).s.get k
      ∧ (divide room es).m.get k = min (es.get k).b (es.get k).p - (divide room es).g.get k
      ∧ (divide room es).r.get k = (divide room es).m.get k - (divide room es).x.get k
      ∧ (divide room es).grant.get k
          = (divide room es).g.get k + (divide room es).x.get k + (divide room es).f.get k + (divide room es).r2.get k := by
  simp only [divide, PerSlot.get_ofFn, and_self]

theorem roundOne_get (surplus : Nat) (w r : PerSlot Nat) (k : Slot) :
    (roundOne surplus w r).get k
      = if 0 < r.get k then
          min (r.get k) (surplus * w.get k / (PerSlot.ofFn fun j => if 0 < r.get j then w.get j else 0).sum)
        else 0 := by
  rw [roundOne, PerSlot.get_ofFn]

/-- Each taking beyond the committed grant stays within what its stage leaves open to the slot. -/
theorem divide_stage_le (k : Slot) :
    (divide room es).x.get k ≤ min ((divide room es).o.get k) ((divide room es).m.get k)
      ∧ (divide room es).f.get k ≤ (divide room es).r.get k
      ∧ (divide room es).r2.get k ≤ (divide room es).r.get k - (divide room es).f.get k := by
  refine ⟨?_, ?_, ?_⟩
  · rw [divide_x]
    exact (walk_get_le (owedRank_pairwise _ _) k).trans_eq (PerSlot.get_ofFn _ k)
  · rw [divide_f, roundOne_get]
    split
    · exact min_le_left _ _
    · exact Nat.zero_le _
  · rw [divide_r2]
    exact (walk_get_le (surplusRank_pairwise _) k).trans_eq (PerSlot.get_ofFn _ k)

/-- The room is not overdrawn at any stage. -/
theorem divide_stages_le_room :
    (divide room es).g.sum ≤ room ∧ (divide room es).x.sum ≤ room - (divide room es).g.sum
      ∧ (divide room es).f.sum ≤ room - (divide room es).g.sum - (divide room es).x.sum := by
  refine ⟨le_trans (PerSlot.sum_le fun k => ?_) (entitlements_le room (es.map Entrant.q)), ?_, ?_⟩
  · rw [(divide_get room es k).1]
    exact min_le_left _ _
  · exact walk_le _ _ _
  · exact roundOne_le _ _ _

theorem divide_x_sum :
    (divide room es).x.sum
      = min (room - (divide room es).g.sum) (PerSlot.ofFn fun k => min ((divide room es).o.get k) ((divide room es).m.get k)).sum := by
  rw [divide_x]
  exact walk_rankSlots_sum _ _ _

theorem divide_r2_sum :
    (divide room es).r2.sum
      = min (room - (divide room es).g.sum - (divide room es).x.sum - (divide room es).f.sum)
          (PerSlot.ofFn fun k => (divide room es).r.get k - (divide room es).f.get k).sum := by
  rw [divide_r2]
  exact walk_rankSlots_sum _ _ _

theorem divide_grant_sum :
    (divide room es).grant.sum
      = (divide room es).g.sum + (divide room es).x.sum + (divide room es).f.sum + (divide room es).r2.sum := by
  change (PerSlot.ofFn fun k => _).sum = _
  rw [PerSlot.sum_add, PerSlot.sum_add, PerSlot.sum_add]
  rfl

/-- A grant never exceeds the backlog, whatever the peak. -/
theorem divide_grant_le_backlog (k : Slot) : (divide room es).grant.get k ≤ (es.get k).b := by
  obtain ⟨hg, -, -, hm, hr, hgrant⟩ := divide_get room es k
  obtain ⟨hx, hf, hr2⟩ := divide_stage_le room es k
  omega

variable {room es}

theorem divide_g_le_takes (hq : ∀ k, (es.get k).q ≤ (es.get k).p) (k : Slot) :
    (divide room es).g.get k ≤ min (es.get k).b (es.get k).p := by
  have he := entitlements_le_commitment room (es.map Entrant.q) k
  rw [PerSlot.get_map, ← divide_e] at he
  have hg := (divide_get room es k).1
  have hp := hq k
  omega

/-- With each commitment within its peak, no grant exceeds what its slot can take. -/
theorem divide_grant_le_takes (hq : ∀ k, (es.get k).q ≤ (es.get k).p) (k : Slot) :
    (divide room es).grant.get k ≤ min (es.get k).b (es.get k).p := by
  obtain ⟨-, -, -, hm, hr, hgrant⟩ := divide_get room es k
  obtain ⟨hx, hf, hr2⟩ := divide_stage_le room es k
  have hg := divide_g_le_takes (room := room) hq k
  omega

/-- Round 2 goes on until the room is out or every slot has all that it can take. -/
theorem divide_fills (hq : ∀ k, (es.get k).q ≤ (es.get k).p) :
    (divide room es).grant.sum = min room (PerSlot.ofFn fun k => min (es.get k).b (es.get k).p).sum := by
  have htakes : (PerSlot.ofFn fun k => min (es.get k).b (es.get k).p).sum
      = (divide room es).g.sum + (divide room es).x.sum + (divide room es).f.sum
        + (PerSlot.ofFn fun k => (divide room es).r.get k - (divide room es).f.get k).sum := by
    have hsplit : (PerSlot.ofFn fun k => min (es.get k).b (es.get k).p)
        = PerSlot.ofFn fun k => (divide room es).g.get k + (divide room es).x.get k + (divide room es).f.get k
            + ((divide room es).r.get k - (divide room es).f.get k) := PerSlot.eq_of_get fun k => by
      obtain ⟨-, -, -, hm, hr, -⟩ := divide_get room es k
      obtain ⟨hx, hf, -⟩ := divide_stage_le room es k
      have hg := divide_g_le_takes (room := room) hq k
      simp only [PerSlot.get_ofFn]
      omega
    rw [hsplit, PerSlot.sum_add, PerSlot.sum_add, PerSlot.sum_add]
    rfl
  obtain ⟨hg, hx, hf⟩ := divide_stages_le_room room es
  rw [divide_grant_sum, divide_r2_sum, htakes]
  omega

/-- Make-good serves the slots in the order of R104. -/
theorem divide_x_ranked {j k : Slot}
    (h : Ahead (fun i => toLex ((es.get i).prio, (divide room es).o.get i)) j k) (hk : 0 < (divide room es).x.get k) :
    (divide room es).x.get j = min ((divide room es).o.get j) ((divide room es).m.get j) := by
  have hrank := owedRank_pairwise (es.map Entrant.prio) (divide room es).o
  simp only [PerSlot.get_map] at hrank
  rw [divide_x] at hk ⊢
  rw [walk_serves_ahead hrank (mem_rankSlots _ j) h hk, PerSlot.get_ofFn]

/-- Round 2 serves the slots in the order of R108. -/
theorem divide_r2_ranked {j k : Slot} (h : Ahead (fun i => (es.get i).prio) j k) (hk : 0 < (divide room es).r2.get k) :
    (divide room es).r2.get j = (divide room es).r.get j - (divide room es).f.get j := by
  have hrank := surplusRank_pairwise (es.map Entrant.prio)
  rw [show (es.map Entrant.prio).get = fun i => (es.get i).prio from funext fun i => PerSlot.get_map es _ i] at hrank
  rw [divide_r2] at hk ⊢
  rw [walk_serves_ahead hrank (mem_rankSlots _ j) h hk, PerSlot.get_ofFn]

end pass

/-- Settles O48, stage by stage: the entitlements, the walks of the two rankings, and the room that each stage leaves. -/
theorem grantsFillTheRoom : Obligations.GrantsFillTheRoom := by
  unfold Obligations.GrantsFillTheRoom
  intro room es hq
  refine ⟨fun k => ?_, divide_fills hq, fun h => ⟨entitlements_fit h, fun k => ?_⟩, fun h => ?_, fun k => ?_, ?_⟩
  · rw [PerSlot.get_ofFn]
    exact divide_grant_le_takes hq k
  · obtain ⟨hg, -, -, -, -, hgrant⟩ := divide_get room es k
    rw [divide_e, entitlements_fit h] at hg
    omega
  · have hget := entitlements_short_get h
    refine ⟨entitlements_short_sum h, entitlements_le_commitment _ _, fun k => ?_, fun j k hj hk hpos => ?_⟩
    · have hone := leftover_le_one room (es.map Entrant.q) k
      rw [divide_e, hget k]
      omega
    · rw [divide_e, hget] at hj hk
      exact (leftover_ranked (Nat.add_left_cancel hj) (by omega) hpos).imp id (And.imp_left Eq.symm)
  · rw [PerSlot.get_map]
    exact divide_get room es k
  · have hstage := divide_stage_le room es
    refine ⟨fun k => ?_, divide_x_sum room es, fun j k h hk => ?_, fun k => ?_, fun k => ?_, divide_r2_sum room es, fun j k h hk => ?_⟩
    · rw [PerSlot.get_ofFn]
      exact (hstage k).1
    · rw [PerSlot.get_ofFn]
      exact divide_x_ranked (ahead_lex h) hk
    · rw [divide_f, roundOne_get]
      simp only [PerSlot.get_map]
    · rw [PerSlot.get_ofFn]
      exact (hstage k).2.2
    · rw [PerSlot.get_ofFn]
      exact divide_r2_ranked h hk

end Sys2Proof.Machine

/-! The grant records (chapter 6): which slots enter a pass, and what a fill in UP leaves of them, of the queues and of the events. -/

namespace Sys2Proof.Machine

open Sys2Proof

/-! ## Eligibility and entrants (R97 to R99) -/

theorem passState_iff (st : SiteState) (k : Slot) :
    passState st k = true
      ↔ st = .inService ∨ (k = 0 ∧ (st = .bringup ∨ st = .acceptance ∨ st = .acceptFailed)) := by
  by_cases hk : k = 0 <;> cases st <;> simp [passState, hk]

theorem eligible_iff (s : State) (k : Slot) :
    s.eligible k = true
      ↔ s.slotState k = some .enabled ∧ s.loopSubject ≠ some k
        ∧ (s.scu.site = .inService ∨ (k = 0 ∧ (s.scu.site = .bringup ∨ s.scu.site = .acceptance ∨ s.scu.site = .acceptFailed))) := by
  rw [State.eligible, Bool.and_eq_true, Bool.and_eq_true, State.slotEnabled, decide_eq_true_iff, decide_eq_true_iff, passState_iff, and_assoc]

/-- Without tenant records no slot is eligible. -/
theorem eligible_tenants {s : State} {k : Slot} (h : s.eligible k = true) : s.scu.tenants.isSome = true := by
  obtain ⟨hstate, -, -⟩ := (eligible_iff s k).mp h
  simp only [State.slotState, State.tenant, Option.map_map, Option.map_eq_some_iff] at hstate
  obtain ⟨ts, hts, -⟩ := hstate
  exact Option.isSome_of_mem hts

theorem entrants_eligible {s : State} {k : Slot} {ts : PerSlot TenantRec} (hts : s.scu.tenants = some ts) (h : s.eligible k = true) :
    s.entrants.get k
      = { eligible := true, prio := if (s.gre.slots.get k).due then 4 else (ts.get k).priority,
          q := if s.scu.fit.get k then (ts.get k).committed else 0, p := (ts.get k).peak, w := (ts.get k).weight,
          b := (s.tqm.get k).backlog, d := (s.gre.slots.get k).deficit } := by
  simp [State.entrants, State.entrant, State.tenant, hts, h]

theorem entrants_other {s : State} {k : Slot} (h : s.eligible k = false) : s.entrants.get k = .none := by
  rw [State.entrants, PerSlot.get_ofFn, State.entrant]
  split
  · rfl
  · rw [h]
    rfl

/-- What the pass reads of an entrant: whether the slot is eligible, and then its backlog and its deficit. -/
theorem entrants_get (s : State) (k : Slot) :
    (s.entrants.get k).eligible = s.eligible k
      ∧ (s.eligible k = true → (s.entrants.get k).b = (s.tqm.get k).backlog ∧ (s.entrants.get k).d = (s.gre.slots.get k).deficit) := by
  cases h : s.eligible k with
  | true =>
    obtain ⟨ts, hts⟩ := Option.isSome_iff_exists.mp (eligible_tenants h)
    rw [entrants_eligible hts h]
    exact ⟨rfl, fun _ => ⟨rfl, rfl⟩⟩
  | false =>
    rw [entrants_other h]
    exact ⟨rfl, nofun⟩

/-! ## The pass of a state at a rung (R95, R100) -/

/-- The borrow of a pass at a rung. -/
def State.borrowAt (s : State) (rung : Nat) : Nat := s.borrow (s.capacity rung - Config.controlReserve) (effectiveSum s.entrants)

/-- The pass made at a rung. -/
def State.passAt (s : State) (rung : Nat) : Pass := divide (s.capacity rung - Config.controlReserve - s.borrowAt rung) s.entrants

/-- What every slot's last pass records of a pass at a rung. -/
def State.passFrame (s : State) (frame rung : Nat) : PassFrame :=
  ⟨frame, rung, s.capacity rung, s.borrowAt rung, s.capacity rung - Config.controlReserve - s.borrowAt rung,
    decide (s.capacity rung - Config.controlReserve - s.borrowAt rung < effectiveSum s.entrants)⟩

/-- The grant records once a pass at a rung is taken into them. -/
def State.passRecorded (s : State) (frame rung : Nat) : State :=
  recordPass (s.passFrame frame rung) s.entrants (s.passAt rung) s

@[simp] theorem State.passRecorded_tqm (s : State) (frame rung : Nat) : (s.passRecorded frame rung).tqm = s.tqm := by
  simp [State.passRecorded]

theorem passAndDrain_eq (s : State) :
    passAndDrain s
      = (s.borrowAt s.lkc.rung, drainAll (s.passAt s.lkc.rung).grant (s.passRecorded s.lkc.frame s.lkc.rung)) := rfl

/-- A pass reads the same in both states. -/
structure State.passAlike (s t : State) : Prop where
  scu : t.scu = s.scu
  tqm : t.tqm = s.tqm
  gre : t.gre = s.gre
  tsu : t.tsu = s.tsu
  ladder : t.lkc.ladder = s.lkc.ladder

section alike

variable {s t : State} (h : s.passAlike t)

include h

theorem State.passAlike.eligible (k : Slot) : t.eligible k = s.eligible k := by
  have hsubject : t.loopSubject = s.loopSubject := by rw [State.loopSubject, State.loopSubject, h.tsu]
  have hstate : t.slotState k = s.slotState k := by rw [State.slotState, State.slotState, State.tenant, State.tenant, h.scu]
  rw [Bool.eq_iff_iff, eligible_iff, eligible_iff, hstate, hsubject, h.scu]

theorem State.passAlike.entrants : t.entrants = s.entrants := by
  refine congrArg PerSlot.ofFn (funext fun k => ?_)
  rw [State.entrant, State.entrant, State.tenant, State.tenant, h.eligible, h.scu, h.gre, h.tqm]

theorem State.passAlike.borrowAt (rung : Nat) : t.borrowAt rung = s.borrowAt rung := by
  simp only [State.borrowAt, State.borrow, h.entrants, capacity_congr h.ladder, h.tsu]

theorem State.passAlike.passAt (rung : Nat) : t.passAt rung = s.passAt rung := by
  simp only [State.passAt, h.borrowAt, h.entrants, capacity_congr h.ladder]

theorem State.passAlike.passFrame (frame rung : Nat) : t.passFrame frame rung = s.passFrame frame rung := by
  simp only [State.passFrame, h.borrowAt, h.entrants, capacity_congr h.ladder]

end alike

/-! ## The records and their events (R105, R106, R110 to R113) -/

theorem recordAfter_other {es : PerSlot Entrant} {k : Slot} (h : (es.get k).eligible = false) (g : Gre) (f : PassFrame) (p : Pass) :
    recordAfter g f es p k = { g.slots.get k with last := some (lastPass f es p k) } := by
  simp only [recordAfter, h]
  rfl

theorem recordAfter_eligible {es : PerSlot Entrant} {k : Slot} (h : (es.get k).eligible = true) (g : Gre) (f : PassFrame) (p : Pass) :
    recordAfter g f es p k
      = { (g.slots.get k).afterPass g.metLimit g.agingLimit (p.o.get k) (p.x.get k) (p.s.get k) (p.g.get k) (p.f.get k) (p.r2.get k)
            (p.r.get k) with last := some (lastPass f es p k) } := by
  simp only [recordAfter, h]
  rfl

/-- A slot ages by the passes that leave its demand wanting, and at the limit its raise falls DUE; at a limit of 255 nothing ages (R113). -/
theorem ageAfter_follows (limit count : Nat) (still : Prop) [Decidable still] :
    (limit = 255 → (ageAfter limit count (decide still)).1 = 0 ∧ (ageAfter limit count (decide still)).2 = false)
      ∧ (limit < 255 → 0 < limit →
          (¬still → (ageAfter limit count (decide still)).1 = 0 ∧ (ageAfter limit count (decide still)).2 = false)
          ∧ (still → count + 1 < limit →
              (ageAfter limit count (decide still)).1 = count + 1 ∧ (ageAfter limit count (decide still)).2 = false)
          ∧ (still → limit ≤ count + 1 →
              (ageAfter limit count (decide still)).1 = 0 ∧ (ageAfter limit count (decide still)).2 = true)) := by
  refine ⟨fun hoff => ?_, fun hon hpos => ⟨fun hstill => ?_, fun hstill hlt => ?_, fun hstill hle => ?_⟩⟩
  · simp [ageAfter, hoff]
  · simp [ageAfter, hon.ne, hstill, hpos.ne']
  · simp [ageAfter, hon.ne, hstill, hlt.not_ge]
  · simp [ageAfter, hon.ne, hstill, hle]

theorem passEvents_raises (before after : GrantRec) (k : Slot) (s : State) :
    (before.saturated = false → after.saturated = true → (passEvents before after k s).pends k .deficitFull = true)
      ∧ (before.shortfall = false → after.shortfall = true → (passEvents before after k s).pends k .shortfall = true) := by
  refine ⟨fun hb ha => ?_, fun hb ha => ?_⟩
  · have hfirst : (raiseIn .deficitFull k s).pends k .deficitFull = true := by simp [pends_raiseIn]
    simp only [passEvents, hb, ha, Bool.not_false, Bool.and_self, if_true]
    split
    · exact (Moves.raise .shortfall k _).follows.keeps k _ hfirst
    · exact hfirst
  · simp only [passEvents, hb, ha, Bool.not_false, Bool.and_self, if_true]
    simp [pends_raiseIn]

/-- A kind that each slot's events raise is pending after all of them. -/
theorem foldl_passEvents_raises {before after : PerSlot GrantRec} {k : Slot} {e : EventKind} {l : List Slot}
    (h : ∀ s, (passEvents (before.get k) (after.get k) k s).pends k e = true) (hk : k ∈ l) (s : State) :
    (l.foldl (fun t j => passEvents (before.get j) (after.get j) j t) s).pends k e = true := by
  induction l generalizing s with
  | nil => exact absurd hk List.not_mem_nil
  | cons j l ih =>
    obtain rfl | hl := List.mem_cons.mp hk
    · exact (Moves.foldl _ (fun t i => passEvents_moves (before.get i) (after.get i) i t) l _).follows.keeps k e (h s)
    · exact ih hl _

theorem recordPass_gre (f : PassFrame) (es : PerSlot Entrant) (p : Pass) (s : State) :
    (recordPass f es p s).gre = { s.gre with slots := PerSlot.ofFn (recordAfter s.gre f es p) } := by
  rw [recordPass, foldl_keeps (fun t => t.gre) _ (by simp)]
  rfl

theorem recordPass_raises (f : PassFrame) (es : PerSlot Entrant) (p : Pass) (s : State) (k : Slot) :
    ((s.gre.slots.get k).saturated = false → (recordAfter s.gre f es p k).saturated = true →
        (recordPass f es p s).pends k .deficitFull = true)
      ∧ ((s.gre.slots.get k).shortfall = false → (recordAfter s.gre f es p k).shortfall = true →
        (recordPass f es p s).pends k .shortfall = true) := by
  have hafter : (PerSlot.ofFn (recordAfter s.gre f es p)).get k = recordAfter s.gre f es p k := PerSlot.get_ofFn _ k
  refine ⟨fun hb ha => ?_, fun hb ha => ?_⟩
  · exact foldl_passEvents_raises (fun t => (passEvents_raises _ _ k t).1 hb (hafter ▸ ha)) (mem_allSlots k) _
  · exact foldl_passEvents_raises (fun t => (passEvents_raises _ _ k t).2 hb (hafter ▸ ha)) (mem_allSlots k) _

/-! ## The segments and the queues (R69 to R71) -/

theorem drainQueue_slot (k : Slot) (q : List Packet) (grant : Nat) : ∀ g ∈ (drainQueue k q grant).segments, g.slot = k := by
  induction q generalizing grant with
  | nil => exact fun g hg => absurd hg List.not_mem_nil
  | cons p rest ih =>
    unfold drainQueue
    split
    · exact fun g hg => absurd hg List.not_mem_nil
    · split
      · intro g hg
        obtain rfl | hg := List.mem_cons.mp hg
        · rfl
        · exact ih _ g hg
      · intro g hg
        rw [List.mem_singleton.mp hg]
        rfl

theorem drain_slot (t : Traffic) (k : Slot) (grant : Nat) : ∀ g ∈ (t.drain k grant).1, g.slot = k := fun g hg =>
  (List.mem_append.mp hg).elim (drainQueue_slot k _ _ g) (drainQueue_slot k _ _ g)

/-- A slot's segments among those of another slot's drain: all or none. -/
theorem drain_filter (t : Traffic) (j k : Slot) (grant : Nat) :
    ((t.drain j grant).1.filter fun g => decide (g.slot = k)) = if j = k then (t.drain j grant).1 else [] := by
  have hslot := drain_slot t j grant
  split
  · next h => exact List.filter_eq_self.mpr fun g hg => decide_eq_true ((hslot g hg).trans h)
  · next h => exact List.filter_eq_nil_iff.mpr fun g hg hk => h ((hslot g hg).symm.trans (of_decide_eq_true hk))

/-- Of the segments cut at a fill a slot's own are those of its own drain (R70). -/
theorem drainAll_filter (grants : PerSlot Nat) (s : State) (k : Slot) :
    ((drainAll grants s).1.filter fun g => decide (g.slot = k)) = ((s.tqm.get k).drain k (grants.get k)).1 := by
  simp only [drainAll, PerSlot.toList, PerSlot.map, PerSlot.ofFn, List.flatten_cons, List.flatten_nil, List.append_nil, List.filter_append,
    drain_filter]
  fin_cases k <;> simp

theorem drainAll_backlog (grants : PerSlot Nat) (s : State) (k : Slot) :
    ((drainAll grants s).2.tqm.get k).backlog = (s.tqm.get k).backlog - grants.get k := by
  rw [← drain_backlog _ k]
  simp [drainAll]

theorem discardEgress_backlog (t : Traffic) : t.discardEgress.backlog = t.backlog := by
  unfold Traffic.discardEgress
  split <;> rfl

/-- A start that discards an egress partial leaves the backlogs. -/
theorem State.discardsAtStart.backlog {s t : State} (h : s.discardsAtStart t) (k : Slot) : (t.tqm.get k).backlog = (s.tqm.get k).backlog := by
  obtain h | ⟨-, h⟩ := h k
  · rw [h]
  · rw [h, discardEgress_backlog]

theorem reportRung_starts (n : Nat) (s : State) : Starts s (reportRung n s) := by
  unfold reportRung tmuRungChange
  refine .ite (.refl s) ?_
  split
  · exact .ite (.refl s) (exchangeMissing_starts s)
  · exact .refl s

/-! ## A fill in UP with no hold requested (R95) -/

/-- The state in which the pass of a fill in UP is made: the frame numbered, its rung fixed and the notice announced. -/
def passing (s : State) : State := (fixRung (nextFill s)).updLkc Lkc.announce

theorem passing_lkc (s : State) : (passing s).lkc = (nextFill s).lkc.fixed.announce := by
  rw [passing, State.updLkc_lkc, fixRung_lkc]

/-- The pass reads the state as it stood when the fill was taken. -/
theorem passing_alike (s : State) : s.passAlike (passing s) where
  scu := by simp only [passing, State.updLkc_scu, fixRung_frame]; rfl
  tqm := by simp only [passing, State.updLkc_tqm, fixRung_frame]; rfl
  gre := by simp only [passing, State.updLkc_gre, fixRung_frame]; rfl
  tsu := by simp only [passing, State.updLkc_tsu, fixRung_frame]; rfl
  ladder := by rw [passing_lkc, announced_parts]; rfl

/-- The frame joined to those not sent, before the order is judged and the rung change reported. -/
def passFilled (u : State) : State := pushFrame (passMade u).1 (passAndDrain u).1 (passAndDrain u).2.1 (passMade u).2

theorem fillFrame_passing {s : State} (hup : s.lkc.state = .up) (hreq : s.holdRequested = false) :
    fillFrame s = reportRung s.lkc.rung (judgeAir (passFilled (passing s))) := by
  simp only [fillFrame, hup, hreq]
  rfl

theorem passFilled_tqm (u : State) : (passFilled u).tqm = (passAndDrain u).2.2.tqm := by simp [passFilled, passMade]

theorem passFilled_gre (u : State) : (passFilled u).gre = (u.passRecorded u.lkc.frame u.lkc.rung).gre := by
  simp [passFilled, passMade, passAndDrain_eq]

/-- From the records taken on, the fill is made of moves. -/
theorem passFilled_moves (u : State) : Moves (u.passRecorded u.lkc.frame u.lkc.rung) (passFilled u) :=
  (((drainAll_moves _ _).trans (airFill_moves _ _ _)).trans (placeRequest_moves _ _)).trans (pushFrame_moves _ _ _ _)

section fill

variable {s : State} (hup : s.lkc.state = .up) (hreq : s.holdRequested = false)

include hup hreq

theorem fillFrame_end : (fillFrame s).lkc = (passFilled (passing s)).lkc := by
  simp [fillFrame_passing hup hreq]

theorem fillFrame_number : (passing s).lkc.frame = (fillFrame s).lkc.frame ∧ (passing s).lkc.rung = (fillFrame s).lkc.rung := by
  rw [fillFrame_end hup hreq, passFilled, pushFrame_lkc, passMade_lkc]
  exact ⟨rfl, rfl⟩

/-- The grant records a fill leaves are those of its pass. -/
theorem fillFrame_record (k : Slot) :
    (fillFrame s).gre.slots.get k
      = recordAfter s.gre (s.passFrame (fillFrame s).lkc.frame (fillFrame s).lkc.rung) s.entrants (s.passAt (fillFrame s).lkc.rung) k := by
  obtain ⟨hframe, hrung⟩ := fillFrame_number hup hreq
  have halike := passing_alike s
  have hgre : (fillFrame s).gre = (passFilled (passing s)).gre := by simp [fillFrame_passing hup hreq]
  rw [hgre, passFilled_gre, State.passRecorded, recordPass_gre, PerSlot.get_ofFn, halike.entrants, halike.passAt, halike.passFrame, halike.gre,
    hframe, hrung]

theorem fillFrame_backlog (k : Slot) :
    ((fillFrame s).tqm.get k).backlog = (s.tqm.get k).backlog - (s.passAt (fillFrame s).lkc.rung).grant.get k := by
  obtain ⟨-, hrung⟩ := fillFrame_number hup hreq
  have halike := passing_alike s
  have hend : ((fillFrame s).tqm.get k).backlog = ((passFilled (passing s)).tqm.get k).backlog := by
    rw [fillFrame_passing hup hreq]
    exact ((judgeAir_starts _).trans (reportRung_starts _ _)).discards.backlog k
  rw [hend, passFilled_tqm, passAndDrain_eq, drainAll_backlog, State.passRecorded_tqm, halike.passAt, hrung, halike.tqm]

/-- The frame filled carries a slot's segments to the PB of its grant, or of its backlog where that is less. -/
theorem fillFrame_segments (k : Slot) :
    ∃ x ∈ (fillFrame s).lkc.unsent.getLast?, segmentPB (x.segments.filter fun g => decide (g.slot = k))
      = min ((s.passAt (fillFrame s).lkc.rung).grant.get k) (s.tqm.get k).backlog := by
  obtain ⟨-, hrung⟩ := fillFrame_number hup hreq
  have halike := passing_alike s
  refine ⟨_, by rw [fillFrame_end hup hreq, passFilled, pushFrame_lkc]; exact List.getLast?_concat .., ?_⟩
  change segmentPB ((passAndDrain (passing s)).2.1.filter _) = _
  rw [passAndDrain_eq, drainAll_filter, drain_segments, State.passRecorded_tqm, halike.passAt, hrung, halike.tqm]

/-- A kind that the pass raises is pending after the fill. -/
theorem fillFrame_raises (k : Slot) :
    ((s.gre.slots.get k).saturated = false → ((fillFrame s).gre.slots.get k).saturated = true → (fillFrame s).pends k .deficitFull = true)
      ∧ ((s.gre.slots.get k).shortfall = false → ((fillFrame s).gre.slots.get k).shortfall = true →
          (fillFrame s).pends k .shortfall = true) := by
  obtain ⟨hframe, hrung⟩ := fillFrame_number hup hreq
  have halike := passing_alike s
  have hmoves : Moves ((passing s).passRecorded (passing s).lkc.frame (passing s).lkc.rung) (fillFrame s) := by
    rw [fillFrame_passing hup hreq]
    exact ((passFilled_moves _).trans (judgeAir_moves _)).trans (reportRung_moves _ _)
  have hraises := recordPass_raises ((passing s).passFrame (passing s).lkc.frame (passing s).lkc.rung) (passing s).entrants
    ((passing s).passAt (passing s).lkc.rung) (passing s) k
  rw [halike.gre, halike.passFrame, halike.entrants, halike.passAt, hframe, hrung, ← fillFrame_record hup hreq k] at hraises
  rw [State.passRecorded, halike.passFrame, halike.entrants, halike.passAt, hframe, hrung] at hmoves
  exact ⟨fun hb ha => hmoves.follows.keeps k _ (hraises.1 hb ha), fun hb ha => hmoves.follows.keeps k _ (hraises.2 hb ha)⟩

end fill

/-! ## The obligation -/

/-- The last pass by the eligibility of the state. -/
theorem lastPass_of_eligible (s : State) (f : PassFrame) (p : Pass) (k : Slot) :
    lastPass f s.entrants p k
      = { frame := f.frame, rung := f.rung, capacity := f.capacity, borrow := f.borrow, room := f.room, shortage := f.shortage,
          figures := if s.eligible k = true ∧ s.scu.tenants.isSome = true then
            some { effPriority := (s.entrants.get k).prio, q := (s.entrants.get k).q, b := (s.entrants.get k).b, e := p.e.get k,
                   g := p.g.get k, s := p.s.get k, o := p.o.get k, m := p.m.get k, x := p.x.get k, r := p.r.get k, f := p.f.get k,
                   r2 := p.r2.get k, grant := p.grant.get k }
            else none } := by
  have hiff : (s.entrants.get k).eligible = true ↔ s.eligible k = true ∧ s.scu.tenants.isSome = true := by
    rw [(entrants_get s k).1]
    exact ⟨fun h => ⟨h, eligible_tenants h⟩, And.left⟩
  rw [lastPass, if_congr hiff rfl rfl]

/-- Settles O49: what enters the pass, then by eligibility what its fill leaves of the record, the queue, the frame and the events. -/
theorem grantRecordsAfterAPass : Obligations.GrantRecordsAfterAPass := by
  unfold Obligations.GrantRecordsAfterAPass
  refine ⟨fun k s => ⟨eligible_iff s k, entrants_other, fun ts hts h => entrants_eligible hts h⟩, fun k s hup hreq => ?_⟩
  have hrecord := fillFrame_record hup hreq k
  have hbacklog := fillFrame_backlog hup hreq k
  have hsegments := fillFrame_segments hup hreq k
  have hraises := fillFrame_raises hup hreq k
  have hle : (s.passAt (fillFrame s).lkc.rung).grant.get k ≤ (s.entrants.get k).b := divide_grant_le_backlog _ _ k
  obtain ⟨heligible, hread⟩ := entrants_get s k
  refine ⟨fillFrame s, rfl, ?_, fun hout => ?_, fun hin _ => ?_⟩
  · rw [hrecord]
    exact congrArg some (lastPass_of_eligible s _ _ k)
  · have hno : s.eligible k = false := hout.elim id fun hnone => Bool.eq_false_iff.mpr fun h => by
      simpa [hnone] using eligible_tenants h
    rw [entrants_other hno] at hle
    refine ⟨?_, ?_⟩
    · rw [hrecord, recordAfter_other (heligible.trans hno)]
    · rw [hbacklog, Nat.eq_zero_of_le_zero hle, Nat.sub_zero]
  · obtain ⟨hb, hd⟩ := hread hin
    rw [hb] at hle
    rw [min_eq_left hle] at hsegments
    have howed : (s.passAt (fillFrame s).lkc.rung).o.get k
        = (s.gre.slots.get k).deficit + (s.passAt (fillFrame s).lkc.rung).s.get k := by
      rw [← hd]
      exact (divide_get _ _ k).2.2.1
    rw [recordAfter_eligible (heligible.trans hin), howed] at hrecord
    refine ⟨hsegments, by rw [hbacklog]; exact Nat.sub_add_cancel hle, ?_⟩
    rw [hrecord] at hraises ⊢
    exact ⟨rfl, rfl, rfl, rfl, hraises.2, hraises.1, rfl, rfl, rfl, ageAfter_follows _ _ _⟩

end Sys2Proof.Machine

/-! Site time and the pulses (chapter 7): the nanosecond on an empty queue, and what becomes of a crossing into a shifted second. -/

namespace Sys2Proof.Machine

open Sys2Proof

/-! ## The advance of site time (R121) -/

/-- The gain takes whole nanoseconds out of the correction, and the residue is what is left. -/
theorem nextNs_residue (t : Tmu) : t.residue + t.y = (1 - t.nextNs.1) * 256000000000 + t.nextNs.2 := by
  simp only [Tmu.nextNs, Config.residueUnit]
  ring

/-- What is left is short of a whole nanosecond. -/
theorem nextNs_residue_lt (t : Tmu) : t.nextNs.2.natAbs < 256000000000 := by
  have hrest : t.nextNs.2 = (t.residue + t.y).tmod 256000000000 := by
    rw [Int.tmod_def, mul_comm]
    rfl
  rw [hrest, Int.natAbs_tmod]
  exact Nat.mod_lt _ (by norm_num)

/-- The figure at which the seconds count wraps. -/
theorem wrapNs_eq : ((Config.secondsModulus * Config.nsPerSecond : Nat) : Int) = 281474976710656 * 1000000000 := by
  norm_num [Config.secondsModulus, Config.nsPerSecond]

theorem carryTo_short {m : Int} (h : m < 281474976710656 * 1000000000) (t : Tmu) : t.carryTo m = { t with site := timeOfNs m } := by
  rw [Tmu.carryTo, wrapNs_eq, if_neg (not_le.mpr h)]

theorem carryTo_wraps {m : Int} (h : 281474976710656 * 1000000000 ≤ m) (t : Tmu) :
    t.carryTo m = { t with site := timeOfNs m }.wrapSeconds := by
  rw [Tmu.carryTo, wrapNs_eq, if_pos h]

theorem carryTo_site (t : Tmu) (m : Int) : (t.carryTo m).site = timeOfNs m := by
  obtain h | h := lt_or_ge m (281474976710656 * 1000000000)
  · rw [carryTo_short h]
  · rw [carryTo_wraps h]
    rfl

/-- The clock after the nanosecond: carried on by the gain, the residue what is left, whether or not a local millisecond passes. -/
theorem ticked_clock (s : State) :
    (ticked s).tmu.residue = s.tmu.nextNs.2 ∧ (ticked s).tmu.y = s.tmu.y
      ∧ (ticked s).tmu.site = (s.tmu.carryTo (timeNs s.tmu.site + s.tmu.nextNs.1)).site
      ∧ (ticked s).tmu.lastSecond = (s.tmu.carryTo (timeNs s.tmu.site + s.tmu.nextNs.1)).lastSecond
      ∧ ∀ k, ((ticked s).tmu.pps.get k).lastEmitted = ((s.tmu.carryTo (timeNs s.tmu.site + s.tmu.nextNs.1)).pps.get k).lastEmitted := by
  have hy : s.tmu.advance.y = s.tmu.y := by simp [Tmu.advance]
  unfold ticked
  split
  · refine ⟨rfl, hy, rfl, rfl, fun k => ?_⟩
    change ((s.tmu.advance.pps.map PpsGen.tick).get k).lastEmitted = _
    rw [PerSlot.get_map]
    rfl
  · exact ⟨rfl, hy, rfl, rfl, fun _ => rfl⟩

/-- What no nanosecond touches. -/
theorem ticked_apart (s : State) :
    (ticked s).sli = s.sli ∧ (ticked s).scu = s.scu ∧ (ticked s).tqm = s.tqm ∧ (ticked s).gre = s.gre ∧ (ticked s).emitted = s.emitted := by
  unfold ticked
  split <;> exact ⟨rfl, rfl, rfl, rfl, rfl⟩

/-- Settles O2: the gain is the advance's own; what follows the wrap by whether the site time reached stands short of it. -/
theorem emptyQueuePassesOneNanosecond : Obligations.EmptyQueuePassesOneNanosecond := by
  intro s hempty hrates _ hresidue
  obtain ⟨hlow, hhigh⟩ := nextNs_range hrates hresidue
  obtain ⟨hrest, hy, hsite, hlast, hemitted⟩ := ticked_clock s
  obtain ⟨hsli, hscu, htqm, hgre, hout⟩ := ticked_apart s
  have htime : (ticked s).tmu.site = timeOfNs (timeNs s.tmu.site + s.tmu.nextNs.1) := hsite.trans (carryTo_site _ _)
  have hpos : 0 ≤ timeNs s.tmu.site := by
    unfold timeNs
    omega
  refine ⟨(ticked s).queueing s.tickCommands, s.tmu.nextNs.1, (step_empty hempty).trans (congrArg _ (tick_queueing s)), hlow, hhigh, ?_, ?_,
    htime, fun hshort => ⟨?_, ?_⟩, fun hwrap => ⟨?_, fun k => ?_⟩, hy, hsli, hscu, htqm, hgre, hout⟩
  · exact (congrArg Int.natAbs hrest).trans_lt (nextNs_residue_lt s.tmu)
  · exact (nextNs_residue s.tmu).trans (congrArg _ hrest.symm)
  · exact (congrArg timeNs htime).trans (timeNs_timeOfNs (by omega) hshort)
  · exact hlast.trans (by rw [carryTo_short hshort])
  · exact hlast.trans (by rw [carryTo_wraps hwrap]; rfl)
  · exact (hemitted k).trans (by rw [carryTo_wraps hwrap]; simp [Tmu.wrapSeconds])

end Sys2Proof.Machine

namespace Sys2Proof

/-- A slot's own value put back. -/
theorem PerSlot.set_get {α : Type} (p : PerSlot α) (k : Slot) : p.set k (p.get k) = p := by
  fin_cases k <;> rfl

end Sys2Proof

namespace Sys2Proof.Machine

open Sys2Proof

/-! ## The pulse-per-second outputs (R124 to R126) -/

section pulses

variable {k : Slot} {n : Int} {s : State}

/-- Slot `k`'s generator replaced. -/
def State.putPps (s : State) (k : Slot) (g : PpsGen) : State := s.updTmu fun t => { t with pps := t.pps.set k g }

theorem putPps_self (s : State) (k : Slot) : s.putPps k (s.tmu.pps.get k) = s := by
  rw [State.putPps, State.updTmu, PerSlot.set_get]

/-- A crossing into a second not above the last one emitted, or of a slot that may not emit, is no emission. -/
theorem emitPulse_silent (h : s.mayEmit k = false ∨ ∃ l, (s.tmu.pps.get k).lastEmitted = some l ∧ n ≤ l) : emitPulse k n s = s := by
  refine if_neg ?_
  obtain h | ⟨l, hl, hn⟩ := h
  · simp [h]
  · simp [hl, hn]

/-- A slot that may emit does so for a second above the last one emitted. -/
theorem emitPulse_emits (h : s.mayEmit k = true) (hl : ∀ l, (s.tmu.pps.get k).lastEmitted = some l → l < n) :
    emitPulse k n s = s.putPps k { (s.tmu.pps.get k).pulse with lastEmitted := some (heldSecond n) } := by
  have habove : ((s.tmu.pps.get k).lastEmitted.map fun l => decide (l < n)).getD true = true := by
    cases hlast : (s.tmu.pps.get k).lastEmitted with
    | none => rfl
    | some l => exact decide_eq_true (hl l hlast)
  rw [emitPulse, h, habove, Bool.and_true, if_pos rfl, State.updTmu, PerSlot.modify_eq_set]
  rfl

theorem ppsCrossing_ignored (h : s.tmu.crossed.pulses.get k ≠ some n) : ppsCrossing k n s = s := if_neg h

theorem ppsCrossing_taken (h : s.tmu.crossed.pulses.get k = some n) :
    ppsCrossing k n s = emitPulse k n (s.updTmu fun t => t.takePulse k) := if_pos h

/-- The crossing taken, the slot's generator as its own. -/
theorem takePulse_eq (s : State) (k : Slot) :
    (s.updTmu fun t => t.takePulse k) = (s.updTmu fun t => t.takePulse k).putPps k (s.tmu.pps.get k) :=
  (putPps_self (s.updTmu fun t => t.takePulse k) k).symm

theorem pulse_of_low {g : PpsGen} (h : g.high = false) : g.pulse = { g with high := true, timer := some 0 } := by
  rw [PpsGen.pulse, h, if_neg Bool.false_ne_true]

theorem pulse_of_high {g : PpsGen} (h : g.high = true) : g.pulse = { g with high := false, timer := none, delayed := g.delayed ++ [0] } := by
  rw [PpsGen.pulse, h, if_pos rfl]

theorem exec_ppsDelayedEmission (k : Slot) (s : State) :
    exec (.ppsDelayedEmission k) s = .next (s.putPps k (s.tmu.pps.get k).delayedPulse) := by
  change Host.Outcome.next (s.updTmu fun t => { t with pps := t.pps.modify k PpsGen.delayedPulse }) = _
  rw [State.updTmu, PerSlot.modify_eq_set]
  rfl

theorem exec_ppsPulseEnd (k : Slot) (s : State) : exec (.ppsPulseEnd k) s = .next (s.putPps k (s.tmu.pps.get k).endPulse) := by
  change Host.Outcome.next (s.updTmu fun t => { t with pps := t.pps.modify k PpsGen.endPulse }) = _
  rw [State.updTmu, PerSlot.modify_eq_set]
  rfl

/-- No pulse is emitted late while none waits or the oldest has not waited its delay. -/
theorem delayedPulse_waits {g : PpsGen} (h : ∀ d ∈ g.delayed.head?, d < 1) : g.delayedPulse = g := by
  refine if_neg ?_
  rw [PpsGen.delayDue, Option.any_eq_true]
  rintro ⟨d, hd, hdue⟩
  exact absurd (of_decide_eq_true hdue) (not_le.mpr (h d hd))

/-- The oldest pulse, its delay waited, is put on the output. -/
theorem delayedPulse_goes {g : PpsGen} {d : Nat} {rest : List Nat} (h : g.delayed = d :: rest) (hd : 1 ≤ d) :
    g.delayedPulse = { g with delayed := rest }.pulse := by
  have hdue : g.delayDue = true := by
    rw [PpsGen.delayDue, h]
    exact decide_eq_true hd
  rw [PpsGen.delayedPulse, if_pos hdue, h]
  rfl

theorem endPulse_runs {g : PpsGen} (h : ∀ w, g.timer = some w → w < 100) : g.endPulse = g := by
  refine if_neg ?_
  rw [PpsGen.widthDue, Option.any_eq_true]
  rintro ⟨w, hw, hdue⟩
  exact absurd (of_decide_eq_true hdue) (not_le.mpr (h w hw))

theorem endPulse_ends {g : PpsGen} {w : Nat} (h : g.timer = some w) (hw : 100 ≤ w) : g.endPulse = { g with high := false, timer := none } := by
  refine if_pos ?_
  rw [PpsGen.widthDue, h]
  exact decide_eq_true hw

end pulses

/-- Settles O55: the crossing by whether it is made and emits, the delay and the width by whether they have run out. -/
theorem pulsesAreEmitted : Obligations.PulsesAreEmitted := by
  intro k n s
  dsimp only
  have hsilent : s.tmu.crossed.pulses.get k = some n
      → (s.mayEmit k = false ∨ ∃ l, (s.tmu.pps.get k).lastEmitted = some l ∧ n ≤ l)
      → exec (.ppsEmission k n) s = .next ((s.updTmu fun t => t.takePulse k).putPps k (s.tmu.pps.get k)) := fun hcross h => by
    rw [← takePulse_eq]
    exact congrArg _ ((ppsCrossing_taken hcross).trans (emitPulse_silent h))
  have hemits : s.tmu.crossed.pulses.get k = some n → s.mayEmit k = true
      → (∀ l, (s.tmu.pps.get k).lastEmitted = some l → l < n)
      → exec (.ppsEmission k n) s
        = .next ((s.updTmu fun t => t.takePulse k).putPps k { (s.tmu.pps.get k).pulse with lastEmitted := some (heldSecond n) }) :=
    fun hcross hmay hl => congrArg _ ((ppsCrossing_taken hcross).trans (emitPulse_emits hmay hl))
  refine ⟨fun hno => congrArg _ (ppsCrossing_ignored hno), fun hcross => ⟨fun hmay => hsilent hcross (.inl hmay),
    fun l hl hn => hsilent hcross (.inr ⟨l, hl, hn⟩), fun hmay hl => ⟨fun hlow => ?_, fun hhigh => ?_⟩⟩, fun hnone => ?_,
    fun d rest hd => ⟨fun hshort => ?_, fun hdue hlow => ?_, fun hdue hhigh => ?_⟩, fun hrun => ?_, fun w hw hend => ?_⟩
  · rw [hemits hcross hmay hl, pulse_of_low hlow]
    rfl
  · rw [hemits hcross hmay hl, pulse_of_high hhigh]
    rfl
  · rw [exec_ppsDelayedEmission, delayedPulse_waits (by simp [hnone]), putPps_self]
  · rw [exec_ppsDelayedEmission, delayedPulse_waits (by simpa [hd] using hshort), putPps_self]
  · rw [exec_ppsDelayedEmission, delayedPulse_goes hd hdue, pulse_of_low (g := { s.tmu.pps.get k with delayed := rest }) hlow]
    rfl
  · rw [exec_ppsDelayedEmission, delayedPulse_goes hd hdue, pulse_of_high (g := { s.tmu.pps.get k with delayed := rest }) hhigh]
    rfl
  · rw [exec_ppsPulseEnd, endPulse_runs hrun, putPps_self]
  · rw [exec_ppsPulseEnd, endPulse_ends hw hend]
    rfl

end Sys2Proof.Machine

/-! The requests that write the time unit (chapters 7 and 8), judgement by judgement. -/

namespace Sys2Proof.Machine

open Sys2Proof

/-! ## SET_TIME (R123, R132) -/

section writes

variable {ps : List Byte} {s : State}

theorem judgeSetTime_wrongState (h : s.tmu.timing ≠ .freerun) : judgeSetTime ps s = refuse .wrongState := if_pos h

/-- In FREERUN the value is judged by its form. -/
theorem judgeSetTime_freerun {new : SiteTime} (h : s.tmu.timing = .freerun) (hps : timeParam ps = some new) :
    judgeSetTime ps s = if new.wf = true then taken [] (stepTime new s) else refuse .badValue := by
  have hwf : (new.ns < Config.nsPerSecond ∧ new.sec < Config.secondsModulus) ↔ new.wf = true := by
    rw [SiteTime.wf, decide_eq_true_iff, and_comm]
  rw [judgeSetTime, if_neg (not_not_intro h), hps, withParams_some, if_congr hwf rfl rfl]

/-- What a step leaves of the clock: the new time, nothing crossed, the flag set and no exchange (R123). -/
theorem stepTime_tmu (new : SiteTime) (s : State) :
    (stepTime new s).tmu.site = new ∧ (stepTime new s).tmu.residue = 0 ∧ (stepTime new s).tmu.sticky = { s.tmu.sticky with stepped := true }
      ∧ (stepTime new s).tmu.exchange = none ∧ (stepTime new s).tmu.crossed = {} := by
  exact ⟨by simp [stepTime, Tmu.stepTo], by simp [stepTime, Tmu.stepTo], by simp [stepTime, Tmu.stepTo], exchangeMissing_exchange _,
    by simp [stepTime, Tmu.stepTo]⟩

theorem stepTime_noExchange (new : SiteTime) (h : s.tmu.exchange = none) : stepTime new s = s.updTmu fun t => t.stepTo new :=
  exchangeMissing_none h

/-! ## SET_SOURCE_PRIORITY (R144 to R146) -/

/-- The record of a source after a change of it, and the other's. -/
theorem source_updSource (t : Tmu) (src : Source) (f : SourceRec → SourceRec) :
    (t.updSource src f).source src = f (t.source src) ∧ (t.updSource src f).source src.other = t.source src.other := by
  cases src <;> exact ⟨rfl, rfl⟩

theorem source_congr {t u : Tmu} (hg : u.gnss = t.gnss) (hl : u.link = t.link) (src : Source) : u.source src = t.source src := by
  cases src
  · exact hg
  · exact hl

/-- The selection is read from the two records and the priorities. -/
theorem selection_congr {t u : Tmu} (hg : u.gnss = t.gnss) (hl : u.link = t.link) (hp : u.params = t.params) : u.selection = t.selection := by
  simp only [Tmu.selection, Tmu.qualified, source_congr hg hl, hp]

theorem judgeSelection_source (s : State) (src : Source) : (judgeSelection s).tmu.source src = s.tmu.source src :=
  source_congr (by simp) (by simp) src

theorem moveSelected_selected (t : Tmu) (sel : Option Source) : (t.moveSelected sel).selected = sel := by
  unfold Tmu.moveSelected
  dsimp only
  (repeat' split) <;> rfl

/-- The selection judged, the selected source is the one it gives (R145). -/
theorem judgeSelection_selected (s : State) : (judgeSelection s).tmu.selected = (judgeSelection s).tmu.selection := by
  have hsame : (judgeSelection s).tmu.selection = s.tmu.selection := selection_congr (by simp) (by simp) (by simp)
  rw [hsame]
  by_cases h : s.tmu.selection = s.tmu.selected
  · rw [judgeSelection, if_pos h, h]
  · rw [judgeSelection, if_neg h, deriveClass_tmu]
    simpa using moveSelected_selected s.tmu s.tmu.selection

/-- The record and the priority written, before the selection is judged. -/
def priorityWritten (src : Source) (n : Nat) (s : State) : State :=
  s.updTmu fun t => { t.updSource src (fun r => r.atPriority n) with params := t.params.setPriority src n }

/-- The write is followed by a judgement of the selection, TSU told first of a source that leaves QUALIFIED (R179). -/
theorem writePriority_judged (src : Source) (n : Nat) (s : State) :
    ∃ u, writePriority src n s = judgeSelection u ∧ u.tmu = (priorityWritten src n s).tmu ∧ u.lkc = s.lkc ∧ u.gre = s.gre ∧ u.dsu = s.dsu := by
  refine ⟨_, rfl, ?_⟩
  split
  · simp [priorityWritten]
  · exact ⟨rfl, rfl, rfl, rfl⟩

theorem writePriority_tmu (src : Source) (n : Nat) (s : State) :
    (writePriority src n s).tmu.params = s.tmu.params.setPriority src n
      ∧ (writePriority src n s).tmu.selected = (writePriority src n s).tmu.selection
      ∧ (writePriority src n s).tmu.source src = (s.tmu.source src).atPriority n
      ∧ (writePriority src n s).tmu.source src.other = s.tmu.source src.other
      ∧ (writePriority src n s).tmu.site = s.tmu.site := by
  obtain ⟨u, hjudged, htmu, -⟩ := writePriority_judged src n s
  have hwritten : ∀ x, u.tmu.source x = (s.tmu.updSource src fun r => r.atPriority n).source x := fun x => by
    rw [htmu]
    exact source_congr rfl rfl x
  obtain ⟨hown, hother⟩ := source_updSource s.tmu src fun r => r.atPriority n
  rw [hjudged, judgeSelection_source, judgeSelection_source, hwritten, hwritten]
  refine ⟨?_, judgeSelection_selected u, hown, hother, ?_⟩
  · simp [htmu, priorityWritten]
  · simp [htmu, priorityWritten]

theorem writePriority_apart (src : Source) (n : Nat) (s : State) :
    (writePriority src n s).lkc = s.lkc ∧ (writePriority src n s).gre = s.gre ∧ (writePriority src n s).dsu = s.dsu := by
  obtain ⟨u, hjudged, -, hlkc, hgre, hdsu⟩ := writePriority_judged src n s
  simp [hjudged, hlkc, hgre, hdsu]

/-! ### The record at a write of its priority -/

theorem atPriority_zero (r : SourceRec) : r.atPriority 0 = { r with qual := .disabled, validRun := 0, invalidRun := 0 } := rfl

theorem atPriority_enables {r : SourceRec} {n : Nat} (hn : 0 < n) (h : r.qual = .disabled) :
    r.atPriority n = { r with qual := .unqualified, validRun := 0, invalidRun := 0 } := by
  rw [SourceRec.atPriority, if_neg hn.ne', if_pos h]

theorem atPriority_stands {r : SourceRec} {n : Nat} (hn : 0 < n) (h : r.qual ≠ .disabled) : r.atPriority n = r := by
  rw [SourceRec.atPriority, if_neg hn.ne', if_neg h]

/-! ## PRESET_INTEGRATOR (R157) -/

theorem preset_eq (t : Tmu) (v : Int) :
    t.preset v = { t with integ := v, y := if t.timing = .freerun ∨ t.timing = .holdover then v else t.y } := by
  unfold Tmu.preset
  cases h : t.timing <;> simp

/-! ## SET_LOOP_BANK (R158) -/

theorem judgeSetLoopBank_taken {acquire : Bool} {a b : Option Nat} (hps : bankParams ps = some (acquire, a, b))
    (hnames : a.isSome = true ∨ b.isSome = true) (ha : ∀ x ∈ a, x ≤ 15) (hb : ∀ x ∈ b, x ≤ 23) :
    judgeSetLoopBank ps s = taken [] (s.updTmu fun t =>
      { t with params :=
          if acquire then { t.params with acquire := t.params.acquire.write a b } else { t.params with track := t.params.track.write a b } }) := by
  have hall : ((a.isSome || b.isSome) && a.all (fun x => decide (x ≤ 15)) && b.all fun x => decide (x ≤ 23)) = true := by
    simp only [Bool.and_eq_true, Bool.or_eq_true, Option.all_eq_true, decide_eq_true_iff]
    exact ⟨⟨hnames, ha⟩, hb⟩
  rw [judgeSetLoopBank, hps, withParams_some, if_pos hall]

/-! ## SET_TIME_LIMITS (R159) -/

/-- A named value in range, where the value in force is: the value left is in range. -/
theorem all_iff_getD {P : Nat → Prop} [DecidablePred P] {d : Nat} (hd : P d) (o : Option Nat) :
    (o.all fun x => decide (P x)) = true ↔ P (o.getD d) := by
  cases o with
  | none => simp [hd]
  | some x => simp

theorem limitsOk_iff (p : TimeParams) :
    p.limitsOk = true ↔ (1 ≤ p.lockWindow ∧ p.lockWindow ≤ 10000) ∧ p.outlierLimit ≤ 100000
      ∧ (100 ≤ p.stepLimit ∧ p.stepLimit ≤ 500000000) ∧ (60 ≤ p.hPhase ∧ p.hPhase ≤ 86400) ∧ p.hFreq ≤ 2592000 ∧ p.paired = true := by
  simp only [TimeParams.limitsOk, TimeParams.paired, decide_eq_true_iff]
  omega

/-- Over limits in range, the named values in their ranges and the pairings are the limits left in range. -/
theorem inRange_paired_iff {p : TimeParams} (hp : p.limitsOk = true) (w : LimitWrite) :
    (w.inRange && (w.into p).paired) = true ↔ (w.into p).limitsOk = true := by
  obtain ⟨hlock, hout, hstep, hphase, hfreq, -⟩ := (limitsOk_iff p).mp hp
  have hlock' := all_iff_getD (P := fun x => 1 ≤ x ∧ x ≤ 10000) hlock w.lockWindow
  have hout' := all_iff_getD (P := fun x => x ≤ 100000) hout w.outlier
  have hstep' := all_iff_getD (P := fun x => 100 ≤ x ∧ x ≤ 500000000) hstep w.step
  have hphase' := all_iff_getD (P := fun x => 60 ≤ x ∧ x ≤ 86400) hphase w.hPhase
  have hfreq' := all_iff_getD (P := fun x => x ≤ 2592000) hfreq w.hFreq
  rw [limitsOk_iff, LimitWrite.inRange]
  simp only [Bool.and_eq_true, hlock', hout', hstep', hphase', hfreq', and_assoc]
  rfl

theorem judgeSetTimeLimits_judged {w : LimitWrite} (hps : timeLimitParams ps = some w) (hn : w.names = true)
    (hok : s.tmu.params.limitsOk = true) :
    judgeSetTimeLimits ps s = if (w.into s.tmu.params).limitsOk = true then taken [] (writeLimits w s) else refuse .badValue := by
  rw [judgeSetTimeLimits, hps, withParams_some, hn, Bool.true_and, if_congr (inRange_paired_iff hok w) rfl rfl]

/-- The limits written; the class is derived afresh where one of its own is named, and nothing else of the clock moves. -/
theorem writeLimits_tmu (w : LimitWrite) (s : State) :
    (writeLimits w s).tmu.params = w.into s.tmu.params ∧ (writeLimits w s).tmu.site = s.tmu.site ∧ (writeLimits w s).tmu.y = s.tmu.y
      ∧ (writeLimits w s).tmu.timing = s.tmu.timing ∧ (writeLimits w s).lkc = s.lkc := by
  unfold writeLimits
  dsimp only
  split
  · simp
  · exact ⟨rfl, rfl, rfl, rfl, rfl⟩

theorem writeLimits_noClass {w : LimitWrite} (hp : w.hPhase = none) (hf : w.hFreq = none) :
    writeLimits w s = s.updTmu fun t => { t with params := w.into t.params } := by
  rw [writeLimits, hp, hf]
  rfl

/-! ## CLEAR_TIME_STICKY (R156) -/

/-- Of the flags those not named are left. -/
def StickyFlags.without (f : StickyFlags) (fs : List StickyFlag) : StickyFlags :=
  { stepped := f.stepped && decide (StickyFlag.stepped ∉ fs), outlierSeen := f.outlierSeen && decide (StickyFlag.outlierSeen ∉ fs),
    integratorSaturated := f.integratorSaturated && decide (StickyFlag.integratorSaturated ∉ fs),
    correctionSaturated := f.correctionSaturated && decide (StickyFlag.correctionSaturated ∉ fs) }

theorem clear_without (f : StickyFlags) (x : StickyFlag) (fs : List StickyFlag) : (f.clear x).without fs = f.without (x :: fs) := by
  cases x <;> simp [StickyFlags.clear, StickyFlags.without]

theorem foldl_clear (fs : List StickyFlag) (f : StickyFlags) : fs.foldl StickyFlags.clear f = f.without fs := by
  induction fs generalizing f with
  | nil => simp [StickyFlags.without]
  | cons x fs ih => rw [List.foldl_cons, ih, clear_without]

theorem judgeClearTimeSticky_refused (h : stickyParams ps = none ∨ stickyParams ps = some []) : judgeClearTimeSticky ps s = refuse .badValue := by
  obtain h | h := h <;> rw [judgeClearTimeSticky, h] <;> rfl

theorem judgeClearTimeSticky_taken {fs : List StickyFlag} (hps : stickyParams ps = some fs) (hne : fs ≠ []) :
    judgeClearTimeSticky ps s
      = taken (stickyFields s.tmu.sticky) (s.updTmu fun t => { t with sticky := t.sticky.without fs }) := by
  rw [judgeClearTimeSticky, hps, withParams_some, if_neg hne]
  simp only [foldl_clear]

end writes

/-! ## The obligation -/

/-- Settles O51, request by request: its judgement with the list read, then what the state taken holds. -/
theorem timeUnitWrites : Obligations.TimeUnitWrites := by
  intro k tag ps s hask
  have hserved : ∀ v : Verdict, serve k tag (s.holds k .timeControl) false v s = conclude k tag v s := fun v =>
    serve_mayAsk hask tag v (.inl rfl)
  have htime : exec (.setTime k tag ps) s = .next (conclude k tag (judgeSetTime ps s) s) := congrArg _ (hserved _)
  have hbank : exec (.setLoopBank k tag ps) s = .next (conclude k tag (judgeSetLoopBank ps s) s) := congrArg _ (hserved _)
  have hlimits : exec (.setTimeLimits k tag ps) s = .next (conclude k tag (judgeSetTimeLimits ps s) s) := congrArg _ (hserved _)
  have hsticky : exec (.clearTimeSticky k tag ps) s = .next (conclude k tag (judgeClearTimeSticky ps s) s) := congrArg _ (hserved _)
  refine ⟨fun hrun => ?_, fun new hfree hps => ?_, fun src n hps => ?_, fun v hps => ?_, fun acquire a b hps hnames ha hb => ?_,
    fun w hps hn hok => ?_, fun hps => ?_, fun fs hps hne => ?_⟩
  · rw [htime, judgeSetTime_wrongState hrun, conclude_refuse]
  · rw [htime, judgeSetTime_freerun hfree hps]
    refine ⟨fun hbad => by rw [if_neg (by simp [hbad])]; rfl, fun hwf => ?_⟩
    obtain ⟨hsite, hresidue, hstepped, hexchange, hcrossed⟩ := stepTime_tmu new s
    rw [if_pos hwf]
    exact ⟨stepTime new s, rfl, hsite, hresidue, hstepped, hexchange, by simp, by simp, hcrossed, stepTime_noExchange new⟩
  · have hpriority : exec (.setSourcePriority k tag ps) s
        = .next (conclude k tag (if 7 < n then refuse .badValue else taken [] (writePriority src n s)) s) := by
      refine congrArg _ ((hserved _).trans ?_)
      rw [hps, withParams_some]
    obtain ⟨hparams, hselected, hown, hother, hsite⟩ := writePriority_tmu src n s
    obtain ⟨hlkc, hgre, hdsu⟩ := writePriority_apart src n s
    refine ⟨fun h => by rw [hpriority, if_pos h, conclude_refuse], fun h => ?_⟩
    rw [hpriority, if_neg (not_lt.mpr h)]
    refine ⟨writePriority src n s, rfl, hparams, hselected, fun h0 => ?_, fun h0 hd => ?_, fun h0 hd => ?_, hother, hlkc, hgre, hdsu, hsite⟩
    · rw [hown, h0, atPriority_zero]
      exact ⟨rfl, rfl, rfl⟩
    · rw [hown, atPriority_enables h0 hd]
    · rw [hown, atPriority_stands h0 hd]
  · have hpreset : exec (.presetIntegrator k tag ps) s
        = .next (conclude k tag (if v < -12800000 ∨ 12800000 < v then refuse .badValue else taken [] (s.updTmu fun t => t.preset v)) s) := by
      refine congrArg _ ((hserved _).trans ?_)
      rw [hps, withParams_some]
      rfl
    refine ⟨fun h => by rw [hpreset, if_pos h, conclude_refuse], fun hlow hhigh => ?_⟩
    rw [hpreset, if_neg (by omega), conclude_taken, State.updTmu, preset_eq]
  · rw [hbank, judgeSetLoopBank_taken hps hnames ha hb]
    rfl
  · rw [hlimits, judgeSetTimeLimits_judged hps hn hok]
    refine ⟨fun hbad => by rw [if_neg (by simp [hbad])]; rfl, fun hgood => ?_⟩
    obtain ⟨hparams, hsite, hy, htiming, hlkc⟩ := writeLimits_tmu w s
    rw [if_pos hgood]
    exact ⟨writeLimits w s, rfl, hparams, hsite, hy, htiming, hlkc, writeLimits_noClass⟩
  · rw [hsticky, judgeClearTimeSticky_refused hps, conclude_refuse]
  · rw [hsticky, judgeClearTimeSticky_taken hps hne]
    rfl

end Sys2Proof.Machine

/-! The events of the sources and of site time (chapters 7 and 8): what an outcome leaves of a source's record and of the holdover count. -/

namespace Sys2Proof.Machine

open Sys2Proof

/-! ## What an outcome leaves of the sources (R136, R144) -/

theorem afterOutcome_valid (r : SourceRec) :
    (r.afterOutcome true).validRun = min 8 (r.validRun + 1) ∧ (r.afterOutcome true).invalidRun = 0 := ⟨rfl, rfl⟩

theorem afterOutcome_invalid (r : SourceRec) :
    (r.afterOutcome false).validRun = 0 ∧ (r.afterOutcome false).invalidRun = min 3 (r.invalidRun + 1) := ⟨rfl, rfl⟩

theorem afterOutcome_last (r : SourceRec) (v : Bool) : (r.afterOutcome v).last = r.last := by
  cases v <;> rfl

theorem takeOutcome_disabled {src : Source} {s : State} (h : (s.tmu.source src).qual = .disabled) (v : Bool) : takeOutcome src v s = s :=
  if_pos h

/-- The records after an outcome are those it wrote: what follows a change of qualification leaves them. -/
theorem takeOutcome_sources {src : Source} {s : State} (h : (s.tmu.source src).qual ≠ .disabled) (v : Bool) (x : Source) :
    (takeOutcome src v s).tmu.source x = (s.tmu.updSource src fun r => r.afterOutcome v).source x := by
  rw [takeOutcome, if_neg h]
  exact source_congr (by simp) (by simp) x

theorem takeOutcome_source {src : Source} {s : State} (h : (s.tmu.source src).qual ≠ .disabled) (v : Bool) :
    (takeOutcome src v s).tmu.source src = (s.tmu.source src).afterOutcome v :=
  (takeOutcome_sources h v src).trans (source_updSource _ _ _).1

theorem takeOutcome_other (src : Source) (v : Bool) (s : State) :
    (takeOutcome src v s).tmu.source src.other = s.tmu.source src.other := by
  by_cases h : (s.tmu.source src).qual = .disabled
  · rw [takeOutcome_disabled h]
  · exact (takeOutcome_sources h v _).trans (source_updSource _ _ _).2

/-- A missing or invalid outcome breaks the valid run and lengthens the other (R144). -/
theorem takeOutcome_invalid {src : Source} {s : State} (h : (s.tmu.source src).qual ≠ .disabled) :
    ((takeOutcome src false s).tmu.source src).validRun = 0
      ∧ ((takeOutcome src false s).tmu.source src).invalidRun = min 3 ((s.tmu.source src).invalidRun + 1) := by
  rw [takeOutcome_source h]
  exact afterOutcome_invalid _

theorem takeOutcome_last (src : Source) (v : Bool) (s : State) :
    ((takeOutcome src v s).tmu.source src).last = (s.tmu.source src).last := by
  by_cases h : (s.tmu.source src).qual = .disabled
  · rw [takeOutcome_disabled h]
  · rw [takeOutcome_source h, afterOutcome_last]

/-- The end of an exchange is an outcome of LINK. -/
theorem exchangeMissing_gnss (s : State) : (exchangeMissing s).tmu.gnss = s.tmu.gnss := by
  unfold exchangeMissing
  split
  · rfl
  · exact takeOutcome_other .link false _

theorem exchangeMissing_some {x : Exchange} {s : State} (h : s.tmu.exchange = some x) :
    exchangeMissing s = takeOutcome .link false (s.updTmu fun t => { t with exchange := none }) := by
  simp [exchangeMissing, h]

/-! ## A GNSS pulse (R138) -/

theorem screenSample_gnss (x : Sample) (s : State) : (screenSample x s).tmu.gnss = s.tmu.gnss := by
  unfold screenSample
  (repeat' split) <;> simp [stepTime, exchangeMissing_gnss, Tmu.stepTo, Tmu.putMark]

/-- The record of GNSS after a valid sample: the sample as the last one, and, where GNSS is not DISABLED, the outcome. -/
theorem takeSample_gnss (x : Sample) (s : State) :
    (takeSample .gnss x s).tmu.gnss
      = if s.tmu.gnss.qual = .disabled then { s.tmu.gnss with last := some x } else { s.tmu.gnss with last := some x }.afterOutcome true := by
  by_cases h : s.tmu.gnss.qual = .disabled
  · rw [takeSample, if_pos (show (s.tmu.source .gnss).qual = .disabled from h), if_pos h]
    rfl
  · have htaken : ∀ u : State, (if s.tmu.selected = some .gnss then screenSample x u else u).tmu.gnss = u.tmu.gnss := fun u => by
      split
      · exact screenSample_gnss x u
      · rfl
    rw [takeSample, if_neg (show ¬(s.tmu.source .gnss).qual = .disabled from h), if_neg h, htaken]
    simp only [tsuSample_frame]
    exact takeOutcome_source (src := .gnss) (s := s.updTmu fun t => t.updSource .gnss fun r => { r with last := some x }) h true

/-- The sample of a pulse is the capture less the stated second, within half a second of a whole one. -/
theorem gnssSample_full (captured : SiteTime) (sec : Nat) :
    (gnssSample captured sec).error + (gnssSample captured sec).mismatch * 1000000000 = timeNs captured - (sec : Int) * 1000000000
      ∧ -500000000 ≤ (gnssSample captured sec).error ∧ (gnssSample captured sec).error < 500000000 := by
  simp only [gnssSample]
  omega

/-- The message taken and the pulse timer started again. -/
def pulseTaken (s : State) : State := s.updTmu fun t => { t with message := none, pulseTimer := some 0 }

theorem gnssPulse_valid {s : State} (hl : s.scu.site ≠ .loading) {sec : Nat} (hm : s.tmu.message = some ⟨sec, true⟩) :
    gnssPulse s = takeSample .gnss (gnssSample s.tmu.site sec) (pulseTaken s) := by
  simp only [gnssPulse, if_neg hl, hm]
  rfl

theorem gnssPulse_invalid {s : State} (hl : s.scu.site ≠ .loading) (hm : ∀ sec, s.tmu.message ≠ some ⟨sec, true⟩) :
    gnssPulse s = takeOutcome .gnss false (pulseTaken s) := by
  rw [gnssPulse, if_neg hl]
  split
  · next sec hsome => exact absurd hsome (hm sec)
  · rfl

theorem gnssPulse_taken {s : State} (hl : s.scu.site ≠ .loading) :
    (gnssPulse s).tmu.message = none ∧ (gnssPulse s).tmu.pulseTimer = some 0 := by
  by_cases hm : ∃ sec, s.tmu.message = some ⟨sec, true⟩
  · obtain ⟨sec, hm⟩ := hm
    simp [gnssPulse_valid hl hm, pulseTaken]
  · simp [gnssPulse_invalid hl fun sec h => hm ⟨sec, h⟩, pulseTaken]

theorem gnssPulse_recordsStand (s : State) : s.recordsStand (gnssPulse s) :=
  (gnssPulse_moves s).recordsStand (by simp [State.tablesStand, State.tables]) (by simp)

/-! ## The pulse timer and the reply timer (R139, R141) -/

theorem pulseTimerExpiry_waits {s : State} (h : ∀ n, s.tmu.pulseTimer = some n → n < 1100) : pulseTimerExpiry s = s := by
  refine if_neg ?_
  rw [Tmu.pulseDue, Option.any_eq_true]
  rintro ⟨n, hn, hdue⟩
  exact absurd (of_decide_eq_true hdue) (not_le.mpr (h n hn))

theorem pulseTimerExpiry_due {s : State} {n : Nat} (hn : s.tmu.pulseTimer = some n) (h : 1100 ≤ n) :
    pulseTimerExpiry s = takeOutcome .gnss false (pulseTaken s) := by
  refine if_pos ?_
  rw [Tmu.pulseDue, hn]
  exact decide_eq_true h

theorem pulseTimerExpiry_recordsStand (s : State) : s.recordsStand (pulseTimerExpiry s) :=
  (pulseTimerExpiry_moves s).recordsStand (by simp [State.tablesStand, State.tables]) (by simp)

theorem replyTimerExpiry_waits {s : State} (h : ∀ x e, s.tmu.exchange = some x → x.sent = some e → e.timer < 50) :
    replyTimerExpiry s = s := by
  refine if_neg ?_
  rw [Tmu.replyDue, Option.any_eq_true]
  rintro ⟨e, he, hdue⟩
  obtain ⟨x, hx, hsent⟩ := Option.bind_eq_some_iff.mp he
  exact absurd (of_decide_eq_true hdue) (not_le.mpr (h x e hx hsent))

theorem replyTimerExpiry_due {s : State} {x : Exchange} {e : ExchangeSent} (hx : s.tmu.exchange = some x) (he : x.sent = some e)
    (h : 50 ≤ e.timer) : replyTimerExpiry s = exchangeMissing s := by
  refine if_pos ?_
  rw [Tmu.replyDue, hx, Option.bind_some, he]
  exact decide_eq_true h

theorem replyTimerExpiry_recordsStand (s : State) : s.recordsStand (replyTimerExpiry s) :=
  (replyTimerExpiry_moves s).recordsStand (by simp [State.tablesStand, State.tables]) (by simp)

/-! ## The holdover count through an outcome (R147, R149) -/

/-- The count stands, unless the timing state moves to HOLDOVER. -/
def Tmu.countStands (t u : Tmu) : Prop := u.holdover = t.holdover ∨ (t.timing ≠ .holdover ∧ u.timing = .holdover)

theorem moveSelected_countStands (t : Tmu) (sel : Option Source) : t.countStands (t.moveSelected sel) := by
  unfold Tmu.countStands Tmu.moveSelected
  dsimp only
  split
  · exact .inl rfl
  · exact .inl rfl
  · exact .inl rfl
  · next htiming =>
    split
    · exact .inr ⟨by rw [htiming]; decide, rfl⟩
    · exact .inl rfl
  · exact .inl rfl
  · next htiming => exact .inr ⟨by rw [htiming]; decide, rfl⟩
  · exact .inl rfl
  · exact .inl rfl

theorem judgeSelection_countStands (s : State) : s.tmu.countStands (judgeSelection s).tmu := by
  unfold judgeSelection
  split
  · exact .inl rfl
  · rw [deriveClass_tmu]
    simpa [Tmu.countStands] using moveSelected_countStands s.tmu s.tmu.selection

theorem Tmu.countStands.of_same {t t' u : Tmu} (hh : t'.holdover = t.holdover) (ht : t'.timing = t.timing) (h : t'.countStands u) :
    t.countStands u := by
  unfold Tmu.countStands at h ⊢
  rwa [hh, ht] at h

theorem takeOutcome_countStands (src : Source) (v : Bool) (s : State) : s.tmu.countStands (takeOutcome src v s).tmu := by
  unfold takeOutcome qualificationChanged
  split
  · exact .inl rfl
  · split
    · exact .inl (by simp)
    · refine (judgeSelection_countStands _).of_same ?_ ?_ <;> split <;> simp

theorem exchangeMissing_countStands (s : State) : s.tmu.countStands (exchangeMissing s).tmu := by
  unfold exchangeMissing
  split
  · exact .inl rfl
  · exact (takeOutcome_countStands _ _ _).of_same rfl rfl

theorem boundaryExchange_countStands (n : Nat) (s : State) : s.tmu.countStands (boundaryExchange n s).tmu := by
  unfold boundaryExchange
  split
  · exact exchangeMissing_countStands s
  · exact takeOutcome_countStands _ _ _

/-! ## A second boundary (R122, R140, R149) -/

theorem boundaryExchange_up {s : State} (h : s.lkc.state = .up) (n : Nat) : (boundaryExchange n s).tmu.exchange = some ⟨n, none, none⟩ := by
  rw [boundaryExchange, State.linkUp, h]
  rfl

theorem boundaryExchange_down {s : State} (h : s.lkc.state ≠ .up) (n : Nat) : boundaryExchange n s = takeOutcome .link false s :=
  if_neg (by simpa [State.linkUp] using h)

theorem countHoldover_holdover (t : Tmu) :
    t.countHoldover.holdover = if t.timing = .holdover then min (t.holdover + 1) 4294967295 else t.holdover := by
  unfold Tmu.countHoldover
  split <;> rfl

/-- A boundary before its exchange: the second reached, the holdover counted, the class derived and TSU told. -/
def boundaryCounted (n : Nat) (s : State) : State :=
  tsuBoundary (deriveClass ((s.updTmu fun t => { t with lastSecond := some n }).updTmu Tmu.countHoldover))

theorem boundaryCounted_lkc (n : Nat) (s : State) : (boundaryCounted n s).lkc = s.lkc := by simp [boundaryCounted]

theorem boundaryCounted_tmu (n : Nat) (s : State) :
    (boundaryCounted n s).tmu.lastSecond = some n ∧ (boundaryCounted n s).tmu.timing = s.tmu.timing
      ∧ (boundaryCounted n s).tmu.link = s.tmu.link
      ∧ (boundaryCounted n s).tmu.holdover
          = if s.tmu.timing = .holdover then min (s.tmu.holdover + 1) 4294967295 else s.tmu.holdover := by
  refine ⟨by simp [boundaryCounted], by simp [boundaryCounted], by simp [boundaryCounted], ?_⟩
  have hkept : (boundaryCounted n s).tmu.holdover = ({ s.tmu with lastSecond := some n } : Tmu).countHoldover.holdover := by
    simp [boundaryCounted]
  rw [hkept, countHoldover_holdover]

theorem raiseBoundary_eq {s : State} (hl : s.scu.site ≠ .loading) (n : Nat) : raiseBoundary n s = boundaryExchange n (boundaryCounted n s) :=
  if_neg hl

/-- What a boundary leaves of TMU: the second, the count and what becomes of LINK. -/
theorem raiseBoundary_leaves {s : State} (hl : s.scu.site ≠ .loading) (n : Nat) :
    (raiseBoundary n s).tmu.lastSecond = some n
      ∧ (s.tmu.timing = .holdover → (raiseBoundary n s).tmu.holdover = min (s.tmu.holdover + 1) 4294967295)
      ∧ (s.tmu.timing ≠ .holdover →
          (raiseBoundary n s).tmu.holdover = s.tmu.holdover ∨ (raiseBoundary n s).tmu.timing = .holdover)
      ∧ (s.lkc.state = .up → (raiseBoundary n s).tmu.exchange = some ⟨n, none, none⟩)
      ∧ (s.lkc.state ≠ .up → s.tmu.link.qual ≠ .disabled →
          (raiseBoundary n s).tmu.link.validRun = 0 ∧ (raiseBoundary n s).tmu.link.invalidRun = min 3 (s.tmu.link.invalidRun + 1)) := by
  obtain ⟨hlast, htiming, hlink, hcount⟩ := boundaryCounted_tmu n s
  have hlkc := boundaryCounted_lkc n s
  have hstands := boundaryExchange_countStands n (boundaryCounted n s)
  rw [Tmu.countStands, htiming, hcount] at hstands
  rw [raiseBoundary_eq hl]
  refine ⟨by simpa using hlast, fun hh => ?_, fun hh => ?_, fun hup => boundaryExchange_up (hlkc ▸ hup) n, fun hdown hq => ?_⟩
  · rw [if_pos hh] at hstands
    exact hstands.resolve_right fun h => h.1 hh
  · rw [if_neg hh] at hstands
    exact hstands.imp_right And.right
  · rw [boundaryExchange_down (hlkc ▸ hdown), ← hlink]
    exact takeOutcome_invalid (src := .link) fun h => hq ((congrArg SourceRec.qual hlink).symm.trans h)

theorem siteSecond_ignored {n : Nat} {s : State} (h : s.tmu.crossed.second ≠ some n) : siteSecond n s = s := if_neg h

/-- A crossing taken into a second already reached raises no boundary. -/
theorem siteSecond_repeated {n l : Nat} {s : State} (h : s.tmu.crossed.second = some n) (hl : s.tmu.lastSecond = some l) (hn : n ≤ l) :
    siteSecond n s = s.updTmu Tmu.takeSecond := by
  rw [siteSecond, if_pos h]
  refine if_neg ?_
  have hlast : (s.updTmu Tmu.takeSecond).tmu.lastSecond = some l := by simpa using hl
  rw [hlast]
  simpa using hn

theorem siteSecond_boundary {n : Nat} {s : State} (h : s.tmu.crossed.second = some n) (hl : ∀ l, s.tmu.lastSecond = some l → l < n) :
    siteSecond n s = raiseBoundary n (s.updTmu Tmu.takeSecond) := by
  rw [siteSecond, if_pos h]
  refine if_pos ?_
  have hlast : (s.updTmu Tmu.takeSecond).tmu.lastSecond = s.tmu.lastSecond := by simp
  rw [hlast]
  cases hs : s.tmu.lastSecond with
  | none => rfl
  | some l => exact decide_eq_true (hl l hs)

theorem siteSecond_recordsStand (n : Nat) (s : State) : s.recordsStand (siteSecond n s) :=
  (siteSecond_moves n s).recordsStand (by simp [State.tablesStand, State.tables]) (by simp)

/-! ## The obligation -/

/-- Settles O52, event by event: the outcome it yields, and what that leaves of the source's record. -/
theorem sourceAndBoundaryEvents : Obligations.SourceAndBoundaryEvents := by
  intro s hloaded
  refine ⟨fun bytes => ?_, ?_, fun h => congrArg _ (pulseTimerExpiry_waits h), fun n hn hdue => ?_,
    fun n h => congrArg _ (siteSecond_ignored h), fun n l h hl hn => congrArg _ (siteSecond_repeated h hl hn), fun n h hl => ?_,
    fun h => congrArg _ (replyTimerExpiry_waits h), fun x e hx he hdue => ?_⟩
  · change execGnssTimeMessage bytes s = _
    unfold execGnssTimeMessage
    split <;> rfl
  · obtain ⟨hmessage, htimer⟩ := gnssPulse_taken hloaded
    refine ⟨gnssPulse s, rfl, hmessage, htimer, by simp, gnssPulse_recordsStand s, fun sec hm => ?_, fun hm => ?_⟩
    · obtain ⟨hfull, hlow, hhigh⟩ := gnssSample_full s.tmu.site sec
      have hgnss : (gnssPulse s).tmu.gnss = _ := (congrArg (fun u => u.tmu.gnss) (gnssPulse_valid hloaded hm)).trans (takeSample_gnss _ _)
      refine ⟨gnssSample s.tmu.site sec, ?_, rfl, hfull, hlow, hhigh, fun hq => ?_⟩
      · rw [hgnss]
        split
        · rfl
        · exact afterOutcome_last _ _
      · rw [hgnss, if_neg (show ¬(pulseTaken s).tmu.gnss.qual = .disabled from hq)]
        exact afterOutcome_valid _
    · rw [gnssPulse_invalid hloaded hm]
      exact ⟨takeOutcome_last .gnss false (pulseTaken s), by simp [pulseTaken], fun hq => takeOutcome_invalid (src := .gnss) (s := pulseTaken s) hq⟩
  · have hexpired := pulseTimerExpiry_due hn hdue
    refine ⟨pulseTimerExpiry s, rfl, ?_, ?_, ?_, by simp, pulseTimerExpiry_recordsStand s, fun hq => ?_⟩ <;> rw [hexpired]
    · simp [pulseTaken]
    · simp [pulseTaken]
    · simp [pulseTaken]
    · exact (takeOutcome_invalid (src := .gnss) (s := pulseTaken s) hq).2
  · have hcrossed := siteSecond_boundary h hl
    have hleaves := raiseBoundary_leaves (s := s.updTmu Tmu.takeSecond) hloaded n
    obtain ⟨hlast, hcounts, hstands, hup, hdown⟩ := hleaves
    rw [← hcrossed] at hlast hcounts hstands hup hdown
    exact ⟨siteSecond n s, rfl, hlast, by rw [hcrossed]; simp, by simp, by simp, by simp, siteSecond_recordsStand n s, hcounts, hstands, hup, hdown⟩
  · have hended := replyTimerExpiry_due hx he hdue
    refine ⟨replyTimerExpiry s, rfl, ?_, by simp, by simp, replyTimerExpiry_recordsStand s, fun hq => ?_⟩
    · rw [hended, exchangeMissing_exchange]
    · rw [hended, exchangeMissing_some hx]
      exact takeOutcome_invalid (src := .link) (s := s.updTmu fun t => { t with exchange := none }) hq

end Sys2Proof.Machine

/-! The arithmetic of the loop and of a link exchange (chapter 8). -/

namespace Sys2Proof.Machine

open Sys2Proof

/-! ## A division rounded (R153) -/

/-- The two powers a division is stated over, as one. -/
theorem pow_two_cast (k : Nat) : (2 ^ k : Int) = ((2 ^ k : Nat) : Int) := by push_cast; rfl

/-- The quotient toward zero leaves less than a divisor, and what it accounts for is no more than the dividend. -/
theorem divRound_towardZero (n : Int) (k : Nat) :
    (n - divRound .towardZero n k * 2 ^ k).natAbs < 2 ^ k ∧ (divRound .towardZero n k * 2 ^ k).natAbs ≤ n.natAbs := by
  have hrest : n - divRound .towardZero n k * 2 ^ k = n.tmod ((2 ^ k : Nat) : Int) := by
    rw [pow_two_cast, mul_comm, Int.tmod_def]
    rfl
  have htaken : (divRound .towardZero n k * 2 ^ k).natAbs = n.natAbs / 2 ^ k * 2 ^ k := by
    rw [pow_two_cast, Int.natAbs_mul, Int.natAbs_natCast, divRound, Int.natAbs_tdiv, Int.natAbs_natCast]
    rfl
  refine ⟨?_, htaken.trans_le (Nat.div_mul_le_self _ _)⟩
  rw [hrest, Int.natAbs_tmod]
  exact Nat.mod_lt _ (Nat.two_pow_pos k)

/-- The rounded quotient is the floor, or the next integer; which of them, and what it leaves, follows the remainder against half the
divisor, and at the half the one of the two that is even. -/
theorem divRound_nearestEven_cases (n : Int) (k : Nat) :
    ∃ r : Int, 0 ≤ r ∧ r < 2 ^ k ∧
      ((n - divRound .nearestEven n k * 2 ^ k = r ∧ (2 * r < 2 ^ k ∨ 2 * r = 2 ^ k ∧ divRound .nearestEven n k % 2 = 0))
        ∨ (n - divRound .nearestEven n k * 2 ^ k = r - 2 ^ k ∧ (2 ^ k < 2 * r ∨ 2 * r = 2 ^ k ∧ divRound .nearestEven n k % 2 = 0))) := by
  have hpos : (0 : Int) < 2 ^ k := by positivity
  have hdivided : n - n / 2 ^ k * 2 ^ k = n % 2 ^ k := by rw [mul_comm, ← Int.emod_def]
  have hnext : n - (n / 2 ^ k + 1) * 2 ^ k = n % 2 ^ k - 2 ^ k := by rw [← hdivided]; ring
  refine ⟨n % 2 ^ k, Int.emod_nonneg _ hpos.ne', Int.emod_lt_of_pos _ hpos, ?_⟩
  simp only [divRound, ← pow_two_cast]
  split
  · next h => exact .inl ⟨hdivided, .inl h⟩
  · next hlow =>
    split
    · next h => exact .inr ⟨hnext, .inl h⟩
    · next hhigh =>
      have htie : 2 * (n % 2 ^ k) = 2 ^ k := by omega
      split
      · next h => exact .inl ⟨hdivided, .inr ⟨htie, h⟩⟩
      · next h => exact .inr ⟨hnext, .inr ⟨htie, by omega⟩⟩

/-- The rounded quotient is within half a divisor, and even at the half. -/
theorem divRound_nearestEven (n : Int) (k : Nat) :
    (2 * (n - divRound .nearestEven n k * 2 ^ k)).natAbs ≤ 2 ^ k
      ∧ ((2 * (n - divRound .nearestEven n k * 2 ^ k)).natAbs = 2 ^ k → divRound .nearestEven n k % 2 = 0) := by
  obtain ⟨r, hlow, hhigh, ⟨h, hr⟩ | ⟨h, hr⟩⟩ := divRound_nearestEven_cases n k <;> rw [h] <;> rw [pow_two_cast] at * <;> omega

/-! ## The clamps (R152) -/

theorem clamp_correction (v : Int) : clamp Config.maxCorrection v = max (-12800000) (min 12800000 v) := rfl

/-- A clamp tells exactly of a value beyond F_max. -/
theorem clamp_moves (v : Int) : decide (v ≠ clamp Config.maxCorrection v) = decide (v < -12800000 ∨ 12800000 < v) := by
  rw [decide_eq_decide, clamp_correction]
  omega

/-- A sample applied sets the flag of each clamp that its value is beyond. -/
theorem apply_sticky (t : Tmu) (bank : LoopBank) (e : Int) :
    (t.apply bank e).sticky = { t.sticky with
      integratorSaturated := t.sticky.integratorSaturated
        || decide (t.integ + divRound t.params.rounding (e * 256) bank.b < -12800000
          ∨ 12800000 < t.integ + divRound t.params.rounding (e * 256) bank.b)
      correctionSaturated := t.sticky.correctionSaturated
        || decide ((t.apply bank e).integ + divRound t.params.rounding (e * 256) bank.a < -12800000
          ∨ 12800000 < (t.apply bank e).integ + divRound t.params.rounding (e * 256) bank.a) } := by
  simp only [Tmu.apply, clamp_moves]

/-! ## The outcome of an exchange (R143) -/

/-- A reply that is valid and in order. -/
def replyUsable (r : TimeReply) (t1 t4 : SiteTime) : Prop :=
  r.valid = true ∧ timeNs r.t2 ≤ timeNs r.t3 ∧ 0 ≤ timeNs r.t2 - timeNs t1 + (timeNs t4 - timeNs r.t3)

theorem linkOutcome_usable {t1 t4 : SiteTime} {r : TimeReply} (h : replyUsable r t1 t4) (n : Nat) (a : Int) :
    linkOutcome n t1 t4 r a
      = some (⟨(timeNs t4 - timeNs r.t3 - (timeNs r.t2 - timeNs t1) + a) / 2, 0, n⟩,
          (timeNs r.t2 - timeNs t1 + (timeNs t4 - timeNs r.t3)) / 2) := by
  obtain ⟨hvalid, horder, hsum⟩ := h
  exact if_neg (by simp [hvalid, horder, hsum])

theorem linkOutcome_unusable {t1 t4 : SiteTime} {r : TimeReply} (h : ¬replyUsable r t1 t4) (n : Nat) (a : Int) :
    linkOutcome n t1 t4 r a = none := by
  refine if_pos ?_
  rw [replyUsable] at h
  by_contra hno
  simp only [Bool.not_eq_true', not_or, not_lt, Bool.not_eq_false] at hno
  exact h ⟨hno.1, hno.2.1, hno.2.2⟩

/-! ## The obligation -/

/-- Settles O56: the two roundings, a sample applied field by field, and an exchange by whether its reply is usable. -/
theorem disciplineArithmetic : Obligations.DisciplineArithmetic := by
  refine ⟨fun n k => ?_, fun t bank e => ?_, fun n t1 t4 r a => ⟨fun h => linkOutcome_unusable h n a, fun h => ?_⟩⟩
  · obtain ⟨hnear, heven⟩ := divRound_nearestEven n k
    obtain ⟨hrest, htaken⟩ := divRound_towardZero n k
    exact ⟨hnear, heven, hrest, htaken⟩
  · dsimp only
    rw [mul_comm 256 e, apply_sticky]
    exact ⟨clamp_correction _, clamp_correction _, rfl, rfl, rfl, rfl⟩
  · refine ⟨_, _, linkOutcome_usable h n a, rfl, rfl, ?_⟩
    dsimp only
    omega

end Sys2Proof.Machine

/-! What a sample and an outcome of a source leave (chapters 8 and 9): the test record and the site, the sources' records, and the loop. -/

namespace Sys2Proof.Machine

open Sys2Proof

/-! ## The test record outside BRINGUP (R4, R166) -/

/-- Outside BRINGUP, and where no order waits while none runs, the test record and the site stand. -/
def State.testsStand (s t : State) : Prop :=
  s.scu.site ≠ .bringup → s.noIdleQueue → t.tsu = s.tsu ∧ t.scu.site = s.scu.site

theorem State.testsStand.refl (s : State) : s.testsStand s := fun _ _ => ⟨rfl, rfl⟩

theorem State.testsStand.of_same {s t : State} (ho : t.tsu = s.tsu) (hs : t.scu.site = s.scu.site) : s.testsStand t := fun _ _ => ⟨ho, hs⟩

theorem State.testsStand.trans {s t u : State} (h1 : s.testsStand t) (h2 : t.testsStand u) : s.testsStand u := fun hb hi => by
  obtain ⟨htsu, hsite⟩ := h1 hb hi
  obtain ⟨htsu', hsite'⟩ := h2 (hsite ▸ hb) (by rwa [State.noIdleQueue, htsu])
  exact ⟨htsu'.trans htsu, hsite'.trans hsite⟩

theorem deriveClass_testsStand (s : State) : s.testsStand (deriveClass s) := by
  by_cases hd : s.tmu.derivedClass = s.tmu.cls
  · rw [deriveClass_same hd]
    exact .refl s
  · rw [deriveClass_publishes hd]
    intro hb hi
    obtain ⟨hsite, -, htsu⟩ := classPublished_same (publish s)
    rw [htsu, hsite, bringup_of_ne (by simpa using hb) (by simpa [State.noIdleQueue] using hi)]
    simp

theorem judgeSelection_testsStand (s : State) : s.testsStand (judgeSelection s) := by
  unfold judgeSelection
  split
  · exact .refl s
  · exact State.testsStand.trans (.of_same (by simp) (by simp)) (deriveClass_testsStand _)

/-- A sample screened with no exchange in flight ends none. -/
theorem screenSample_testsStand (x : Sample) {s : State} (h : s.tmu.exchange = none) : s.testsStand (screenSample x s) := by
  unfold screenSample
  split
  · split
    · rw [stepTime_noExchange _ (by simpa using h)]
      exact .of_same rfl rfl
    · exact deriveClass_testsStand (s.updTmu _)
  · split <;> exact deriveClass_testsStand (s.updTmu _)
  · exact .refl s

/-! ## A sample handed to TSU (R178) -/

section compare

variable {id c l : Nat} {who : Requester} {p : CompareProgress} {src : Source} {x y : Sample} {s : State}
  (hr : s.tsu.running = some ⟨⟨id, who, .timeCompare c l⟩, .timeCompare p⟩)

include hr

/-- A sample with none of its second held of the other source is held. -/
theorem tsuSample_held (h : ∀ y, p.heldOf src.other = some y → y.second ≠ x.second) :
    tsuSample src x s = setProgress (.timeCompare (p.hold src x)) s := by
  cases hheld : p.heldOf src.other with
  | none => simp only [tsuSample, hr, hheld]
  | some y => simp only [tsuSample, hr, hheld, if_neg (h y hheld)]

theorem tsuSample_fails (hy : p.heldOf src.other = some y) (hsec : y.second = x.second) (hd : l < difference x y) :
    tsuSample src x s = endRunning .fail (setProgress (.timeCompare (p.compare (difference x y))) s) := by
  simp only [tsuSample, hr, hy, if_pos hsec, if_pos hd]

theorem tsuSample_passes (hy : p.heldOf src.other = some y) (hsec : y.second = x.second) (hd : difference x y ≤ l) (hc : c ≤ p.made + 1) :
    tsuSample src x s = endRunning .pass (setProgress (.timeCompare (p.compare (difference x y))) s) := by
  simp only [tsuSample, hr, hy, if_pos hsec, if_neg (not_lt.mpr hd), if_pos hc]

theorem tsuSample_compares (hy : p.heldOf src.other = some y) (hsec : y.second = x.second) (hd : difference x y ≤ l) (hc : p.made + 1 < c) :
    tsuSample src x s = setProgress (.timeCompare (p.compare (difference x y))) s := by
  simp only [tsuSample, hr, hy, if_pos hsec, if_neg (not_lt.mpr hd), if_neg (not_le.mpr hc)]

end compare

/-- How TSU takes a sample follows from its record alone: not at all, by a progress, or by a progress and the order's end. -/
theorem tsuSample_cases (src : Source) (x : Sample) (s : State) :
    (∀ u : State, u.tsu = s.tsu → tsuSample src x u = u)
      ∨ (∃ q, ∀ u : State, u.tsu = s.tsu → tsuSample src x u = setProgress q u)
      ∨ ∃ q out, ∀ u : State, u.tsu = s.tsu → tsuSample src x u = endRunning out (setProgress q u) := by
  by_cases hr : ∃ id who c l p, s.tsu.running = some ⟨⟨id, who, .timeCompare c l⟩, .timeCompare p⟩
  · obtain ⟨id, who, c, l, p, hr⟩ := hr
    by_cases hy : ∃ y, p.heldOf src.other = some y ∧ y.second = x.second
    · obtain ⟨y, hy, hsec⟩ := hy
      obtain hfail | hd := lt_or_ge l (difference x y)
      · exact .inr (.inr ⟨_, _, fun u hu => tsuSample_fails (hu ▸ hr) hy hsec hfail⟩)
      · obtain hc | hc := lt_or_ge (p.made + 1) c
        · exact .inr (.inl ⟨_, fun u hu => tsuSample_compares (hu ▸ hr) hy hsec hd hc⟩)
        · exact .inr (.inr ⟨_, _, fun u hu => tsuSample_passes (hu ▸ hr) hy hsec hd hc⟩)
    · exact .inr (.inl ⟨_, fun u hu => tsuSample_held (hu ▸ hr) fun y hheld hsec => hy ⟨y, hheld, hsec⟩⟩)
  · refine .inl fun u hu => ?_
    unfold tsuSample
    split
    · next id who c l p h => exact absurd ⟨id, who, c, l, p, hu ▸ h⟩ hr
    · rfl

theorem writeEntry_congr {s u : State} (htsu : u.tsu = s.tsu) (htime : u.tmu.site = s.tmu.site) (hcls : u.tmu.cls = s.tmu.cls) (o : Order)
    (out : TestOutcome) (m : Measures) : (writeEntry o out m u).tsu = (writeEntry o out m s).tsu := by
  simp only [writeEntry, htsu, htime, hcls]
  split
  · exact htsu
  · simp only [State.updTsu, htsu]

/-- An order's end with none behind it leaves the same test record in states alike in it, the site time and the class. -/
theorem endRunning_congr {s u : State} (htsu : u.tsu = s.tsu) (htime : u.tmu.site = s.tmu.site) (hcls : u.tmu.cls = s.tmu.cls)
    (hq : s.tsu.queued = []) (hb : s.scu.site ≠ .bringup) (hbu : u.scu.site ≠ .bringup) (out : TestOutcome) :
    (endRunning out u).tsu = (endRunning out s).tsu := by
  cases hr : s.tsu.running with
  | none => simp only [endRunning, htsu, hr]
  | some r =>
    obtain ⟨hs, -⟩ := endRunning_alone hr hq hb out
    obtain ⟨hu, -⟩ := endRunning_alone (htsu ▸ hr) (htsu ▸ hq) hbu out
    rw [hs, hu]
    exact writeEntry_congr (s := s.updTsu fun t => { t with running := none }) (u := u.updTsu fun t => { t with running := none })
      (congrArg (fun t : Tsu => { t with running := none }) htsu) htime hcls _ _ _

theorem setProgress_congr {s u : State} (htsu : u.tsu = s.tsu) (q : Progress) : (setProgress q u).tsu = (setProgress q s).tsu :=
  by
  simp only [setProgress, State.updTsu, htsu]

theorem tsuSample_congr {s u : State} (htsu : u.tsu = s.tsu) (htime : u.tmu.site = s.tmu.site) (hcls : u.tmu.cls = s.tmu.cls)
    (hq : s.tsu.queued = []) (hb : s.scu.site ≠ .bringup) (hbu : u.scu.site ≠ .bringup) (src : Source) (x : Sample) :
    (tsuSample src x u).tsu = (tsuSample src x s).tsu := by
  obtain h | ⟨q, h⟩ | ⟨q, out, h⟩ := tsuSample_cases src x s <;> rw [h u htsu, h s rfl]
  · exact htsu
  · exact setProgress_congr htsu q
  · exact endRunning_congr (setProgress_congr htsu q) (by simpa using htime) (by simpa using hcls) (by simpa using hq) (by simpa using hb)
      (by simpa using hbu) out

/-- A sample leads into BRINGUP from nowhere. -/
theorem tsuSample_elsewhere {s : State} (hq : s.tsu.queued = []) (hb : s.scu.site ≠ .bringup) (src : Source) (x : Sample) :
    (tsuSample src x s).scu.site ≠ .bringup := by
  obtain h | ⟨q, h⟩ | ⟨q, out, h⟩ := tsuSample_cases src x s <;> rw [h s rfl]
  · exact hb
  · simpa using hb
  · cases hr : (setProgress q s).tsu.running with
    | none => simpa only [endRunning, hr, setProgress_frame] using hb
    | some r => exact (endRunning_alone hr (by simpa using hq) (by simpa using hb) out).2

/-! ## A sample taken (R136, R144, R150) -/

theorem takeSample_disabled {src : Source} {s : State} (h : (s.tmu.source src).qual = .disabled) (x : Sample) :
    takeSample src x s = s.updTmu fun t => t.updSource src fun r => { r with last := some x } := if_pos h

/-- The record of a source with a valid sample's outcome. -/
def SourceRec.withSample (r : SourceRec) (x : Sample) : SourceRec := { r with last := some x }.afterOutcome true

/-- A QUALIFIED source with a valid sample's outcome. -/
def sampled (src : Source) (x : Sample) (s : State) : State := s.updTmu fun t => t.updSource src fun r => r.withSample x

theorem withSample_leaves (r : SourceRec) (x : Sample) :
    (r.withSample x).last = some x ∧ (r.withSample x).validRun = min 8 (r.validRun + 1) ∧ (r.withSample x).invalidRun = 0 :=
  ⟨rfl, rfl, rfl⟩

/-- A valid outcome leaves a QUALIFIED source so. -/
theorem afterOutcome_qualified {r : SourceRec} (h : r.qual = .qualified) : (r.afterOutcome true).qual = .qualified := by
  simp [SourceRec.afterOutcome, h]

theorem takeOutcome_qualified {src : Source} {s : State} (h : (s.tmu.source src).qual = .qualified) :
    takeOutcome src true s = s.updTmu fun t => t.updSource src fun r => r.afterOutcome true := by
  rw [takeOutcome, if_neg (by simp [h]), qualificationChanged, if_pos]
  rw [h, State.updTmu_tmu, (source_updSource _ _ _).1]
  exact afterOutcome_qualified h

/-- The sample of a QUALIFIED source goes to its record, to TSU, and where the source is selected to the loop. -/
theorem takeSample_qualified {src : Source} {s : State} (h : (s.tmu.source src).qual = .qualified) (x : Sample) :
    takeSample src x s
      = if s.tmu.selected = some src then screenSample x (tsuSample src x (sampled src x s)) else tsuSample src x (sampled src x s) := by
  have hkept : takeOutcome src true (s.updTmu fun t => t.updSource src fun r => { r with last := some x }) = sampled src x s := by
    rw [takeOutcome_qualified (by rw [State.updTmu_tmu, (source_updSource _ _ _).1]; exact h)]
    cases src <;> rfl
  rw [takeSample, if_neg (by simp [h])]
  simp only [hkept]

/-- A sample of a QUALIFIED source, with no exchange in flight and none behind the running order, leaves the test record as TSU does. -/
theorem takeSample_tsu {src : Source} {x : Sample} {s u : State} (h : (u.tmu.source src).qual = .qualified) (he : u.tmu.exchange = none)
    (htsu : u.tsu = s.tsu) (htime : u.tmu.site = s.tmu.site) (hcls : u.tmu.cls = s.tmu.cls) (hsite : u.scu.site = s.scu.site)
    (hq : s.tsu.queued = []) (hb : s.scu.site ≠ .bringup) : (takeSample src x u).tsu = (tsuSample src x s).tsu := by
  have hbu : u.scu.site ≠ .bringup := by rwa [hsite]
  have hqu : (sampled src x u).tsu.queued = [] := by rw [← htsu] at hq; exact hq
  have htaken : (tsuSample src x (sampled src x u)).tsu = (tsuSample src x s).tsu :=
    tsuSample_congr (u := sampled src x u) htsu (by simpa [sampled] using htime) (by simpa [sampled] using hcls) hq hb hbu src x
  have hscreened := screenSample_testsStand x (s := tsuSample src x (sampled src x u)) (by simpa [sampled] using he)
  rw [takeSample_qualified h]
  split
  · exact (hscreened (tsuSample_elsewhere hqu hbu src x) ((tsuSample_moves src x _).keeps.noIdle fun _ => hqu)).1.trans htaken
  · exact htaken

/-- A sample screened with no exchange in flight leaves the sources' records, and none in flight. -/
theorem screenSample_sources (x : Sample) {s : State} (h : s.tmu.exchange = none) :
    (screenSample x s).tmu.gnss = s.tmu.gnss ∧ (screenSample x s).tmu.link = s.tmu.link ∧ (screenSample x s).tmu.exchange = none := by
  unfold screenSample
  split
  · split
    · rw [stepTime_noExchange _ (by simpa using h)]
      exact ⟨rfl, rfl, h⟩
    · simp [Tmu.putMark, h]
  · split <;> simp [Tmu.putMark, h]
  · exact ⟨rfl, rfl, h⟩

/-- With no exchange in flight, a valid sample of a source that is not DISABLED leaves its record with the outcome, and none in flight. -/
theorem takeSample_leaves {src : Source} {s : State} (h : (s.tmu.source src).qual ≠ .disabled) (he : s.tmu.exchange = none) (x : Sample) :
    (takeSample src x s).tmu.source src = (s.tmu.source src).withSample x ∧ (takeSample src x s).tmu.exchange = none := by
  have hkept : ((s.updTmu fun t => t.updSource src fun r => { r with last := some x }).tmu.source src) = { s.tmu.source src with last := some x } :=
    (source_updSource _ _ _).1
  have hscreened : ∀ u : State, u.tmu.exchange = none →
      (if s.tmu.selected = some src then screenSample x u else u).tmu.source src = u.tmu.source src
        ∧ (if s.tmu.selected = some src then screenSample x u else u).tmu.exchange = none := fun u hu => by
    obtain ⟨hgnss, hlink, hexchange⟩ := screenSample_sources x hu
    split
    · exact ⟨source_congr hgnss hlink src, hexchange⟩
    · exact ⟨rfl, hu⟩
  rw [takeSample, if_neg h]
  obtain ⟨hsource, hexchange⟩ := hscreened
    (tsuSample src x (takeOutcome src true (s.updTmu fun t => t.updSource src fun r => { r with last := some x }))) (by simpa using he)
  refine ⟨hsource.trans ?_, hexchange⟩
  simp only [tsuSample_frame]
  rw [takeOutcome_source (by rw [hkept]; exact h), hkept]
  rfl

end Sys2Proof.Machine

/-! The reply of a time exchange (R141, R143). -/

namespace Sys2Proof.Machine

open Sys2Proof

/-! ## The reply taken -/

/-- The exchange in flight ended. -/
def State.exchangeEnded (s : State) : State := s.updTmu fun t => { t with exchange := none }

/-- The exchange in flight ended with a usable outcome's path delay. -/
def State.replied (s : State) (delay : Int) : State := s.exchangeEnded.updTmu fun t => { t with pathDelay := some delay }

/-- A far frame in UP that brings a reply alone: its margin and pattern recorded. -/
def State.heard (s : State) (m : Int) (p : Option PatternCheck) : State :=
  { s with lkc := { s.lkc with syncMiss := 0, far := some ⟨max (-400) (min 400 m), 0⟩, farPattern := p } }

theorem farFrame_reply {s : State} (hup : s.lkc.state = .up) (m : Int) (p : Option PatternCheck) (r : TimeReply) :
    exec (.farFrame ⟨true, m, [], some r, none, p⟩) s = .next (takeReply r (s.heard m p)) := farFrame_synced hup rfl

/-- The outcome that a reply of an exchange makes at this site time, by the ladder's asymmetry. -/
def State.replyOutcome (s : State) (x : Exchange) (t1 : SiteTime) (r : TimeReply) : Option (Sample × Int) :=
  linkOutcome x.second t1 s.tmu.site r ((s.lkc.ladder.map Ladder.asymmetry).getD 0)

section reply

variable {s : State} {r : TimeReply} {x : Exchange} {e : ExchangeSent}

theorem takeReply_discarded (h : ∀ x e, s.tmu.exchange = some x → x.sent = some e → e.t1 ≠ r.echo) : takeReply r s = s := by
  unfold takeReply
  split
  · next n q sent hx => exact if_neg fun heq => h _ sent hx rfl heq.symm
  · rfl

theorem takeReply_unusable (hx : s.tmu.exchange = some x) (he : x.sent = some e) (hecho : e.t1 = r.echo)
    (h : s.replyOutcome x e.t1 r = none) : takeReply r s = takeOutcome .link false s.exchangeEnded := by
  obtain ⟨n, q, sent⟩ := x
  cases he
  simp only [State.replyOutcome] at h
  simp only [takeReply, hx, if_pos hecho.symm, h]
  rfl

/-- A usable reply while LINK is DISABLED sets the last sample alone (R136, R140). -/
theorem takeReply_disabled (hx : s.tmu.exchange = some x) (he : x.sent = some e) (hecho : e.t1 = r.echo) {y : Sample} {delay : Int}
    (h : s.replyOutcome x e.t1 r = some (y, delay)) (hq : s.tmu.link.qual = .disabled) :
    takeReply r s = s.exchangeEnded.updTmu fun t => t.updSource .link fun l => { l with last := some y } := by
  obtain ⟨n, q, sent⟩ := x
  cases he
  simp only [State.replyOutcome] at h
  simp only [takeReply, hx, if_pos hecho.symm, h, if_pos hq]
  exact takeSample_disabled (src := .link) (s := s.exchangeEnded) hq y

/-- A usable reply while LINK is not DISABLED sets the path delay, and its sample is taken. -/
theorem takeReply_sampled (hx : s.tmu.exchange = some x) (he : x.sent = some e) (hecho : e.t1 = r.echo) {y : Sample} {delay : Int}
    (h : s.replyOutcome x e.t1 r = some (y, delay)) (hq : s.tmu.link.qual ≠ .disabled) :
    takeReply r s = takeSample .link y (s.replied delay) := by
  obtain ⟨n, q, sent⟩ := x
  cases he
  simp only [State.replyOutcome] at h
  simp only [takeReply, hx, if_pos hecho.symm, h, if_neg hq]
  rfl

/-- A matching reply ends the exchange, whatever its outcome. -/
theorem takeReply_ends (hx : s.tmu.exchange = some x) (he : x.sent = some e) (hecho : e.t1 = r.echo) :
    (takeReply r s).tmu.exchange = none := by
  cases h : s.replyOutcome x e.t1 r with
  | none =>
    rw [takeReply_unusable hx he hecho h]
    simp [State.exchangeEnded]
  | some o =>
    by_cases hq : s.tmu.link.qual = .disabled
    · rw [takeReply_disabled hx he hecho h hq]
      rfl
    · rw [takeReply_sampled hx he hecho h hq]
      exact (takeSample_leaves (src := .link) (s := s.replied o.2) hq rfl o.1).2

end reply

/-! ## The obligation -/

/-- Settles O53: the reply discarded, unusable or usable, and a usable one by whether LINK is DISABLED. -/
theorem timeRepliesTaken : Obligations.TimeRepliesTaken := by
  intro m p r s hup
  have hexec := farFrame_reply hup m p r
  refine ⟨fun h => hexec.trans (congrArg _ (takeReply_discarded h)), fun x e hx he hecho => ⟨_, hexec, by simp [State.heard], ?_,
    handOn_recordsStand ⟨true, m, [], some r, none, p⟩ s, by simp [State.heard], fun hnone => ?_, fun y delay hsome => ?_⟩⟩
  · exact takeReply_ends (s := s.heard m p) hx he hecho
  · rw [takeReply_unusable (s := s.heard m p) hx he hecho hnone]
    refine ⟨takeOutcome_last .link false _, by simp [State.heard, State.exchangeEnded], by simp [State.heard, State.exchangeEnded],
      fun hq => ?_, takeOutcome_invalid (src := .link) (s := (s.heard m p).exchangeEnded)⟩
    rw [takeOutcome_disabled (src := .link) (s := (s.heard m p).exchangeEnded) hq]
    rfl
  · by_cases hq : s.tmu.link.qual = .disabled
    · rw [takeReply_disabled (s := s.heard m p) hx he hecho hsome hq]
      exact ⟨rfl, fun _ => rfl, fun hne => absurd hq hne, fun hqual => by simp [hq] at hqual⟩
    · rw [takeReply_sampled (s := s.heard m p) hx he hecho hsome hq]
      obtain ⟨hlink, -⟩ := takeSample_leaves (src := .link) (s := (s.heard m p).replied delay) hq rfl y
      obtain ⟨hlast, hvalid, hinvalid⟩ := withSample_leaves s.tmu.link y
      refine ⟨(congrArg SourceRec.last hlink).trans hlast, fun hd => absurd hd hq, fun _ => ⟨by simp [State.replied],
        (congrArg SourceRec.validRun hlink).trans hvalid, (congrArg SourceRec.invalidRun hlink).trans hinvalid⟩,
        fun hqual hqueue hb => takeSample_tsu (s := s) (u := (s.heard m p).replied delay) hqual rfl rfl rfl rfl rfl hqueue hb⟩

end Sys2Proof.Machine

/-! TIME_COMPARE orders (R178, R179). -/

namespace Sys2Proof.Machine

open Sys2Proof

/-! ## The order's end -/

/-- An order ended with the record as it stood, and what follows leaving the test record and the site. -/
theorem closes_of_endRunning {s v t : State} {o : Order} {p : Progress} {out : TestOutcome}
    (hv : s.scu.site ≠ .bringup → v.tsu.running = some ⟨o, p⟩ ∧ v.tsu.queued = s.tsu.queued ∧ v.tsu.nextSeq = s.tsu.nextSeq
      ∧ v.scu.site = s.scu.site)
    (ht : (endRunning out v).tsu.running = none → (endRunning out v).testsStand t) : s.closes t o out (measuresOf o p) := fun m hq hb hm => by
  obtain ⟨hr, hqueued, hseq, hsite⟩ := hv hb
  rw [← hqueued] at hq
  rw [← hsite] at hb
  rw [← hseq] at hm
  obtain ⟨hrun, hqueue, -⟩ := endRunning_entry hr hq hb hm out
  obtain ⟨htsu, -⟩ := ht hrun (endRunning_alone hr hq hb out).2 fun _ => hqueue
  rw [State.closed, htsu]
  exact (endRunning_closed hr hq hb hm out).2

theorem setProgress_eq {s : State} {o : Order} {p : Progress} (hr : s.tsu.running = some ⟨o, p⟩) (q : Progress) :
    setProgress q s = { s with tsu := { s.tsu with running := some ⟨o, q⟩ } } := by
  rw [setProgress, State.updTsu, hr]
  rfl

/-- The running order ended with its progress replaced first. -/
theorem endRunning_closes {s u t : State} {o : Order} {p q : Progress} {out : TestOutcome} (hr : s.tsu.running = some ⟨o, p⟩)
    (hu : s.testsStand u) (ht : (endRunning out (setProgress q u)).tsu.running = none → (endRunning out (setProgress q u)).testsStand t) :
    s.closes t o out (measuresOf o q) := by
  refine closes_of_endRunning (fun hb => ?_) ht
  obtain ⟨htsu, hsite⟩ := hu hb fun hnone => by simp [hr] at hnone
  rw [setProgress_eq (s := u) (o := o) (p := p) (by rw [htsu, hr])]
  exact ⟨rfl, htsu ▸ rfl, htsu ▸ rfl, hsite⟩

/-! ## What a source's outcome leaves of an ended order (R144, R145) -/

theorem tsuSourceLeft_idle {s : State} (h : s.tsu.running = none) : tsuSourceLeft s = s := by
  unfold tsuSourceLeft
  rw [h]

theorem takeOutcome_testsStand {s : State} (h : s.tsu.running = none) (src : Source) (v : Bool) : s.testsStand (takeOutcome src v s) := by
  unfold takeOutcome qualificationChanged
  rw [tsuSourceLeft_idle (s := s.updTmu _) h, ite_self]
  split
  · exact .refl s
  · split
    · exact .of_same rfl rfl
    · exact judgeSelection_testsStand (s.updTmu _)

theorem boundaryExchange_testsStand {s : State} (h : s.tsu.running = none) (n : Nat) : s.testsStand (boundaryExchange n s) := by
  unfold boundaryExchange exchangeMissing
  split
  · split
    · exact .of_same rfl rfl
    · exact (takeOutcome_testsStand (s := s.updTmu _) h _ _).trans (.of_same rfl rfl)
  · exact takeOutcome_testsStand h _ _

/-! ## Comparisons (R178) -/

theorem difference_matched {x y : Sample} (hx : x.mismatch = 0) (hy : y.mismatch = 0) : difference x y = (x.error - y.error).natAbs :=
  if_neg (by simp [hx, hy])

theorem difference_mismatched {x y : Sample} (h : x.mismatch ≠ 0 ∨ y.mismatch ≠ 0) : difference x y = 1000000000 := if_pos h

/-- From `s`, the running TIME_COMPARE has ended with progress `p` where no other order is held or placed. -/
def State.endsCompare (s t : State) (id : Nat) (who : Requester) (c l : Nat) (out : TestOutcome) (p : CompareProgress) : Prop :=
  s.closes t ⟨id, who, .timeCompare c l⟩ out (measuresOf ⟨id, who, .timeCompare c l⟩ (.timeCompare p))

/-- A boundary before it is told to TSU: the second reached, the holdover counted and the class derived. -/
def boundaryReached (n : Nat) (s : State) : State := deriveClass ((s.updTmu fun t => { t with lastSecond := some n }).updTmu Tmu.countHoldover)

theorem boundaryReached_testsStand (n : Nat) (s : State) : s.testsStand (boundaryReached n s) := deriveClass_testsStand (State.updTmu (s.updTmu _) _)

theorem boundaryCounted_eq (n : Nat) (s : State) : boundaryCounted n s = tsuBoundary (boundaryReached n s) := rfl

section compare

variable {id c l : Nat} {who : Requester} {p : CompareProgress} {src : Source} {x y : Sample} {s : State}
  (hr : s.tsu.running = some ⟨⟨id, who, .timeCompare c l⟩, .timeCompare p⟩)

include hr

theorem tsuSample_endsFail (hy : p.heldOf src.other = some y) (hsec : y.second = x.second) (hd : l < difference x y) :
    s.endsCompare (tsuSample src x s) id who c l .fail (p.compare (difference x y)) := by
  rw [tsuSample_fails hr hy hsec hd]
  exact endRunning_closes hr (.refl s) fun _ => .refl _

theorem tsuSample_endsPass (hy : p.heldOf src.other = some y) (hsec : y.second = x.second) (hd : difference x y ≤ l) (hc : c ≤ p.made + 1) :
    s.endsCompare (tsuSample src x s) id who c l .pass (p.compare (difference x y)) := by
  rw [tsuSample_passes hr hy hsec hd hc]
  exact endRunning_closes hr (.refl s) fun _ => .refl _

/-! ## Boundaries (R178, R179) -/

theorem tsuBoundary_compared :
    tsuBoundary s
      = if 2 * c ≤ p.boundaries + 1 then endRunning .incomplete (setProgress (.timeCompare { p with boundaries := p.boundaries + 1 }) s)
        else setProgress (.timeCompare { p with boundaries := p.boundaries + 1 }) s := by
  simp only [tsuBoundary, hr]

/-- Outside BRINGUP the order reaches TSU's count as it stood. -/
theorem boundaryReached_tsu (hb : s.scu.site ≠ .bringup) (n : Nat) :
    (boundaryReached n s).tsu = s.tsu ∧ (boundaryReached n s).tsu.running = some ⟨⟨id, who, .timeCompare c l⟩, .timeCompare p⟩ := by
  obtain ⟨htsu, -⟩ := boundaryReached_testsStand n s hb fun hnone => by simp [hr] at hnone
  exact ⟨htsu, by rw [htsu, hr]⟩

/-- A boundary below twice the count, with no exchange in flight to end. -/
theorem raiseBoundary_counts (hl : s.scu.site ≠ .loading) (hup : s.lkc.state = .up) (he : s.tmu.exchange = none) (hb : s.scu.site ≠ .bringup)
    (hc : p.boundaries + 1 < 2 * c) (n : Nat) :
    (raiseBoundary n s).tsu
      = { s.tsu with running := some ⟨⟨id, who, .timeCompare c l⟩, .timeCompare { p with boundaries := p.boundaries + 1 }⟩ } := by
  obtain ⟨htsu, hreached⟩ := boundaryReached_tsu hr hb n
  have hcounted : boundaryCounted n s = setProgress (.timeCompare { p with boundaries := p.boundaries + 1 }) (boundaryReached n s) := by
    rw [boundaryCounted_eq, tsuBoundary_compared hreached, if_neg (not_le.mpr hc)]
  have hexchange : boundaryExchange n (boundaryCounted n s) = (boundaryCounted n s).updTmu fun t => { t with exchange := some { second := n } } := by
    rw [boundaryExchange, if_pos (by simp [State.linkUp, boundaryCounted_lkc, hup]), exchangeMissing_none (by simpa [boundaryCounted] using he)]
  rw [raiseBoundary_eq hl, hexchange, State.updTmu_tsu, hcounted, setProgress_eq hreached, htsu]

/-- The order's end at twice the count (R179). -/
theorem raiseBoundary_ends (hl : s.scu.site ≠ .loading) (hc : 2 * c ≤ p.boundaries + 1) (n : Nat) :
    s.endsCompare (raiseBoundary n s) id who c l .incomplete p := by
  intro m hq hb hm
  obtain ⟨-, hreached⟩ := boundaryReached_tsu hr hb n
  have hcounted : boundaryCounted n s
      = endRunning .incomplete (setProgress (.timeCompare { p with boundaries := p.boundaries + 1 }) (boundaryReached n s)) := by
    rw [boundaryCounted_eq, tsuBoundary_compared hreached, if_pos hc]
  rw [raiseBoundary_eq hl, hcounted]
  exact endRunning_closes hr (boundaryReached_testsStand n s) (fun hrun => boundaryExchange_testsStand hrun n) m hq hb hm

/-! ## A source that leaves QUALIFIED (R144, R179) -/

theorem sourceLeft_ends {v : State} (htsu : v.tsu = s.tsu) (hsite : v.scu.site = s.scu.site) :
    s.endsCompare (judgeSelection (tsuSourceLeft v)) id who c l .incomplete p := by
  have hrun : v.tsu.running = some ⟨⟨id, who, .timeCompare c l⟩, .timeCompare p⟩ := by rw [htsu, hr]
  have hended : tsuSourceLeft v = endRunning .incomplete v := by simp only [tsuSourceLeft, hrun]
  rw [hended]
  exact closes_of_endRunning (fun _ => ⟨hrun, congrArg Tsu.queued htsu, congrArg Tsu.nextSeq htsu, hsite⟩) fun _ => judgeSelection_testsStand _

end compare

section leaving

variable {src : Source} {s : State}

/-- The third outcome in a row that is not valid takes a QUALIFIED source out of it. -/
theorem takeOutcome_third (hq : (s.tmu.source src).qual = .qualified) (hi : (s.tmu.source src).invalidRun = 2) :
    (takeOutcome src false s).tmu.source src = { s.tmu.source src with validRun := 0, invalidRun := 3, qual := .unqualified }
      ∧ takeOutcome src false s = judgeSelection (tsuSourceLeft (s.updTmu fun t => t.updSource src fun r => r.afterOutcome false)) := by
  have hleft : (s.tmu.source src).afterOutcome false = { s.tmu.source src with validRun := 0, invalidRun := 3, qual := .unqualified } := by
    simp [SourceRec.afterOutcome, hq, hi]
  refine ⟨(takeOutcome_source (by simp [hq]) false).trans hleft, ?_⟩
  rw [takeOutcome, if_neg (by simp [hq]), qualificationChanged, if_neg, if_pos hq]
  rw [State.updTmu_tmu, (source_updSource _ _ _).1, hleft, hq]
  exact Qualification.noConfusion

theorem takeOutcome_ends {v : State} {id c l : Nat} {who : Requester} {p : CompareProgress}
    (hr : s.tsu.running = some ⟨⟨id, who, .timeCompare c l⟩, .timeCompare p⟩) (htsu : v.tsu = s.tsu) (hsite : v.scu.site = s.scu.site)
    (hq : (v.tmu.source src).qual = .qualified) (hi : (v.tmu.source src).invalidRun = 2) :
    s.endsCompare (takeOutcome src false v) id who c l .incomplete p := by
  rw [(takeOutcome_third hq hi).2]
  exact sourceLeft_ends hr htsu hsite

/-- A write of priority 0 takes a QUALIFIED source out of it too. -/
theorem writePriority_zero (hq : (s.tmu.source src).qual = .qualified) :
    writePriority src 0 s = judgeSelection (tsuSourceLeft (priorityWritten src 0 s)) := by
  have hleft : (s.tmu.qualified src && decide (0 = 0)) = true := by simp [Tmu.qualified, hq]
  rw [writePriority, if_pos hleft]
  rfl

end leaving

/-! ## The obligation -/

/-- Settles O60: a sample by whether the other source's is held, a pulse by the sample taken, a boundary by the count, and the three ways
in which a source leaves QUALIFIED. -/
theorem timeCompareRuns : Obligations.TimeCompareRuns := by
  intro id c l who p s hr
  refine ⟨fun src x => ⟨fun h => (tsuSample_held hr h).trans (setProgress_eq hr _), fun y hy hsec hx0 hy0 => ?_⟩,
    fun src x y hy hsec hmis hl => ?_, fun sec hl hm hq he hqueue hb => ?_, fun n hl hn hlast => ?_, fun n hl hq hi hn hdue => ?_,
    fun x e hq hi hx he hdue => ?_, fun k tag ps src hask hps hq => ?_⟩
  · have hfail := tsuSample_endsFail hr hy hsec
    have hpass := tsuSample_endsPass hr hy hsec
    have hgoes := tsuSample_compares hr hy hsec
    rw [difference_matched hx0 hy0] at hfail hpass hgoes
    exact ⟨hfail, hpass, fun hd hc => (hgoes hd hc).trans (setProgress_eq hr _)⟩
  · have hfail := tsuSample_endsFail hr hy hsec
    rw [difference_mismatched hmis] at hfail
    exact hfail hl
  · refine ⟨gnssPulse s, rfl, ?_⟩
    rw [gnssPulse_valid hl hm]
    exact takeSample_tsu (src := .gnss) (s := s) (u := pulseTaken s) hq he rfl rfl rfl rfl hqueue hb
  · refine ⟨siteSecond n s, rfl, fun hc => ?_, fun hc hup he hb => ?_⟩ <;> rw [siteSecond_boundary hn hlast]
    · exact raiseBoundary_ends (s := s.updTmu Tmu.takeSecond) hr hl hc n
    · exact raiseBoundary_counts (s := s.updTmu Tmu.takeSecond) hr hl hup he hb hc n
  · have hexpired := pulseTimerExpiry_due hn hdue
    refine ⟨pulseTimerExpiry s, rfl, ?_, ?_⟩ <;> rw [hexpired]
    · exact congrArg SourceRec.qual (takeOutcome_third (src := .gnss) (s := pulseTaken s) hq hi).1
    · exact takeOutcome_ends (src := .gnss) (v := pulseTaken s) hr rfl rfl hq hi
  · have hexpired := (replyTimerExpiry_due hx he hdue).trans (exchangeMissing_some hx)
    refine ⟨replyTimerExpiry s, rfl, ?_, ?_⟩ <;> rw [hexpired]
    · exact congrArg SourceRec.qual (takeOutcome_third (src := .link) (s := s.exchangeEnded) hq hi).1
    · exact takeOutcome_ends (src := .link) (v := s.exchangeEnded) hr rfl rfl hq hi
  · have hserved : exec (.setSourcePriority k tag ps) s = .next (answer k tag .ok [] (writePriority src 0 s)) := by
      refine congrArg Host.Outcome.next ((serve_mayAsk hask tag _ (.inl rfl)).trans ?_)
      rw [hps]
      rfl
    obtain ⟨-, -, hown, -⟩ := writePriority_tmu src 0 s
    refine ⟨writePriority src 0 s, hserved, ?_, ?_⟩
    · rw [hown, atPriority_zero]
    · rw [writePriority_zero hq]
      exact sourceLeft_ends (v := priorityWritten src 0 s) hr rfl rfl

end Sys2Proof.Machine

/-! The timing state (R145, R147, R148, R150 to R152): a sample of the selected source screened, and the moves at a change of selection. -/

namespace Sys2Proof.Machine

open Sys2Proof

/-! ## Marks (R147, R148) -/

/-- A sample marked and applied with a bank. -/
def Tmu.tracked (t : Tmu) (x : Sample) (bank : LoopBank) : Tmu := (t.putMark (t.markOf x)).apply bank x.error

/-- A sample above the outlier limit: flagged, and marked OUTSIDE. -/
def Tmu.outlying (t : Tmu) : Tmu := { t with sticky := { t.sticky with outlierSeen := true } }.putMark .outside

/-- Eight marks INSIDE lock an acquiring loop. -/
theorem judgeMarks_acquiring {t : Tmu} (h : t.timing = .acquiring) :
    (t.history.length = 8 ∧ (∀ a ∈ t.history, a = .inside) →
        t.judgeMarks = { t with timing := .locked, everLocked := true, holdover := 0 })
      ∧ (¬(t.history.length = 8 ∧ ∀ a ∈ t.history, a = .inside) → t.judgeMarks = t) := by
  have hall : (t.history.length = 8 ∧ t.history.count .inside = 8) ↔ t.history.length = 8 ∧ ∀ a ∈ t.history, a = .inside := by
    refine and_congr_right fun hlen => ?_
    rw [← hlen, List.count_eq_length]
    exact forall₂_congr fun _ _ => eq_comm
  simp only [Tmu.judgeMarks, h]
  exact ⟨fun hin => if_pos (hall.mpr hin), fun hout => if_neg (mt hall.mp hout)⟩

/-- Fewer than five return a locked one to ACQUIRING. -/
theorem judgeMarks_locked {t : Tmu} (h : t.timing = .locked) :
    (5 ≤ t.history.count .inside → t.judgeMarks = t)
      ∧ (t.history.count .inside < 5 → t.judgeMarks = { t with timing := .acquiring, history := [] }) := by
  simp only [Tmu.judgeMarks, h]
  exact ⟨fun hin => if_neg (not_lt.mpr hin), fun hout => if_pos hout⟩

/-! ## The screen of the timing state (R150, R151) -/

section screen

variable {s : State} {x : Sample}

theorem above_iff (x : Sample) (limit : Nat) : x.above limit = true ↔ x.mismatch ≠ 0 ∨ limit < x.error.natAbs := decide_eq_true_iff

theorem screenSample_steps (h : s.tmu.timing = .acquiring) (hx : x.mismatch ≠ 0 ∨ s.tmu.params.stepLimit < x.error.natAbs) :
    screenSample x s = stepTime (timeOfNs (timeNs s.tmu.site - x.full)) (s.updTmu fun t => { t with history := [] }) := by
  simp only [screenSample, h, if_pos ((above_iff _ _).mpr hx)]

theorem screenSample_acquires (h : s.tmu.timing = .acquiring) (hx : ¬(x.mismatch ≠ 0 ∨ s.tmu.params.stepLimit < x.error.natAbs)) :
    screenSample x s = deriveClass (s.updTmu fun t => (t.tracked x t.params.acquire).judgeMarks) := by
  simp only [screenSample, h, if_neg (mt (above_iff _ _).mp hx)]
  rfl

theorem screenSample_outlies (h : s.tmu.timing = .locked) (hx : x.mismatch ≠ 0 ∨ s.tmu.params.outlierLimit < x.error.natAbs) :
    screenSample x s = deriveClass (s.updTmu fun t => t.outlying.judgeMarks) := by
  simp only [screenSample, h, if_pos ((above_iff _ _).mpr hx)]
  rfl

theorem screenSample_tracks (h : s.tmu.timing = .locked) (hx : ¬(x.mismatch ≠ 0 ∨ s.tmu.params.outlierLimit < x.error.natAbs)) :
    screenSample x s = deriveClass (s.updTmu fun t => (t.tracked x t.params.track).judgeMarks) := by
  simp only [screenSample, h, if_neg (mt (above_iff _ _).mp hx)]
  rfl

theorem screenSample_ignored (h : s.tmu.timing = .freerun ∨ s.tmu.timing = .holdover) : screenSample x s = s := by
  obtain h | h := h <;> simp only [screenSample, h]

end screen

/-! ## What the loop works on -/

/-- What the loop works on stands: nothing moves but the sources' records, the path delay, and what is pending of a message, a pulse and
an exchange. -/
def Tmu.loopStands (t u : Tmu) : Prop :=
  ∃ g l m p e d, u = { t with gnss := g, link := l, message := m, pulseTimer := p, exchange := e, pathDelay := d }

theorem Tmu.loopStands.refl (t : Tmu) : t.loopStands t := ⟨_, _, _, _, _, _, rfl⟩

theorem Tmu.loopStands.trans {t u v : Tmu} (h1 : t.loopStands u) (h2 : u.loopStands v) : t.loopStands v := by
  obtain ⟨_, _, _, _, _, _, rfl⟩ := h1
  obtain ⟨_, _, _, _, _, _, rfl⟩ := h2
  exact ⟨_, _, _, _, _, _, rfl⟩

theorem updSource_loopStands (t : Tmu) (src : Source) (f : SourceRec → SourceRec) : t.loopStands (t.updSource src f) := by
  cases src <;> exact ⟨_, _, _, _, _, _, rfl⟩

theorem selection_of_gnss {t : Tmu} (hg : t.gnss.qual = .qualified) (hl : t.link.qual ≠ .qualified) : t.selection = some .gnss := by
  simp [Tmu.selection, Tmu.qualified, Tmu.source, hg, hl]

/-- A missing outcome of LINK while GNSS is QUALIFIED and selected: LINK can but leave QUALIFIED, and GNSS stays selected. -/
theorem takeOutcome_link_loopStands {s : State} (hsel : s.tmu.selected = some .gnss) (hg : s.tmu.gnss.qual = .qualified) :
    s.tmu.loopStands (takeOutcome .link false s).tmu := by
  have hmoved : s.tmu.loopStands (s.tmu.updSource .link fun r => r.afterOutcome false) := updSource_loopStands _ _ _
  unfold takeOutcome qualificationChanged
  split
  · exact .refl _
  · split
    · exact hmoved
    · next hchanged =>
      have hleft : (s.tmu.link.afterOutcome false).qual ≠ .qualified := fun hq => by
        obtain ⟨hwas, hrun⟩ | hwas : (s.tmu.link.qual = .qualified ∧ min 3 (s.tmu.link.invalidRun + 1) = 3)
            ∨ ¬(s.tmu.link.qual = .qualified ∧ min 3 (s.tmu.link.invalidRun + 1) = 3) := em _
        · simp [SourceRec.afterOutcome, hwas, hrun] at hq
        · exact hchanged (if_neg hwas)
      have hselection : (s.tmu.updSource .link fun r => r.afterOutcome false).selection = some .gnss := selection_of_gnss hg hleft
      rw [judgeSelection, if_pos]
      · split
        · simpa using hmoved
        · exact hmoved
      · split
        · simp only [tsuSourceLeft_frame, State.updTmu_tmu]
          exact hselection.trans hsel.symm
        · exact hselection.trans hsel.symm

/-- The exchange in flight ends without a move of the loop: there is none, or GNSS is QUALIFIED and selected. -/
def Tmu.exchangeApart (t : Tmu) : Prop := t.exchange = none ∨ (t.selected = some .gnss ∧ t.gnss.qual = .qualified)

theorem exchangeMissing_loopStands {s : State} (h : s.tmu.exchangeApart) : s.tmu.loopStands (exchangeMissing s).tmu := by
  cases hx : s.tmu.exchange with
  | none =>
    rw [exchangeMissing_none hx]
    exact .refl _
  | some x =>
    obtain hnone | ⟨hsel, hg⟩ := h
    · simp [hx] at hnone
    · rw [exchangeMissing_some hx]
      exact Tmu.loopStands.trans ⟨_, _, _, _, _, _, rfl⟩ (takeOutcome_link_loopStands (s := s.updTmu fun t => { t with exchange := none }) hsel hg)

/-- A step by a sample leaves the clock stepped and the history empty. -/
theorem screenSample_stepped {s : State} {x : Sample} (h : s.tmu.timing = .acquiring)
    (hx : x.mismatch ≠ 0 ∨ s.tmu.params.stepLimit < x.error.natAbs) (ha : s.tmu.exchangeApart) :
    ({ s.tmu with history := [] }.stepTo (timeOfNs (timeNs s.tmu.site - x.full))).loopStands (screenSample x s).tmu
      ∧ (screenSample x s).tmu.exchange = none := by
  rw [screenSample_steps h hx]
  exact ⟨exchangeMissing_loopStands (s := (s.updTmu fun t => { t with history := [] }).updTmu fun t => t.stepTo _) ha,
    exchangeMissing_exchange _⟩

/-! ## The samples that reach the screen -/

/-- The sample of a QUALIFIED source that is selected is screened by the loop as it stood. -/
theorem takeSample_screened {src : Source} {s : State} (hsel : s.tmu.selected = some src) (hq : (s.tmu.source src).qual = .qualified)
    (x : Sample) :
    ∃ u : State, takeSample src x s = screenSample x u ∧ s.tmu.loopStands u.tmu ∧ (u.tmu.source src).qual = .qualified
      ∧ u.tmu.exchange = s.tmu.exchange := by
  refine ⟨tsuSample src x (sampled src x s), by rw [takeSample_qualified hq, if_pos hsel], ?_, ?_, by simp [sampled]⟩ <;>
    simp only [tsuSample_frame]
  · exact updSource_loopStands s.tmu src fun r => r.withSample x
  · refine (congrArg SourceRec.qual (source_updSource s.tmu src _).1).trans ?_
    exact afterOutcome_qualified (r := { s.tmu.source src with last := some x }) hq

/-- What a command that brings a sample comes to: the sample screened by the loop as it stood, with LKC's record the one named. -/
def State.screens (s : State) (c : Instr) (x : Sample) (lkc : Lkc) : Prop :=
  ∃ u : State, exec c s = .next (screenSample x u) ∧ (screenSample x u).lkc = lkc ∧ s.recordsStand (screenSample x u)
    ∧ s.tmu.loopStands u.tmu ∧ u.tmu.exchangeApart

theorem gnssPulse_screens {s : State} (hsel : s.tmu.selected = some .gnss) (hq : s.tmu.gnss.qual = .qualified)
    (hl : s.scu.site ≠ .loading) {sec : Nat} (hm : s.tmu.message = some ⟨sec, true⟩) :
    s.screens .gnssPulse (gnssSample s.tmu.site sec) s.lkc := by
  obtain ⟨u, hu, hloop, hqual, -⟩ := takeSample_screened (s := pulseTaken s) hsel hq (gnssSample s.tmu.site sec)
  rw [← gnssPulse_valid hl hm] at hu
  refine ⟨u, congrArg Host.Outcome.next hu, ?_, ?_, Tmu.loopStands.trans ⟨_, _, _, _, _, _, rfl⟩ hloop, .inr ⟨?_, hqual⟩⟩
  · simp [← hu]
  · exact hu ▸ gnssPulse_recordsStand s
  · obtain ⟨_, _, _, _, _, _, hsame⟩ := hloop
    rw [hsame]
    exact hsel

theorem farFrame_screens {s : State} (hup : s.lkc.state = .up) {r : TimeReply} {x : Exchange} {e : ExchangeSent}
    (hsel : s.tmu.selected = some .link) (hq : s.tmu.link.qual = .qualified) (hx : s.tmu.exchange = some x) (he : x.sent = some e)
    (hecho : e.t1 = r.echo) {y : Sample} {delay : Int} (h : s.replyOutcome x e.t1 r = some (y, delay)) (m : Int) (p : Option PatternCheck) :
    s.screens (.farFrame ⟨true, m, [], some r, none, p⟩) y (s.heard m p).lkc := by
  obtain ⟨u, hu, hloop, -, hexchange⟩ := takeSample_screened (s := (s.heard m p).replied delay) hsel hq y
  rw [← takeReply_sampled (s := s.heard m p) hx he hecho h (by simp [State.heard, hq])] at hu
  refine ⟨u, (farFrame_reply hup m p r).trans (congrArg _ hu), ?_, ?_, Tmu.loopStands.trans ⟨_, _, _, _, _, _, rfl⟩ hloop, .inl hexchange⟩
  · simp [← hu]
  · exact hu ▸ handOn_recordsStand ⟨true, m, [], some r, none, p⟩ s

/-! ## The moves at a change of selection (R145, R147, R154) -/

theorem moveSelected_some (t : Tmu) (src : Source) :
    (t.moveSelected (some src)).timing = .acquiring ∧ (t.moveSelected (some src)).y = t.y ∧ (t.moveSelected (some src)).integ = t.integ := by
  obtain ⟨_, _, _, _, _, timing⟩ := t
  cases timing <;> exact ⟨rfl, rfl, rfl⟩

/-- With no source selected the correction is the integrator's, and FREERUN starts both at 0. -/
theorem moveSelected_none (t : Tmu) :
    (t.timing = .locked → t.moveSelected none = { t with selected := none, history := [], timing := .holdover, holdover := 0, y := t.integ })
      ∧ (t.timing = .acquiring → t.everLocked = true →
          t.moveSelected none
            = { t with selected := none, history := [], timing := .holdover, holdover := t.params.hPhase, y := t.integ })
      ∧ (t.timing = .acquiring → t.everLocked = false →
          t.moveSelected none = { t with selected := none, history := [], timing := .freerun, integ := 0, y := 0 })
      ∧ (t.timing = .freerun ∨ t.timing = .holdover → t.moveSelected none = { t with selected := none, history := [] }) := by
  obtain ⟨_, _, _, _, _, timing, everLocked⟩ := t
  refine ⟨fun h => ?_, fun h hever => ?_, fun h hever => ?_, fun h => ?_⟩
  · cases h; rfl
  · cases h; cases hever; rfl
  · cases h; cases hever; rfl
  · obtain h | h := h <;> cases h <;> rfl

theorem moveSelected_history (t : Tmu) (sel : Option Source) : (t.moveSelected sel).history = [] := by
  unfold Tmu.moveSelected
  dsimp only
  (repeat' split) <;> rfl

/-- A change of selection moves the timing state, derives the class, and raises SOURCE in every slot. -/
theorem judgeSelection_moved {s : State} (h : s.tmu.selection ≠ s.tmu.selected) :
    (judgeSelection s).tmu
        = { s.tmu.moveSelected s.tmu.selection with cls := (s.tmu.moveSelected s.tmu.selection).derivedClass }
      ∧ (judgeSelection s).classDerived ∧ ∀ j, (judgeSelection s).pends j .source = true := by
  rw [judgeSelection, if_neg h]
  refine ⟨by rw [deriveClass_tmu]; simp, deriveClass_derived _, fun j => (deriveClass_follows _).keeps j _ ?_⟩
  rw [pends_raiseAll]
  simp

/-! ## The obligation -/

/-- Settles O54: a sample by the screen of its timing state, and the selection judged by whether it changes. -/
theorem samplesMoveTheTimingState : Obligations.SamplesMoveTheTimingState := by
  refine ⟨fun c src x lkc s hsel hq harrives => ?_, fun s => ⟨fun h => if_pos h, fun h => ?_⟩⟩
  · have hscreens : s.screens c x lkc := by
      obtain ⟨rfl, rfl, hl, rfl, sec, hm, rfl⟩ | ⟨rfl, hup, m, p, r, e, t1, timer, delay, rfl, hx, he, hecho, rfl, hout⟩ := harrives
      · exact gnssPulse_screens hsel hq hl hm
      · exact farFrame_screens hup hsel hq hx he hecho.symm hout m p
    obtain ⟨u, hexec, hlkc, hrecords, ⟨g, l, m, p, e, d, hloop⟩, hapart⟩ := hscreens
    refine ⟨screenSample x u, hexec, hlkc, hrecords, fun ht hx => ?_, fun ht hx => ?_, fun ht hx => ?_, fun ht hx => ?_, fun ht => ?_⟩
    · obtain ⟨⟨_, _, _, _, _, _, hstepped⟩, hexchange⟩ :=
        screenSample_stepped (s := u) (x := x) (by rw [hloop]; exact ht) (by rw [hloop]; exact hx) hapart
      rw [hstepped, hloop] at hexchange ⊢
      exact ⟨ht, rfl, rfl, rfl, rfl, rfl, rfl, rfl, hexchange⟩
    · obtain ⟨hlocks, hgoes⟩ := judgeMarks_acquiring (t := u.tmu.tracked x u.tmu.params.acquire) (by rw [hloop]; exact ht)
      rw [screenSample_acquires (by rw [hloop]; exact ht) (by rw [hloop]; exact hx), deriveClass_tmu, State.updTmu_tmu]
      rw [hloop] at hlocks hgoes ⊢
      by_cases hin : (s.tmu.tracked x s.tmu.params.acquire).history.length = 8
          ∧ ∀ a ∈ (s.tmu.tracked x s.tmu.params.acquire).history, a = .inside
      · rw [hlocks hin]
        exact ⟨⟨rfl, rfl, rfl⟩, rfl, rfl, fun _ => ⟨rfl, rfl, rfl, rfl⟩, fun hout => absurd hin hout⟩
      · rw [hgoes hin]
        exact ⟨⟨rfl, rfl, rfl⟩, rfl, rfl, fun h => absurd h hin, fun _ => ⟨ht, rfl⟩⟩
    · obtain ⟨hstays, hleaves⟩ := judgeMarks_locked (t := u.tmu.outlying) (by rw [hloop]; exact ht)
      rw [screenSample_outlies (by rw [hloop]; exact ht) (by rw [hloop]; exact hx), deriveClass_tmu, State.updTmu_tmu]
      rw [hloop] at hstays hleaves ⊢
      obtain hin | hout := le_or_gt 5 (s.tmu.outlying.history.count .inside)
      · rw [hstays hin]
        exact ⟨rfl, rfl, rfl, fun _ => ⟨ht, rfl⟩, fun h => absurd hin (not_le.mpr h)⟩
      · rw [hleaves hout]
        exact ⟨rfl, rfl, rfl, fun h => absurd h (not_le.mpr hout), fun _ => ⟨rfl, rfl⟩⟩
    · obtain ⟨hstays, hleaves⟩ := judgeMarks_locked (t := u.tmu.tracked x u.tmu.params.track) (by rw [hloop]; exact ht)
      rw [screenSample_tracks (by rw [hloop]; exact ht) (by rw [hloop]; exact hx), deriveClass_tmu, State.updTmu_tmu]
      rw [hloop] at hstays hleaves ⊢
      obtain hin | hout := le_or_gt 5 ((s.tmu.tracked x s.tmu.params.track).history.count .inside)
      · rw [hstays hin]
        exact ⟨⟨rfl, rfl, rfl⟩, fun _ => ⟨ht, rfl⟩, fun h => absurd hin (not_le.mpr h)⟩
      · rw [hleaves hout]
        exact ⟨⟨rfl, rfl, rfl⟩, fun h => absurd h (not_le.mpr hout), fun _ => ⟨rfl, rfl⟩⟩
    · rw [screenSample_ignored (by rw [hloop]; exact ht), hloop]
      exact ⟨rfl, rfl, rfl, rfl⟩
  · obtain ⟨hmoved, hderived, hpends⟩ := judgeSelection_moved h
    refine ⟨?_, ?_, hderived, hpends, fun hsome => ?_, fun hnone => ?_⟩
    · rw [hmoved]
      exact moveSelected_selected _ _
    · rw [hmoved]
      exact moveSelected_history _ _
    · obtain ⟨src, hsrc⟩ := Option.isSome_iff_exists.mp hsome
      rw [hmoved, hsrc]
      exact moveSelected_some _ src
    · obtain ⟨hlocked, hever, hnever, hidle⟩ := moveSelected_none s.tmu
      rw [hmoved, hnone]
      refine ⟨fun ht => ?_, fun ht he => ?_, fun ht he => ?_, fun ht => ?_⟩
      · rw [hlocked ht]
        exact ⟨rfl, rfl, rfl, rfl⟩
      · rw [hever ht he]
        exact ⟨rfl, rfl, rfl, rfl⟩
      · rw [hnever ht he]
        exact ⟨rfl, rfl, rfl⟩
      · rw [hidle ht]
        exact ⟨rfl, rfl⟩

end Sys2Proof.Machine
